-- ==== Sys2Proof/Word.lean ====
section
/-! DEFINITION. The word and byte types of the Tilaro 256D's registers (R13) and the index types of R11. -/

namespace Sys2Proof

/-- A register word: 32 bits (R13). -/
abbrev Word := BitVec 32

/-- A byte of the management port, of an image or of the MRAM. -/
abbrev Byte := BitVec 8

/-- Unit number u (R11). -/
abbrev UnitId := Fin 256
/-- Global cluster number c (R11). -/
abbrev ClusterId := Fin 32
/-- Global region number q (R11). -/
abbrev RegionId := Fin 8
/-- Line die number d (R11). -/
abbrev DieId := Fin 4

end Sys2Proof
end

