-- ==== Sys2Proof/Syntax.lean ====
section
/-! DEFINITION. The commands of the block: one constructor of `Instr` per row of the spec's table of
operations and events, with the operands the row's rule needs. A command is an event: its sender (the bus
master, the clock, a detector, the analogue side, the far end) says that it occurs and carries what it measured. -/

namespace Sys2Proof

/-- How the master ends a transaction (R314, R319). -/
inductive Framing where
  | wellFormed
  /-- MSEL_N rises before the last byte. -/
  | short
  /-- Extra MCLK edges arrive before MSEL_N rises. -/
  | long
  /-- The command byte's MARK is not 10, its OP is 7, or a count byte has bits [7:6] not 00. -/
  | invalid
  deriving DecidableEq, Repr

/-- The two reference inputs (R393). -/
inductive Ref where
  | refA
  | refB
  deriving DecidableEq, Repr

/-- The gated blocks: the four hub blocks of R406, and a region's kerbs (R407). -/
inductive Gate where
  | hubBlock (i : Fin 4)
  | kerbs (q : RegionId)
  deriving DecidableEq, Repr

/-- A block that a reset of R576 holds; a die, whose detectors a package self-test masks (R480, R495). -/
inductive ResetBlk where
  | unit (u : UnitId)
  | cluster (c : ClusterId)
  | region (q : RegionId)
  | die (n : DieId)
  deriving DecidableEq, Repr

/-- The elastic buffers of a unit (R36), in the order of LU_RX_EVT bits 4 to 7 (R167). -/
inductive Buf where
  | lineRx
  | hostTx
  | hostRx
  | lineTx
  deriving DecidableEq, Repr

/-- Where an event is located (R29, R30, R471). `sub` is SUB of R471. `word` names a word of an array (R487)
by array index, its functional owner's index and the macro, and word within the macro. -/
inductive Loc where
  | unit (u : Nat) (sub : Nat)
  | cluster (c : Nat) (sub : Nat)
  | region (q : Nat) (sub : Nat)
  | die (d : Nat) (sub : Nat) (tile : Nat)
  | package (sub : Nat)
  | word (array owner macroNo wordNo : Nat)
  /-- A macro of an array, for CE_RATE (R472); one of the deskew buffers has the number of its die as owner. -/
  | arrayMacro (array owner macroNo : Nat)
  deriving DecidableEq, Repr

/-- A fault event as its detector raises it (R470). -/
structure FltEvent where
  src : BitVec 8
  loc : Loc
  info : Word
  tag : Word
  deriving DecidableEq, Repr

/-- A line token as the converters hand it on (step 2 of R39, R140), with what the analogue side measures beside it. -/
structure RxToken where
  /-- The REFA edge of the present hub cycle at which the token enters the fabric: its tag is the REFA count plus `sub` (R37). -/
  sub : Fin 4
  /-- The 68 sample codes of the token and the three look-ahead samples of the next one (R140, R143); value v is code v - 127. -/
  codes : Vector (Fin 255) 68
  ahead : Vector (Fin 255) 3
  /-- Variance of the phase error, in 2^-16 symbol² (R148). -/
  phaseVar : Nat
  /-- Cycle time of the slowest stage of the direction, in ps (R153). -/
  cycle : Nat
  /-- Residence in the HOST_TX exit buffer, and in SPLIT the decoder's hold, in 1/6400 token, which is 0.1 ps (R157, R158). -/
  residence : Nat
  hold : Nat
  deriving DecidableEq, Repr

/-- A token from HOST_RX as the deserializer hands it on (step 1 of R40): its edge, its bits, the slowest stage's cycle time. -/
structure HostToken where
  sub : Fin 4
  bits : BitVec 136
  cycle : Nat
  deriving DecidableEq, Repr

/-- What discovery reads from flash device 0's tables (R330): `none` where it fails. -/
structure Discovery where
  readOp : BitVec 8
  modeKeep : BitVec 8
  hasExit : Bool
  dummy : BitVec 5
  deriving DecidableEq, Repr

/-- How a flash access of the package ended (R329, R330). -/
structure FlashRead where
  /-- The outcome of the discovery, used only when this access runs one. -/
  disc : Option Discovery
  /-- Every strobe edge was seen. -/
  strobes : Bool
  /-- The bytes read. -/
  bytes : List Byte
  deriving DecidableEq, Repr

/-- The access with which the package masters the bus (R308, R310, R332, R334): an image burst, a firmware page, or an access of the
controller to select codes 1 to 7; `again`: the one that yielded last. -/
inductive BusAccess where
  | burst
  | page
  | controller (again : Bool)
  deriving DecidableEq, Repr

/-- A bridge access in progress at a closing gate, whose acknowledge does not come (R360). -/
inductive CutAccess where
  | read (addr : BitVec 24) (cnt : Fin 64)
  | write (addr : BitVec 24)
  deriving DecidableEq, Repr

/-- How a start-up step ended (R525, R528). -/
structure StepEnd where
  ok : Bool
  /-- Duration in ms. -/
  ms : Nat
  /-- What the step found, per step: MRAM check bits, TRIM_FAIL of FG_TRIM. -/
  mask : Word
  deriving DecidableEq, Repr

/-- The target of an operation (R374). -/
inductive Target where
  | unit (u : UnitId)
  | cluster (c : ClusterId)
  | region (q : RegionId)
  | package
  | port (p : UnitId)
  deriving DecidableEq, Repr

/-- Source of an image load (R377). -/
inductive ImgSource where
  | slot0
  | slot1
  | host
  deriving DecidableEq, Repr

/-- The domain of a sleep transaction (R412). -/
inductive Domain where
  | doze (c : ClusterId)
  | deep (q : RegionId)
  deriving DecidableEq, Repr

/-- A member's vote (R412, R413). -/
inductive Vote where
  | ready
  | refuse (reason : Fin 12)
  deriving DecidableEq, Repr

/-- A member of a sleep transaction (R412). -/
inductive Member where
  | unit (u : UnitId)
  | crosstalk
  | spare
  | cluster (k : Fin 4)
  | retention
  deriving DecidableEq, Repr

/-- What wakes a domain (R416). -/
inductive WakeCause where
  | sigdet (u : UnitId)
  | squelch (u : UnitId)
  | region (q : RegionId)
  | cluster (c : ClusterId)
  deriving DecidableEq, Repr

/-- The counts of one counter window (R397). -/
structure FreqMeas where
  /-- Active count minus 2^22, ignored when the monitor was ABSENT. -/
  diff : Int
  /-- Cycles of the fallback oscillator in the window. -/
  fbCount : Nat
  /-- REFA toggled without a break through the window. -/
  toggleA : Bool
  toggleB : Bool
  deriving DecidableEq, Repr

/-- What one scrub step finds in the word it reads (R488, R489). -/
inductive EccFinding where
  | clean
  | correctable (syndrome : BitVec 8)
  | uncorrectable (syndrome : BitVec 8)
  | poisoned
  deriving DecidableEq, Repr

/-- A word of a region's retention SRAM that its restore finds in error: corrected, or lost (R421, R487, R488). -/
structure RetWord where
  macroNo : Fin 4
  wordNo : Fin 4096
  syndrome : BitVec 8
  lost : Bool
  deriving DecidableEq, Repr

/-- One failing element of a self-test (R499). -/
structure Failing where
  loc : Loc
  outcome : Fin 8
  count : BitVec 16
  deriving DecidableEq, Repr

/-- The 1,324 cells of the boundary register by the rows of R563. The port's bits stand in the column order of R544: MCLK,
MSEL_N, MD0 to MD3, MDS, SA0 to SA2, SAEN_N, ALERT_N, FAULT_N, RESET_N, PKG_ID0 to PKG_ID2. A pair has the number of its unit. -/
structure Boundary where
  port : BitVec 17 := 0
  htx : BitVec 256 := 0
  hrx : BitVec 256 := 0
  lineTx : BitVec 256 := 0
  lineRx : BitVec 256 := 0
  refs : BitVec 2 := 0
  ctl : BitVec 281 := 0
  deriving DecidableEq, Repr

/-- The pass through Capture-DR and Update-DR that follows the update of a boundary instruction: the levels that the cells meet, and
the bits shifted in (R563). -/
structure BoundaryScan where
  pins : Boundary
  data : Boundary
  deriving DecidableEq, Repr

/-- The commands of the block, one per row of the table of operations and events. -/
inductive Instr where
  -- the management port as slave
  | status (pkg : Fin 8) (fr : Framing)
  | read (pkg : Fin 8) (addr : BitVec 24) (fr : Framing)
  | write (pkg : Fin 8) (addr : BitVec 24) (data : Word) (fr : Framing)
  | readInc (pkg : Fin 8) (addr : BitVec 24) (cnt : Fin 64) (fr : Framing)
  | writeInc (pkg : Fin 8) (addr : BitVec 24) (ws : List Word) (fr : Framing)
  | readFix (pkg : Fin 8) (addr : BitVec 24) (cnt : Fin 64) (fr : Framing)
  | writeFix (pkg : Fin 8) (addr : BitVec 24) (ws : List Word) (fr : Framing)
  | rdTmo (pkg : Fin 8) (addr : BitVec 24) (cnt : Fin 64) (fix : Bool)
  | registerWrite (addr : BitVec 24) (data : Word)
  | postedWriteApply
  | rwtScrub
  | gateClose (g : Gate) (cut : Option CutAccess)
  -- the management port as master
  | yield (acc : BusAccess)
  | imageBurst (r : FlashRead)
  | pageFetch (page : Fin 256) (miss : Bool) (used : List (Fin 8)) (r : FlashRead)
  | faultExt
  -- reset and start-up
  | resetN (lowNs : Nat)
  | powerOnReset
  | start (straps : Fin 8)
  | startStepDone (r : StepEnd)
  | watchEnd
  | hubLinkLoss (d : DieId)
  -- crosswalks and block resets
  | crosswalkGo (mask : BitVec 16)
  | crosswalk
  | unitRst (u : UnitId)
  | clRst (c : ClusterId)
  | resetRelease (b : ResetBlk)
  -- the token path and the line
  | lineToken (u : UnitId) (t : RxToken)
  | hostRxToken (u : UnitId) (t : HostToken)
  | elasticSlip (u : UnitId) (b : Buf)
  | lineMarker (u : UnitId)
  | controlBlock (u : UnitId)
  | quietNotice (u : UnitId)
  | holdNotice (u : UnitId)
  | retrainAnnouncement (u : UnitId)
  | resumeSequence (u : UnitId)
  | resumeStart (u : UnitId)
  | resumeSendEnd (u : UnitId)
  | wakeEnergy (u : UnitId)
  | silence (u : UnitId)
  | silHold (u : UnitId)
  | headerLock (u : UnitId)
  | headerLockLoss (u : UnitId)
  | descrLock (u : UnitId)
  | descrUnlock (u : UnitId)
  | rxInv (u : UnitId)
  | precodeSet (u : UnitId)
  | switchStart (u : UnitId)
  | dataModeEntry (u : UnitId)
  | rxDataStart (u : UnitId)
  -- the cancellers
  | gearChange (u : UnitId)
  | surveyDwellEnd (u : UnitId) (p : Fin 62)
  | windowCheck (u : UnitId)
  | rescan (u : UnitId)
  | rescanDwellEnd (u : UnitId)
  | clRbRelease (c : ClusterId) (b : Fin 32)
  | tapPoolWrite (c : ClusterId) (w : Fin 2048) (data : Word) (f : EccFinding)
  -- the receiver
  | vgaHold (u : UnitId) (gain : Fin 32)
  | lqiWindow (u : UnitId)
  | trLock (u : UnitId)
  | trLockLoss (u : UnitId)
  | trRange (u : UnitId)
  | servoWindow (u : UnitId) (latency : Nat)
  | paceWindow (q : RegionId)
  | presetGo (u : UnitId) (preset : Fin 8)
  -- bring-up
  | en (u : UnitId) (v : Bool)
  | retrain (u : UnitId)
  | clrFail (u : UnitId)
  | reqPresetGo (u : UnitId) (preset : Fin 8)
  | stateLimit (u : UnitId)
  | lostFar (u : UnitId)
  | failureClassification (u : UnitId)
  | backoffEnd (u : UnitId)
  | boWake (u : UnitId)
  | coefApply (u : UnitId)
  | coefTmo (u : UnitId)
  -- host lanes
  | sigdet (u : UnitId)
  | hostIdle (u : UnitId) (stood : Bool)
  | cdrLock (u : UnitId)
  | cdrLol (u : UnitId)
  | hrxTmo (u : UnitId)
  | hostMarker (u : UnitId) (m : Nat)
  | portComesUp (p : UnitId)
  | htxSourceChange (u : UnitId)
  -- monitoring and tests
  | monitorInterval (u : UnitId)
  | cntClr (u : UnitId)
  | genPtChange (u : UnitId)
  | patLock (u : UnitId)
  | patLol (u : UnitId)
  | injGo (u : UnitId)
  | injStop (u : UnitId)
  | injection (u : UnitId)
  | mscanPointEnd (u : UnitId) (counts : Nat × Nat × Nat)
  | sweepDwellEnd (u : UnitId)
  -- the image
  | imgPush (data : Word)
  | pushTimeout
  | verification
  | regionStep (q : RegionId)
  | regionRelease (q : RegionId)
  | settleEnd (q : RegionId)
  | firmwareSwitch
  | firmwareRestartEnd
  -- posts to the operation table
  | nop (tag : BitVec 8)
  | portUp (p : UnitId) (tag : BitVec 8)
  | portDown (p : UnitId) (tag : BitVec 8)
  | opRetrain (t : Target) (cold : Bool) (tag : BitVec 8)
  | diagSnap (t : Target) (tag : BitVec 8)
  | diagSweep (t : Target) (tag : BitVec 8)
  | diagCold (t : Target) (tag : BitVec 8)
  | mscanCross (t : Target) (dw : Fin 32) (target : BitVec 8) (tag : BitVec 8)
  | mscanMap (t : Target) (dw : Fin 32) (target : BitVec 8) (tag : BitVec 8)
  | cal (t : Target) (force : Bool) (tag : BitVec 8)
  | memorySelftest (t : Target) (tag : BitVec 8)
  | analogueLoopBack (t : Target) (tag : BitVec 8)
  | logicScan (t : Target) (tag : BitVec 8)
  | imgLoad (src : ImgSource) (force : Bool) (tag : BitVec 8)
  | attest (n0 n1 n2 n3 : Word) (tag : BitVec 8)
  | lcChange (target : Fin 4) (tag : BitVec 8)
  | rgnReset (t : Target) (tag : BitVec 8)
  | pkgReset (tag : BitVec 8)
  | standbyEntry (tag : BitVec 8)
  | standbyExit (tag : BitVec 8)
  | standbyStepDone
  -- the operation table
  | entryStart (slot : Fin 1024)
  | entryDone (slot : Fin 1024) (fails : List Failing)
  | entryTimeout (slot : Fin 1024)
  | progressUpdate (slot : Fin 1024) (progress : BitVec 8) (stepNo : BitVec 8)
  | optCplLo
  | optCplCancel (handle : BitVec 16)
  -- the references
  | refAbsent (r : Ref)
  | freqWindow (m : FreqMeas)
  | bootRefb
  | clkSw (target : Ref)
  | switchBoundary
  | swDone
  | pllUnlock (c : ClusterId)
  -- power states
  | sleepOffer (dom : Domain) (stood : Bool)
  | sleepVote (dom : Domain) (m : Member) (v : Vote)
  | sleepDecision (dom : Domain)
  | sleepEntryDone (dom : Domain)
  | wakeTrigger (w : WakeCause)
  | dozeWakeDone (c : ClusterId)
  | deepWakeDone (q : RegionId) (us : Nat) (found : List RetWord)
  | pwrLtr (p : UnitId) (data : Word)
  | wake (q : RegionId)
  | stayAwake (q : RegionId)
  -- calibration
  | calEvaluation (c : ClusterId)
  | tempUpdate (c : ClusterId) (t : BitVec 16)
  | calCheckEnd (c : ClusterId)
  | matchIterationEnd (c : ClusterId) (diff sig : Nat)
  | retunePassEnd (c : ClusterId) (tdly ofs : List Int) (skew ofsRms : Nat)
  | verifyEnd (c : ClusterId) (diff sig : Nat)
  | calCommit (ok : Bool)
  -- the fault collector
  | faultEvent (e : FltEvent)
  | faultRecord
  | escWindow (src : BitVec 8)
  | maskEnd (b : ResetBlk)
  | safeExit
  | hqUnfreeze
  | snapAck
  | snapshot
  | scrubStep (array owner macroNo wordNo : Nat) (f : EccFinding)
  | bucketLeak
  | sigToken
  | sensorUpdate (d : DieId) (temps : List (BitVec 16))
  -- pins and boundary scan
  | plugChange (c : ClusterId) (mated rotated : Bool)
  | extest (x : BoundaryScan)
  | samplePreload (x : BoundaryScan)
  | idcode
  | clamp
  | highz
  | extestPulse (x : BoundaryScan)
  | extestTrain (x : BoundaryScan)
  | bypass
  | testLogicReset
  -- rows added at the end of the table
  | hubLinkRecovery (d : DieId)
  | stdTrainingEnd (u : UnitId) (ok : Bool)
  | stdLinkLoss (u : UnitId)
  | faultNRelease
  | bridgeWriteAccept (d : DieId)
  | identityKeyFuseProgramming (seed ident root : List Byte)
  deriving DecidableEq, Repr

end Sys2Proof
end

