-- ==== Sys2Proof/Decode.lean ====
section
/-! DEFINITION. The block takes commands from outside: the table gives its rows no bits. The seven operations of the management port
arrive as bytes, which are read here (R314, R315). -/

namespace Sys2Proof

/-- The command that a word spells by the table's bits: the table gives no row any bits, so there is none. -/
def decodeTableWord (_nbits _w : Nat) : Option Instr := none

/-! The bytes of a slave transaction (R314, R315) -/

/-- Byte i of a request; 0 where it has not come. -/
def reqByte (bs : List Byte) (i : Nat) : Nat := ((bs[i]?).getD 0).toNat

/-- The address bytes, most significant first, from byte 0 of what follows the command byte. -/
def reqAddr (bs : List Byte) : BitVec 24 := BitVec.ofNat 24 (reqByte bs 0 * 65536 + reqByte bs 1 * 256 + reqByte bs 2)

/-- A data word, least significant byte first, from byte i on. -/
def reqWord (bs : List Byte) (i : Nat) : Word :=
  BitVec.ofNat 32 (reqByte bs i + 256 * reqByte bs (i + 1) + 65536 * reqByte bs (i + 2) + 16777216 * reqByte bs (i + 3))

/-- How n bytes after the command byte are framed: `extra`: MCLK edges beyond the transaction came before MSEL_N rose (R319). -/
def reqFraming (bs : List Byte) (n : Nat) (extra : Bool) : Framing :=
  if bs.length < n then .short else if extra || decide (n < bs.length) then .long else .wellFormed

/-- The framing of a burst, whose count byte has bits [7:6] = 00; `data`: the bytes of each word that the request carries. -/
def burstFraming (bs : List Byte) (data : Nat) (extra : Bool) : Framing :=
  if 64 ≤ reqByte bs 3 then .invalid else reqFraming bs (4 + data * (reqByte bs 3 % 64 + 1)) extra

/-- The words of a write burst. -/
def reqWords (bs : List Byte) : List Word := (List.range (reqByte bs 3 % 64 + 1)).map (fun i => reqWord bs (4 + 4 * i))

/-- The command that the request bytes of a slave transaction spell; none: no command byte has come. An invalid command byte stands as
a STATUS with that framing: every package takes it alike (R314). -/
def decodeRequest (bs : List Byte) (extra : Bool) : Option Instr :=
  match bs with
  | [] => none
  | c :: r =>
    let pkg : Fin 8 := Fin.ofNat 8 (c.toNat / 32)
    let op := c.toNat / 4 % 8
    let cnt : Fin 64 := Fin.ofNat 64 (reqByte r 3)
    some (
      if c.toNat % 4 ≠ 2 ∨ op = 7 then .status pkg .invalid
      else if op = 0 then .status pkg (reqFraming r 0 extra)
      else if op = 1 then .read pkg (reqAddr r) (reqFraming r 3 extra)
      else if op = 2 then .write pkg (reqAddr r) (reqWord r 3) (reqFraming r 7 extra)
      else if op = 3 then .readInc pkg (reqAddr r) cnt (burstFraming r 0 extra)
      else if op = 4 then .writeInc pkg (reqAddr r) (reqWords r) (burstFraming r 4 extra)
      else if op = 5 then .readFix pkg (reqAddr r) cnt (burstFraming r 0 extra)
      else .writeFix pkg (reqAddr r) (reqWords r) (burstFraming r 4 extra))

/-- The command byte of an operation (R314). -/
def cmdByte (pkg : Fin 8) (op : Nat) : Byte := BitVec.ofNat 8 (32 * pkg.val + 4 * op + 2)

/-- The bytes of an address, and of a data word. -/
def addrBytes (a : BitVec 24) : List Byte := [(a >>> 16).setWidth 8, (a >>> 8).setWidth 8, a.setWidth 8]
def wordBytes (w : Word) : List Byte := [w.setWidth 8, (w >>> 8).setWidth 8, (w >>> 16).setWidth 8, (w >>> 24).setWidth 8]

/-- The request bytes of the seven operations (R315); the other commands send none. -/
def requestBytes : Instr → List Byte
  | .status p _ => [cmdByte p 0]
  | .read p a _ => cmdByte p 1 :: addrBytes a
  | .write p a w _ => cmdByte p 2 :: (addrBytes a ++ wordBytes w)
  | .readInc p a n _ => cmdByte p 3 :: (addrBytes a ++ [BitVec.ofNat 8 n.val])
  | .writeInc p a ws _ => cmdByte p 4 :: (addrBytes a ++ BitVec.ofNat 8 (ws.length - 1) :: ws.flatMap wordBytes)
  | .readFix p a n _ => cmdByte p 5 :: (addrBytes a ++ [BitVec.ofNat 8 n.val])
  | .writeFix p a ws _ => cmdByte p 6 :: (addrBytes a ++ BitVec.ofNat 8 (ws.length - 1) :: ws.flatMap wordBytes)
  | _ => []

end Sys2Proof
end

