-- ==== Sys2Proof/Machine/Place.lean ====
section
/-! DEFINITION. Places: the layout of the arrays (R28, R487), and where the events of a source are located (R472). -/

namespace Sys2Proof.Machine

/-- Owners of each array and macros to an owner (R27, R28, R487). -/
def arrayShape (a : Nat) : Nat × Nat :=
  if a = 0 then (32, 2) else if a = 1 then (32, 8) else if a = 2 then (8, 4) else if a = 3 then (256, 4)
  else if a = 4 then (1, 2) else if a = 5 then (1, 1) else if a = 6 then (1, 4) else if a = 7 then (1, 8) else (0, 0)

/-- Banks to a macro, words to a bank, spare rows to a bank (R28, R487). -/
def arrayBanks (a : Nat) : Nat := if a = 0 then 2 else if a = 1 ∨ a = 3 ∨ a = 5 then 1 else if a = 4 then 4 else 8
def bankWords (a : Nat) : Nat := if a = 3 ∨ a = 5 then 256 else 512
def spareRows (a : Nat) : Nat := if a = 2 then 4 else if a = 3 ∨ a = 5 then 1 else if a = 7 then 8 else 2

/-- A word of an array exists. -/
def wordExists (a o m w : Nat) : Bool :=
  decide (o < (arrayShape a).1 ∧ m < (arrayShape a).2 ∧ w < arrayBanks a * bankWords a)

/-- The owner's number of a macro, for the word of an array: the deskew buffers' macros belong to tile 10 of the die (R27, R472). -/
def macroOwner (a o : Nat) : Nat := if a = 3 then o / 64 else o

/-- The last macro owner's number, plus one. -/
def macroOwners (a : Nat) : Nat := if a = 3 then 4 else (arrayShape a).1

/-- The events of a source are located there (R472). -/
def locatedAt (src : Nat) (l : Loc) : Bool :=
  match l with
  | .unit u _ => decide (u < 256) && (decide (0x20 ≤ src ∧ src ≤ 0x25) || decide (0x30 ≤ src ∧ src ≤ 0x3C) || decide (src = 0x11))
  | .cluster c _ => decide (c < 32) && decide (src = 0x11 ∨ src = 0x14 ∨ src = 0x16)
  | .region q _ => decide (q < 8) && (decide (0x10 ≤ src ∧ src ≤ 0x13) || decide (src = 0x3D))
  | .die n _ _ => decide (n < 4) && (decide (2 ≤ src ∧ src ≤ 4) || decide (src = 0x15))
  | .package _ => decide (src = 1 ∨ src = 5) || decide (0x60 ≤ src ∧ src ≤ 0x6A) || decide (0xC0 ≤ src ∧ src ≤ 0xC9)
  | .word a o m w => decide (src = 0x40 + a) && wordExists a o m w
  | .arrayMacro a o m => decide (src = 0x48 + a ∧ o < macroOwners a ∧ m < (arrayShape a).2)

end Sys2Proof.Machine
end

