-- ==== Sys2Proof/Config.lean ====
section
/-! DEFINITION. What the spec leaves to functions it only names, and the free values: opaque constants, of which no
proof can see a value. -/

namespace Sys2Proof.Config

/-- SHA-256 of a byte string (R280 to R282): named by the spec, defined outside it. -/
opaque sha256 : List Byte → List Byte

/-- HSS verification of R513 (public key, message, signature): named by the spec, defined by the RFC it cites. -/
opaque hssVerify : List Byte → List Byte → List Byte → Bool

/-- The HSS signature that the identity key makes with one-time index n (R520), over a message. -/
opaque hssSign : Nat → List Byte → List Byte

/-- The vendor public key of the boot ROM (R514). -/
opaque vendorKey : List Byte

/-- The boot ROM version reported in a report body (R523). -/
opaque romVersion : Word

/-- The number of symbol errors an RS(544,514) decoder finds in the 5,440 bits of a codeword; none: uncorrectable (R245). -/
opaque rsErrors : List Bool → Option Nat

/-- The 5,440 bits that SPLIT sends on for a codeword: corrected, re-encoded, marked where uncorrectable (R41). -/
opaque rsRegenerate : List Bool → BitVec 5440

/-- Free rounding bits of the stochastic rounding (R94): the LFSR's polynomial and seed are not given. -/
opaque roundUp : Nat → Bool

/-- Free 58-bit draws of the security engine's random source for scrambler states (R62). -/
opaque randomState : Nat → BitVec 58

/-- The 240 fixed alignment-marker bits that the port's PCS defines: port width W and the lane's position (R64, R65, R215). -/
opaque amBits : Nat → Nat → BitVec 240

/-- Bit of a pattern generator's sequence (R249), in transmission order: pattern code and position since its start. -/
opaque patternBit : Nat → Nat → Bool

/-- A codeword of the ordered-set generator (R226), as the port's PCS and RS-FEC define it for the port type: 1 the fault
stream or 2 the LPI fill, port width, position of the lane, and the codeword's number on the grid. -/
opaque orderedSet : Nat → Nat → Nat → Nat → BitVec 5440

/-- The next bit of a pattern after the 62 bits given, newest first: code 0 PRBS13Q, 1 PRBS31Q (R250). -/
opaque patternNext : Nat → List Bool → Bool

/-- What the standard's auto-negotiation and link training send (R80, R206): draw number. -/
opaque stdFrame : Nat → BitVec 136

/-! The receiver: what R91, R134 to R152 name and give no numbers for. -/

/-- Coefficient of the 16-tap interpolator of the rotator (R91), in 2^-14: phase 1 to 63, tap 0 to 15. -/
opaque interp : Nat → Nat → Int

/-- Symbols between the sampling of a token's first symbol and the REFA edge that is its tag (R37, R89). -/
opaque sampleLag : Nat

/-- The decision-free phase detector at a token (R148): draw number. -/
opaque decisionFree : Nat → Int

/-- The proportional and the integral path of the timing loop (R147, R148): whether the detector is decision-directed, and
its output; in millionths of a step of 1/64 symbol. -/
opaque loopProp : Bool → Int → Int
opaque loopInt : Bool → Int → Int

/-- How far the level tracker moves toward the error at a token (R144): draw number; in 2^-15 code. -/
opaque levelStep : Nat → Nat

/-- The loss correction of R260: gauge and distance in mm; a factor in 1/256. -/
opaque lossGain : Nat → Nat → Nat

/-- The grid that the ordered-set generator runs before any payload (R226): port's first unit; in bits. -/
opaque ownGrid : Nat → Nat

/-- A word of an MRAM structure whose layout the spec does not give: contents number and word address (R524). -/
opaque mramWord : Nat → Nat → Word

/-- The operation slot whose entry a word of the operation table's array holds (R490): macro and word as one number. -/
opaque opSlotOfWord : Nat → Nat

/-- The use of a word of the controller's memory array (R490): 0 a data word, n + 1 a word of prefetch slot n. -/
opaque controllerWord : Nat → Nat

/-- Free value of a RESET_N pulse between 100 ns and 1 microsecond: whether it resets (R338). -/
opaque resetTakes : Nat → Bool

/-- Free seconds-fraction draw of the backoff jitter J in microseconds, reduced to its range (R202). -/
opaque jitter : Nat → Nat

/-- Free result of a foreground trim (R441), in codes: draw, cluster and trim number. -/
opaque fgTrim : Nat → Nat → Nat → Int

/-- Free values of quantities the spec does not state for an operand: draw number. -/
opaque freeNat : Nat → Nat

end Sys2Proof.Config
end

