-- ==== Sys2Proof/Machine/Fields.lean ====
section
/-! DEFINITION. The fields of every register of the spec, by name: block, offset in the block, top and bottom bit.
A field of an array register takes the element's number. -/

namespace Sys2Proof.Machine

/-- The block kinds of the address map (R13). -/
inductive Blk where
  | hub
  | lu
  | cl
  | rg
  | die
  deriving DecidableEq, Repr

/-- A register field: its block kind, the register's offset in the block, and its bits [hi:lo]. -/
structure Fld where
  blk : Blk
  off : Nat
  hi : Nat
  lo : Nat
  deriving DecidableEq, Repr

namespace F


/-! HUB_PART_ID (R7) -/
def HUB_PART_ID_VENDOR : Fld := ⟨.hub, 0x0, 31, 20⟩
def HUB_PART_ID_PART : Fld := ⟨.hub, 0x0, 19, 8⟩
def HUB_PART_ID_STEP_MAJOR : Fld := ⟨.hub, 0x0, 7, 4⟩
def HUB_PART_ID_STEP_MINOR : Fld := ⟨.hub, 0x0, 3, 0⟩

/-! HUB_GRADE (R8) -/
def HUB_GRADE_PKG_ID : Fld := ⟨.hub, 0x4, 6, 4⟩
def HUB_GRADE_SCREEN : Fld := ⟨.hub, 0x4, 3, 2⟩
def HUB_GRADE_TGRADE : Fld := ⟨.hub, 0x4, 1, 0⟩

/-! HUB_TOPO (R32) -/
def HUB_TOPO_REGION_LIVE : Fld := ⟨.hub, 0x8, 15, 8⟩
def HUB_TOPO_LINK_UP : Fld := ⟨.hub, 0x8, 7, 4⟩
def HUB_TOPO_HIER_VIEW : Fld := ⟨.hub, 0x8, 0, 0⟩

/-! HUB_CLUSTER_MODE (R33) -/
def HUB_CLUSTER_MODE_DUPLEX : Fld := ⟨.hub, 0xc, 31, 0⟩

/-! CROSSWALK_GO (R364) -/
def CROSSWALK_GO_MASK : Fld := ⟨.hub, 0x10, 15, 0⟩

/-! HUB_XW_STAT (R365) -/
def HUB_XW_STAT_COUNT : Fld := ⟨.hub, 0x14, 31, 24⟩
def HUB_XW_STAT_LAST_MASK : Fld := ⟨.hub, 0x14, 23, 8⟩
def HUB_XW_STAT_PENDING : Fld := ⟨.hub, 0x14, 0, 0⟩

/-! HUB_XW_TAG (R365) -/
def HUB_XW_TAG_BOUNDARY : Fld := ⟨.hub, 0x18, 31, 0⟩

/-! HUB_ALERT_STAT (R367) -/
def HUB_ALERT_STAT_MP : Fld := ⟨.hub, 0x20, 5, 5⟩
def HUB_ALERT_STAT_REG : Fld := ⟨.hub, 0x20, 4, 4⟩
def HUB_ALERT_STAT_SEC : Fld := ⟨.hub, 0x20, 3, 3⟩
def HUB_ALERT_STAT_CLK : Fld := ⟨.hub, 0x20, 2, 2⟩
def HUB_ALERT_STAT_FAULT : Fld := ⟨.hub, 0x20, 1, 1⟩
def HUB_ALERT_STAT_CPL : Fld := ⟨.hub, 0x20, 0, 0⟩

/-! HUB_ALERT_EN (R367) -/
def HUB_ALERT_EN_EN : Fld := ⟨.hub, 0x24, 5, 0⟩

/-! HUB_REG_EVT (R368) -/
def HUB_REG_EVT_RSV_WR : Fld := ⟨.hub, 0x28, 6, 6⟩
def HUB_REG_EVT_XW_DROP : Fld := ⟨.hub, 0x28, 5, 5⟩
def HUB_REG_EVT_RWT_FAIL : Fld := ⟨.hub, 0x28, 4, 4⟩
def HUB_REG_EVT_RWT_FIX : Fld := ⟨.hub, 0x28, 3, 3⟩
def HUB_REG_EVT_GATE_ABORT : Fld := ⟨.hub, 0x28, 2, 2⟩
def HUB_REG_EVT_POST_LOST : Fld := ⟨.hub, 0x28, 1, 1⟩
def HUB_REG_EVT_LKV_STICKY : Fld := ⟨.hub, 0x28, 0, 0⟩

/-! HUB_LKV_ADDR (R369) -/
def HUB_LKV_ADDR_ADDR : Fld := ⟨.hub, 0x2c, 23, 0⟩

/-! HUB_CFG_LOCK (R358) -/
def HUB_CFG_LOCK_LK_CLK : Fld := ⟨.hub, 0x30, 1, 1⟩
def HUB_CFG_LOCK_LK_MP : Fld := ⟨.hub, 0x30, 0, 0⟩

/-! HUB_IMG_INFO (R300) -/
def HUB_IMG_INFO_SEC_VER : Fld := ⟨.hub, 0x100, 31, 24⟩
def HUB_IMG_INFO_MIXED : Fld := ⟨.hub, 0x100, 15, 15⟩
def HUB_IMG_INFO_OWNER_SIGNED : Fld := ⟨.hub, 0x100, 14, 14⟩
def HUB_IMG_INFO_SOURCE : Fld := ⟨.hub, 0x100, 13, 12⟩
def HUB_IMG_INFO_RESIDENT : Fld := ⟨.hub, 0x100, 0, 0⟩

/-! HUB_IMG_VER (R301) -/
def HUB_IMG_VER_IMG_VER : Fld := ⟨.hub, 0x104, 31, 0⟩

/-! HUB_IMG_HASH (R301) -/
def HUB_IMG_HASH_H (n : Nat) : Fld := ⟨.hub, 0x108 + 4 * n, 31, 0⟩

/-! HUB_IMG_RGN (R302) -/
def HUB_IMG_RGN_STATES : Fld := ⟨.hub, 0x128, 31, 0⟩

/-! HUB_IMG_REASON (R303) -/
def HUB_IMG_REASON_REASONS : Fld := ⟨.hub, 0x12c, 31, 0⟩

/-! HUB_IMG_LAST (R304) -/
def HUB_IMG_LAST_LOADS : Fld := ⟨.hub, 0x130, 31, 24⟩
def HUB_IMG_LAST_FW_INTEG : Fld := ⟨.hub, 0x130, 16, 16⟩
def HUB_IMG_LAST_RESULT : Fld := ⟨.hub, 0x130, 15, 12⟩
def HUB_IMG_LAST_IMG_REASON : Fld := ⟨.hub, 0x130, 11, 8⟩
def HUB_IMG_LAST_LL_DROP : Fld := ⟨.hub, 0x130, 7, 0⟩

/-! HUB_IMG_PUSH (R305) -/
def HUB_IMG_PUSH_DATA : Fld := ⟨.hub, 0x140, 31, 0⟩

/-! HUB_MP_CFG (R340) -/
def HUB_MP_CFG_BURST_EXP : Fld := ⟨.hub, 0x200, 15, 12⟩
def HUB_MP_CFG_MDIV : Fld := ⟨.hub, 0x200, 9, 8⟩
def HUB_MP_CFG_DUMMY : Fld := ⟨.hub, 0x200, 4, 0⟩

/-! HUB_MP_STAT (R341) -/
def HUB_MP_STAT_CONT0 : Fld := ⟨.hub, 0x204, 24, 24⟩
def HUB_MP_STAT_PF_VALID : Fld := ⟨.hub, 0x204, 23, 16⟩
def HUB_MP_STAT_FW_FLASH : Fld := ⟨.hub, 0x204, 15, 15⟩
def HUB_MP_STAT_MASTER : Fld := ⟨.hub, 0x204, 14, 14⟩
def HUB_MP_STAT_FALLBACK : Fld := ⟨.hub, 0x204, 13, 13⟩
def HUB_MP_STAT_YIELD_RUN : Fld := ⟨.hub, 0x204, 11, 8⟩

/-! HUB_MP_EVT (R342) -/
def HUB_MP_EVT_DISC_FAIL : Fld := ⟨.hub, 0x208, 9, 9⟩
def HUB_MP_EVT_FAULT_EXT : Fld := ⟨.hub, 0x208, 8, 8⟩
def HUB_MP_EVT_YIELD_FAIL : Fld := ⟨.hub, 0x208, 7, 7⟩
def HUB_MP_EVT_YIELD : Fld := ⟨.hub, 0x208, 6, 6⟩
def HUB_MP_EVT_MDS_ERR : Fld := ⟨.hub, 0x208, 5, 5⟩
def HUB_MP_EVT_RD_TMO : Fld := ⟨.hub, 0x208, 4, 4⟩
def HUB_MP_EVT_CMD_ERR : Fld := ⟨.hub, 0x208, 3, 3⟩
def HUB_MP_EVT_LONG : Fld := ⟨.hub, 0x208, 2, 2⟩
def HUB_MP_EVT_SHORT : Fld := ⟨.hub, 0x208, 1, 1⟩
def HUB_MP_EVT_ADDR_ERR : Fld := ⟨.hub, 0x208, 0, 0⟩

/-! HUB_MP_CNT (R343) -/
def HUB_MP_CNT_FAILS : Fld := ⟨.hub, 0x210, 31, 16⟩
def HUB_MP_CNT_YIELDS : Fld := ⟨.hub, 0x210, 15, 0⟩

/-! HUB_MP_PFMISS (R344) -/
def HUB_MP_PFMISS_PF_MISS : Fld := ⟨.hub, 0x214, 31, 0⟩

/-! HUB_MP_FLASH (R345) -/
def HUB_MP_FLASH_READ_OP : Fld := ⟨.hub, 0x218, 31, 24⟩
def HUB_MP_FLASH_MODE_KEEP : Fld := ⟨.hub, 0x218, 23, 16⟩
def HUB_MP_FLASH_EXIT : Fld := ⟨.hub, 0x218, 7, 6⟩
def HUB_MP_FLASH_DISC_OK : Fld := ⟨.hub, 0x218, 5, 5⟩
def HUB_MP_FLASH_DUMMY_FL : Fld := ⟨.hub, 0x218, 4, 0⟩

/-! HUB_ST_STAT (R508) -/
def HUB_ST_STAT_FAILS : Fld := ⟨.hub, 0x300, 31, 16⟩
def HUB_ST_STAT_KIND : Fld := ⟨.hub, 0x300, 15, 12⟩
def HUB_ST_STAT_STATE : Fld := ⟨.hub, 0x300, 11, 8⟩
def HUB_ST_STAT_OVERFLOW : Fld := ⟨.hub, 0x300, 7, 7⟩
def HUB_ST_STAT_ENTRIES : Fld := ⟨.hub, 0x300, 6, 0⟩

/-! HUB_RPR_STAT (R508) -/
def HUB_RPR_STAT_USED : Fld := ⟨.hub, 0x304, 31, 23⟩
def HUB_RPR_STAT_UNREP : Fld := ⟨.hub, 0x304, 15, 8⟩
def HUB_RPR_STAT_TBL_COPY : Fld := ⟨.hub, 0x304, 0, 0⟩

/-! ST_RESULT_W0 (R509) -/
def ST_RESULT_W0_LOCATION (n : Nat) : Fld := ⟨.hub, 0x4000 + 8 * n, 31, 0⟩

/-! ST_RESULT_W1 (R509) -/
def ST_RESULT_W1_KIND (n : Nat) : Fld := ⟨.hub, 0x4004 + 8 * n, 31, 28⟩
def ST_RESULT_W1_OUTCOME (n : Nat) : Fld := ⟨.hub, 0x4004 + 8 * n, 27, 24⟩
def ST_RESULT_W1_COUNT (n : Nat) : Fld := ⟨.hub, 0x4004 + 8 * n, 15, 0⟩

/-! CLK_CFG (R426) -/
def CLK_CFG_REF_TOL : Fld := ⟨.hub, 0x10000, 23, 16⟩
def CLK_CFG_SW_TOL : Fld := ⟨.hub, 0x10000, 15, 8⟩
def CLK_CFG_STAB_N : Fld := ⟨.hub, 0x10000, 3, 0⟩

/-! CLK_STAT (R427) -/
def CLK_STAT_STAB_B : Fld := ⟨.hub, 0x10004, 19, 16⟩
def CLK_STAT_STAB_A : Fld := ⟨.hub, 0x10004, 15, 12⟩
def CLK_STAT_SW_PEND : Fld := ⟨.hub, 0x10004, 11, 11⟩
def CLK_STAT_BOOT_REFB : Fld := ⟨.hub, 0x10004, 10, 10⟩
def CLK_STAT_UNVERIFIED : Fld := ⟨.hub, 0x10004, 9, 9⟩
def CLK_STAT_FALLBACK : Fld := ⟨.hub, 0x10004, 8, 8⟩
def CLK_STAT_REFB_ST : Fld := ⟨.hub, 0x10004, 7, 6⟩
def CLK_STAT_REFA_ST : Fld := ⟨.hub, 0x10004, 5, 4⟩
def CLK_STAT_ACTIVE : Fld := ⟨.hub, 0x10004, 0, 0⟩

/-! CLK_FREQ (R428) -/
def CLK_FREQ_FB_FREQ : Fld := ⟨.hub, 0x10008, 31, 16⟩
def CLK_FREQ_DIFF : Fld := ⟨.hub, 0x10008, 15, 0⟩

/-! CLK_EVT (R429) -/
def CLK_EVT_PLL_UNLOCK : Fld := ⟨.hub, 0x1000c, 7, 7⟩
def CLK_EVT_SW_REFUSED : Fld := ⟨.hub, 0x1000c, 6, 6⟩
def CLK_EVT_SW_DONE : Fld := ⟨.hub, 0x1000c, 5, 5⟩
def CLK_EVT_COARSE_MON : Fld := ⟨.hub, 0x1000c, 4, 4⟩
def CLK_EVT_DIFF : Fld := ⟨.hub, 0x1000c, 3, 3⟩
def CLK_EVT_MON_LOSS : Fld := ⟨.hub, 0x1000c, 2, 2⟩
def CLK_EVT_ACT_LOSS : Fld := ⟨.hub, 0x1000c, 1, 1⟩
def CLK_EVT_RETURN : Fld := ⟨.hub, 0x1000c, 0, 0⟩

/-! CLK_SW (R430) -/
def CLK_SW_LAST_REASON : Fld := ⟨.hub, 0x10010, 15, 12⟩
def CLK_SW_GO : Fld := ⟨.hub, 0x10010, 8, 8⟩
def CLK_SW_TARGET : Fld := ⟨.hub, 0x10010, 0, 0⟩

/-! CLK_GATE (R431) -/
def CLK_GATE_FB_EN : Fld := ⟨.hub, 0x10014, 11, 8⟩
def CLK_GATE_STBY_EN : Fld := ⟨.hub, 0x10014, 7, 4⟩
def CLK_GATE_RUN_EN : Fld := ⟨.hub, 0x10014, 3, 0⟩

/-! PWR_CFG (R432) -/
def PWR_CFG_DOZE_FAR : Fld := ⟨.hub, 0x20000, 31, 24⟩
def PWR_CFG_DEEP_EN : Fld := ⟨.hub, 0x20000, 23, 16⟩
def PWR_CFG_DOZE_EN : Fld := ⟨.hub, 0x20000, 15, 8⟩
def PWR_CFG_QUIET_EN : Fld := ⟨.hub, 0x20000, 7, 0⟩

/-! PWR_PKG (R433) -/
def PWR_PKG_RB_CNT : Fld := ⟨.hub, 0x20004, 23, 16⟩
def PWR_PKG_TXN_CNT : Fld := ⟨.hub, 0x20004, 15, 8⟩
def PWR_PKG_STATE : Fld := ⟨.hub, 0x20004, 1, 0⟩

/-! PWR_TXN (R434) -/
def PWR_TXN_ID : Fld := ⟨.hub, 0x20008, 31, 24⟩
def PWR_TXN_INDEX : Fld := ⟨.hub, 0x20008, 23, 19⟩
def PWR_TXN_TGT : Fld := ⟨.hub, 0x20008, 18, 18⟩
def PWR_TXN_OUTCOME : Fld := ⟨.hub, 0x20008, 17, 17⟩
def PWR_TXN_MLEVEL : Fld := ⟨.hub, 0x20008, 16, 15⟩
def PWR_TXN_MEMBER : Fld := ⟨.hub, 0x20008, 14, 10⟩
def PWR_TXN_REASON : Fld := ⟨.hub, 0x20008, 3, 0⟩

/-! PWR_LTR (R435) -/
def PWR_LTR_SCALE (n : Nat) : Fld := ⟨.hub, 0x21000 + 4 * n, 11, 10⟩
def PWR_LTR_VALUE (n : Nat) : Fld := ⟨.hub, 0x21000 + 4 * n, 9, 0⟩

/-! FLT_STAT (R500) -/
def FLT_STAT_RG_HELD : Fld := ⟨.hub, 0x30000, 31, 24⟩
def FLT_STAT_RG_REACT : Fld := ⟨.hub, 0x30000, 23, 16⟩
def FLT_STAT_SAFE_SRC : Fld := ⟨.hub, 0x30000, 15, 8⟩
def FLT_STAT_EXIT_REASON : Fld := ⟨.hub, 0x30000, 7, 4⟩
def FLT_STAT_SAFE : Fld := ⟨.hub, 0x30000, 0, 0⟩

/-! FLT_CTRL (R501) -/
def FLT_CTRL_SNAP_ACK : Fld := ⟨.hub, 0x30004, 2, 2⟩
def FLT_CTRL_HQ_UNFREEZE : Fld := ⟨.hub, 0x30004, 1, 1⟩
def FLT_CTRL_SAFE_EXIT : Fld := ⟨.hub, 0x30004, 0, 0⟩

/-! FLT_CNT_AB (R502) -/
def FLT_CNT_AB_CNT_A : Fld := ⟨.hub, 0x30008, 31, 16⟩
def FLT_CNT_AB_CNT_B : Fld := ⟨.hub, 0x30008, 15, 0⟩

/-! FLT_CNT_CD (R502) -/
def FLT_CNT_CD_CNT_C : Fld := ⟨.hub, 0x3000c, 31, 16⟩
def FLT_CNT_CD_CNT_D : Fld := ⟨.hub, 0x3000c, 15, 0⟩

/-! FLT_SUPPR (R502) -/
def FLT_SUPPR_MASKED : Fld := ⟨.hub, 0x30010, 31, 16⟩
def FLT_SUPPR_CONSEQ : Fld := ⟨.hub, 0x30010, 15, 0⟩

/-! FLT_ALERT (R502) -/
def FLT_ALERT_PENDING : Fld := ⟨.hub, 0x30014, 31, 16⟩
def FLT_ALERT_LAST_SEQ : Fld := ⟨.hub, 0x30014, 15, 0⟩

/-! FLT_HQ (R503) -/
def FLT_HQ_LOST : Fld := ⟨.hub, 0x30018, 31, 16⟩
def FLT_HQ_FROZEN : Fld := ⟨.hub, 0x30018, 15, 15⟩
def FLT_HQ_SNAP_VALID : Fld := ⟨.hub, 0x30018, 14, 14⟩
def FLT_HQ_SNAP_KEPT : Fld := ⟨.hub, 0x30018, 13, 13⟩
def FLT_HQ_COUNT : Fld := ⟨.hub, 0x30018, 6, 0⟩

/-! FLT_HQ_SEQ (R503) -/
def FLT_HQ_SEQ_SEQ : Fld := ⟨.hub, 0x3001c, 31, 0⟩

/-! FLT_ECC_CFG (R506) -/
def FLT_ECC_CFG_BKT_THR : Fld := ⟨.hub, 0x30040, 23, 16⟩
def FLT_ECC_CFG_LEAK_EXP : Fld := ⟨.hub, 0x30040, 15, 12⟩
def FLT_ECC_CFG_SCRUB_INT : Fld := ⟨.hub, 0x30040, 11, 0⟩

/-! FLT_ECC_CE_LO (R507) -/
def FLT_ECC_CE_LO_LO : Fld := ⟨.hub, 0x30048, 31, 0⟩

/-! FLT_ECC_CE_HI (R507) -/
def FLT_ECC_CE_HI_HI : Fld := ⟨.hub, 0x3004c, 31, 0⟩

/-! FLT_ECC_UE_LO (R507) -/
def FLT_ECC_UE_LO_LO : Fld := ⟨.hub, 0x30050, 31, 0⟩

/-! FLT_ECC_UE_HI (R507) -/
def FLT_ECC_UE_HI_HI : Fld := ⟨.hub, 0x30054, 31, 0⟩

/-! FLT_ECC_POISON_LO (R507) -/
def FLT_ECC_POISON_LO_LO : Fld := ⟨.hub, 0x30058, 31, 0⟩

/-! FLT_ECC_POISON_HI (R507) -/
def FLT_ECC_POISON_HI_HI : Fld := ⟨.hub, 0x3005c, 31, 0⟩

/-! FLT_ECC_LAST (R507) -/
def FLT_ECC_LAST_LOCATION : Fld := ⟨.hub, 0x30060, 31, 0⟩

/-! FLT_ECC_INFO (R507) -/
def FLT_ECC_INFO_COUNT : Fld := ⟨.hub, 0x30064, 31, 24⟩
def FLT_ECC_INFO_SYNDROME : Fld := ⟨.hub, 0x30064, 23, 16⟩
def FLT_ECC_INFO_UE : Fld := ⟨.hub, 0x30064, 0, 0⟩

/-! FLT_MATRIX (R504) -/
def FLT_MATRIX_ENTRY (n : Nat) : Fld := ⟨.hub, 0x30400 + 4 * n, 31, 0⟩

/-! FLT_HIST (R505) -/
def FLT_HIST_WORD (n : Nat) : Fld := ⟨.hub, 0x31000 + 4 * n, 31, 0⟩

/-! OPT_ARG (R387) -/
def OPT_ARG_ARG (n : Nat) : Fld := ⟨.hub, 0x40000 + 4 * n, 31, 0⟩

/-! OPT_POST (R388) -/
def OPT_POST_TLEVEL : Fld := ⟨.hub, 0x40010, 31, 29⟩
def OPT_POST_TINDEX : Fld := ⟨.hub, 0x40010, 28, 20⟩
def OPT_POST_TAG : Fld := ⟨.hub, 0x40010, 15, 8⟩
def OPT_POST_OPCODE : Fld := ⟨.hub, 0x40010, 7, 0⟩

/-! OPT_LAST_POST (R389) -/
def OPT_LAST_POST_HANDLE : Fld := ⟨.hub, 0x40014, 31, 16⟩
def OPT_LAST_POST_TAG : Fld := ⟨.hub, 0x40014, 15, 8⟩
def OPT_LAST_POST_RESULT : Fld := ⟨.hub, 0x40014, 3, 0⟩

/-! OPT_CPL_LO (R390) -/
def OPT_CPL_LO_HANDLE : Fld := ⟨.hub, 0x40018, 31, 16⟩
def OPT_CPL_LO_RESULT : Fld := ⟨.hub, 0x40018, 15, 12⟩
def OPT_CPL_LO_OPCODE : Fld := ⟨.hub, 0x40018, 7, 0⟩

/-! OPT_CPL_HI (R390) -/
def OPT_CPL_HI_DETAIL : Fld := ⟨.hub, 0x4001c, 31, 0⟩

/-! OPT_STAT (R391) -/
def OPT_STAT_RUNNING : Fld := ⟨.hub, 0x40020, 31, 25⟩
def OPT_STAT_USED : Fld := ⟨.hub, 0x40020, 24, 14⟩
def OPT_STAT_LAST_CANCEL : Fld := ⟨.hub, 0x40020, 13, 12⟩
def OPT_STAT_CPL_DEPTH : Fld := ⟨.hub, 0x40020, 10, 0⟩

/-! OPT_CPL_CANCEL (R392) -/
def OPT_CPL_CANCEL_HANDLE : Fld := ⟨.hub, 0x40024, 15, 0⟩

/-! OPT_EPOCH (R392) -/
def OPT_EPOCH_EPOCH : Fld := ⟨.hub, 0x40028, 7, 0⟩

/-! OPT_ENTRY (R383) -/
def OPT_ENTRY_WORD (n : Nat) : Fld := ⟨.hub, 0x44000 + 4 * n, 31, 0⟩

/-! SEC_LC (R534) -/
def SEC_LC_ARB_MIN : Fld := ⟨.hub, 0x50000, 31, 24⟩
def SEC_LC_BUCKET : Fld := ⟨.hub, 0x50000, 14, 8⟩
def SEC_LC_IDENT_DEAD : Fld := ⟨.hub, 0x50000, 7, 7⟩
def SEC_LC_IDENT_READY : Fld := ⟨.hub, 0x50000, 6, 6⟩
def SEC_LC_OWNER_LOADED : Fld := ⟨.hub, 0x50000, 5, 5⟩
def SEC_LC_OWNER_FUSED : Fld := ⟨.hub, 0x50000, 4, 4⟩
def SEC_LC_KEY_FUSED : Fld := ⟨.hub, 0x50000, 3, 3⟩
def SEC_LC_LC_BUSY : Fld := ⟨.hub, 0x50000, 2, 2⟩
def SEC_LC_LC : Fld := ⟨.hub, 0x50000, 1, 0⟩

/-! SEC_EVT (R535) -/
def SEC_EVT_OWNER_LOST : Fld := ⟨.hub, 0x50004, 9, 9⟩
def SEC_EVT_BOOT_FAIL : Fld := ⟨.hub, 0x50004, 8, 8⟩
def SEC_EVT_BOOT_ALT : Fld := ⟨.hub, 0x50004, 7, 7⟩
def SEC_EVT_ARB_ADV : Fld := ⟨.hub, 0x50004, 6, 6⟩
def SEC_EVT_KEY_CACHE : Fld := ⟨.hub, 0x50004, 5, 5⟩
def SEC_EVT_SIG_STATE : Fld := ⟨.hub, 0x50004, 4, 4⟩
def SEC_EVT_KEY_EXHAUSTED : Fld := ⟨.hub, 0x50004, 3, 3⟩
def SEC_EVT_KEY_LOW : Fld := ⟨.hub, 0x50004, 2, 2⟩
def SEC_EVT_LC_CHANGED : Fld := ⟨.hub, 0x50004, 1, 1⟩
def SEC_EVT_IMG_REFUSED : Fld := ⟨.hub, 0x50004, 0, 0⟩

/-! SEC_SIG_NEXT (R536) -/
def SEC_SIG_NEXT_NEXT : Fld := ⟨.hub, 0x50008, 25, 0⟩

/-! SEC_ID (R537) -/
def SEC_ID_WORD (n : Nat) : Fld := ⟨.hub, 0x50010 + 4 * n, 31, 0⟩

/-! SEC_PK (R537) -/
def SEC_PK_WORD (n : Nat) : Fld := ⟨.hub, 0x50030 + 4 * n, 31, 0⟩

/-! SEC_OWN_PK (R538) -/
def SEC_OWN_PK_WORD (n : Nat) : Fld := ⟨.hub, 0x50100 + 4 * n, 31, 0⟩

/-! SEC_BL_STAT (R539) -/
def SEC_BL_STAT_BOOT_COUNT : Fld := ⟨.hub, 0x50200, 31, 16⟩
def SEC_BL_STAT_RESET_CAUSE : Fld := ⟨.hub, 0x50200, 15, 14⟩
def SEC_BL_STAT_HOST_STARTS : Fld := ⟨.hub, 0x50200, 11, 8⟩
def SEC_BL_STAT_STEP : Fld := ⟨.hub, 0x50200, 7, 0⟩

/-! SEC_BL_UNITS (R540) -/
def SEC_BL_UNITS_BITS (n : Nat) : Fld := ⟨.hub, 0x50210 + 4 * n, 31, 0⟩

/-! SEC_REPORT (R523) -/
def SEC_REPORT_WORD (n : Nat) : Fld := ⟨.hub, 0x52000 + 4 * n, 31, 0⟩

/-! CAL_CFG (R461) -/
def CAL_CFG_MAX_INT : Fld := ⟨.hub, 0x60000, 31, 16⟩
def CAL_CFG_CAL_DT : Fld := ⟨.hub, 0x60000, 7, 0⟩

/-! CAL_EN (R462) -/
def CAL_EN_AUTO : Fld := ⟨.hub, 0x60004, 31, 0⟩

/-! CAL_STAT (R463) -/
def CAL_STAT_REC_SEQ : Fld := ⟨.hub, 0x60008, 31, 24⟩
def CAL_STAT_FREE_SLOT : Fld := ⟨.hub, 0x60008, 23, 18⟩
def CAL_STAT_REC_COPY : Fld := ⟨.hub, 0x60008, 16, 16⟩
def CAL_STAT_COMMITS : Fld := ⟨.hub, 0x60008, 15, 8⟩
def CAL_STAT_RUNNING : Fld := ⟨.hub, 0x60008, 5, 0⟩

/-! CAL_EVT (R464) -/
def CAL_EVT_DRIFT : Fld := ⟨.hub, 0x6000c, 4, 4⟩
def CAL_EVT_FG_DISAGREE : Fld := ⟨.hub, 0x6000c, 3, 3⟩
def CAL_EVT_SLOT_BAD : Fld := ⟨.hub, 0x6000c, 2, 2⟩
def CAL_EVT_REC_LOST : Fld := ⟨.hub, 0x6000c, 1, 1⟩
def CAL_EVT_COMMIT_FAIL : Fld := ⟨.hub, 0x6000c, 0, 0⟩

/-! MRAM (R47) -/
def MRAM_WORD (n : Nat) : Fld := ⟨.hub, 0x80000 + 4 * n, 31, 0⟩

/-! LU_CTRL (R366) -/
def LU_CTRL_UNIT_RST : Fld := ⟨.lu, 0x0, 7, 7⟩
def LU_CTRL_GRP : Fld := ⟨.lu, 0x0, 3, 0⟩

/-! LU_BU_CTRL (R207) -/
def LU_BU_CTRL_CLR_FAIL : Fld := ⟨.lu, 0x20, 9, 9⟩
def LU_BU_CTRL_PRECODE_EN : Fld := ⟨.lu, 0x20, 8, 8⟩
def LU_BU_CTRL_SEARCH_EN : Fld := ⟨.lu, 0x20, 7, 7⟩
def LU_BU_CTRL_REQ_PRESET : Fld := ⟨.lu, 0x20, 6, 4⟩
def LU_BU_CTRL_REQ_PRESET_GO : Fld := ⟨.lu, 0x20, 2, 2⟩
def LU_BU_CTRL_RETRAIN : Fld := ⟨.lu, 0x20, 1, 1⟩
def LU_BU_CTRL_EN : Fld := ⟨.lu, 0x20, 0, 0⟩

/-! LU_BU_CFG (R208) -/
def LU_BU_CFG_SWITCH_LEN : Fld := ⟨.lu, 0x24, 23, 20⟩
def LU_BU_CFG_BO_BASE : Fld := ⟨.lu, 0x24, 19, 16⟩
def LU_BU_CFG_FAIL_LIMIT : Fld := ⟨.lu, 0x24, 15, 12⟩
def LU_BU_CFG_START_PRESET : Fld := ⟨.lu, 0x24, 10, 8⟩
def LU_BU_CFG_READY_LQI : Fld := ⟨.lu, 0x24, 7, 0⟩

/-! LU_BU_STAT (R209) -/
def LU_BU_STAT_ATTEMPTS : Fld := ⟨.lu, 0x28, 31, 24⟩
def LU_BU_STAT_SEARCH_DONE : Fld := ⟨.lu, 0x28, 22, 22⟩
def LU_BU_STAT_HOST_AM : Fld := ⟨.lu, 0x28, 21, 21⟩
def LU_BU_STAT_FAR_READY : Fld := ⟨.lu, 0x28, 20, 20⟩
def LU_BU_STAT_RX_READY : Fld := ⟨.lu, 0x28, 19, 19⟩
def LU_BU_STAT_CABLE : Fld := ⟨.lu, 0x28, 18, 16⟩
def LU_BU_STAT_LAST_REASON : Fld := ⟨.lu, 0x28, 15, 12⟩
def LU_BU_STAT_FAIL_CNT : Fld := ⟨.lu, 0x28, 11, 8⟩
def LU_BU_STAT_STATE : Fld := ⟨.lu, 0x28, 4, 0⟩

/-! LU_BU_TIME (R210) -/
def LU_BU_TIME_BO_LEFT : Fld := ⟨.lu, 0x2c, 31, 16⟩
def LU_BU_TIME_UP_TIME : Fld := ⟨.lu, 0x2c, 15, 0⟩

/-! LU_BU_EVT (R211) -/
def LU_BU_EVT_PRECODE_SET : Fld := ⟨.lu, 0x30, 7, 7⟩
def LU_BU_EVT_BO_WAKE : Fld := ⟨.lu, 0x30, 6, 6⟩
def LU_BU_EVT_FAR_RETRAIN : Fld := ⟨.lu, 0x30, 5, 5⟩
def LU_BU_EVT_FAR_RESTART : Fld := ⟨.lu, 0x30, 4, 4⟩
def LU_BU_EVT_COEF_TMO : Fld := ⟨.lu, 0x30, 3, 3⟩
def LU_BU_EVT_CAP_MISMATCH : Fld := ⟨.lu, 0x30, 2, 2⟩
def LU_BU_EVT_UNIT_DOWN : Fld := ⟨.lu, 0x30, 1, 1⟩
def LU_BU_EVT_TRAIN_FAIL : Fld := ⟨.lu, 0x30, 0, 0⟩

/-! LU_BU_NEG (R212) -/
def LU_BU_NEG_TRIALS : Fld := ⟨.lu, 0x34, 31, 24⟩
def LU_BU_NEG_FAR_PRECODE_REQ : Fld := ⟨.lu, 0x34, 22, 22⟩
def LU_BU_NEG_LAST_TAP : Fld := ⟨.lu, 0x34, 21, 19⟩
def LU_BU_NEG_LAST_STATUS : Fld := ⟨.lu, 0x34, 18, 16⟩
def LU_BU_NEG_FAR_CAP : Fld := ⟨.lu, 0x34, 15, 0⟩

/-! LU_LINE_FRAME (R84) -/
def LU_LINE_FRAME_FAR_CF : Fld := ⟨.lu, 0x40, 23, 20⟩
def LU_LINE_FRAME_FAR_SEQ : Fld := ⟨.lu, 0x40, 19, 16⟩
def LU_LINE_FRAME_FAR_FEC : Fld := ⟨.lu, 0x40, 15, 14⟩
def LU_LINE_FRAME_FAR_PRECODE : Fld := ⟨.lu, 0x40, 13, 13⟩
def LU_LINE_FRAME_TX_PRECODE : Fld := ⟨.lu, 0x40, 12, 12⟩
def LU_LINE_FRAME_PORT_MISMATCH : Fld := ⟨.lu, 0x40, 11, 11⟩
def LU_LINE_FRAME_RX_QUIET : Fld := ⟨.lu, 0x40, 10, 10⟩
def LU_LINE_FRAME_TX_QUIET : Fld := ⟨.lu, 0x40, 9, 9⟩
def LU_LINE_FRAME_TX_HOLD : Fld := ⟨.lu, 0x40, 8, 8⟩
def LU_LINE_FRAME_RX_INV : Fld := ⟨.lu, 0x40, 4, 4⟩
def LU_LINE_FRAME_RX_FMT : Fld := ⟨.lu, 0x40, 3, 2⟩
def LU_LINE_FRAME_DESCR_LOCK : Fld := ⟨.lu, 0x40, 1, 1⟩
def LU_LINE_FRAME_HDR_LOCK : Fld := ⟨.lu, 0x40, 0, 0⟩

/-! LU_LINE_EVT (R85) -/
def LU_LINE_EVT_HOLD_SEEN : Fld := ⟨.lu, 0x44, 5, 5⟩
def LU_LINE_EVT_PORT_MISMATCH_SEEN : Fld := ⟨.lu, 0x44, 4, 4⟩
def LU_LINE_EVT_RESUME_FAIL : Fld := ⟨.lu, 0x44, 3, 3⟩
def LU_LINE_EVT_CRC_ERR : Fld := ⟨.lu, 0x44, 2, 2⟩
def LU_LINE_EVT_SILENCE : Fld := ⟨.lu, 0x44, 1, 1⟩
def LU_LINE_EVT_LOL : Fld := ⟨.lu, 0x44, 0, 0⟩

/-! LU_RX_CFG (R163) -/
def LU_RX_CFG_ED_WAKE_THR : Fld := ⟨.lu, 0x100, 23, 16⟩
def LU_RX_CFG_ED_SIL_THR : Fld := ⟨.lu, 0x100, 15, 8⟩
def LU_RX_CFG_CTLE_PEAK : Fld := ⟨.lu, 0x100, 4, 0⟩

/-! LU_RX_STAT (R164) -/
def LU_RX_STAT_FREQ_OFF : Fld := ⟨.lu, 0x104, 31, 22⟩
def LU_RX_STAT_PHASE : Fld := ⟨.lu, 0x104, 21, 16⟩
def LU_RX_STAT_VGA : Fld := ⟨.lu, 0x104, 15, 11⟩
def LU_RX_STAT_DFE_H1 : Fld := ⟨.lu, 0x104, 10, 6⟩
def LU_RX_STAT_PRECODE_WANT : Fld := ⟨.lu, 0x104, 5, 5⟩
def LU_RX_STAT_SHED : Fld := ⟨.lu, 0x104, 4, 4⟩
def LU_RX_STAT_VGA_HELD : Fld := ⟨.lu, 0x104, 3, 3⟩
def LU_RX_STAT_TR_ACQ : Fld := ⟨.lu, 0x104, 2, 2⟩
def LU_RX_STAT_TR_LOCK : Fld := ⟨.lu, 0x104, 1, 1⟩
def LU_RX_STAT_LOOP_TIMED : Fld := ⟨.lu, 0x104, 0, 0⟩

/-! LU_RX_LQI (R165) -/
def LU_RX_LQI_LQI : Fld := ⟨.lu, 0x108, 15, 0⟩

/-! LU_RX_LAT (R166) -/
def LU_RX_LAT_LAT : Fld := ⟨.lu, 0x10c, 31, 16⟩
def LU_RX_LAT_EXIT_RES : Fld := ⟨.lu, 0x10c, 7, 0⟩

/-! LU_RX_EVT (R167) -/
def LU_RX_EVT_SLIP_TXL : Fld := ⟨.lu, 0x110, 7, 7⟩
def LU_RX_EVT_SLIP_HRX : Fld := ⟨.lu, 0x110, 6, 6⟩
def LU_RX_EVT_SLIP_HTX : Fld := ⟨.lu, 0x110, 5, 5⟩
def LU_RX_EVT_SLIP_RXL : Fld := ⟨.lu, 0x110, 4, 4⟩
def LU_RX_EVT_SERVO_LIMIT : Fld := ⟨.lu, 0x110, 3, 3⟩
def LU_RX_EVT_TR_RANGE : Fld := ⟨.lu, 0x110, 2, 2⟩
def LU_RX_EVT_ADC_CLIP : Fld := ⟨.lu, 0x110, 1, 1⟩

/-! LU_CAL_STAT (R469) -/
def LU_CAL_STAT_SKEW_RMS : Fld := ⟨.lu, 0x114, 31, 24⟩
def LU_CAL_STAT_OFS_RMS : Fld := ⟨.lu, 0x114, 23, 16⟩
def LU_CAL_STAT_PASSES : Fld := ⟨.lu, 0x114, 15, 12⟩
def LU_CAL_STAT_VERIFY_FAIL : Fld := ⟨.lu, 0x114, 4, 4⟩
def LU_CAL_STAT_DRIFT : Fld := ⟨.lu, 0x114, 3, 3⟩
def LU_CAL_STAT_LIMIT : Fld := ⟨.lu, 0x114, 2, 2⟩
def LU_CAL_STAT_NO_CONV : Fld := ⟨.lu, 0x114, 1, 1⟩
def LU_CAL_STAT_SKIPPED : Fld := ⟨.lu, 0x114, 0, 0⟩

/-! LU_RB_CTRL (R124) -/
def LU_RB_CTRL_EXTRA_WIN_MAX : Fld := ⟨.lu, 0x180, 14, 12⟩
def LU_RB_CTRL_SLIDE_EN : Fld := ⟨.lu, 0x180, 6, 6⟩
def LU_RB_CTRL_RESCAN_EN : Fld := ⟨.lu, 0x180, 5, 5⟩
def LU_RB_CTRL_FORCE_COLD : Fld := ⟨.lu, 0x180, 4, 4⟩
def LU_RB_CTRL_FREEZE_NEXT : Fld := ⟨.lu, 0x180, 3, 3⟩
def LU_RB_CTRL_FREEZE_WIN : Fld := ⟨.lu, 0x180, 2, 2⟩
def LU_RB_CTRL_FREEZE_DENSE : Fld := ⟨.lu, 0x180, 1, 1⟩

/-! LU_RB_STAT (R125) -/
def LU_RB_STAT_EXTRA_HELD : Fld := ⟨.lu, 0x184, 15, 12⟩
def LU_RB_STAT_WIN_ACTIVE : Fld := ⟨.lu, 0x184, 11, 8⟩
def LU_RB_STAT_ALLEY : Fld := ⟨.lu, 0x184, 7, 7⟩
def LU_RB_STAT_AUTO_FRZ_NEXT : Fld := ⟨.lu, 0x184, 6, 6⟩
def LU_RB_STAT_AUTO_FRZ_ECHO : Fld := ⟨.lu, 0x184, 5, 5⟩
def LU_RB_STAT_WARM : Fld := ⟨.lu, 0x184, 3, 3⟩
def LU_RB_STAT_GEAR : Fld := ⟨.lu, 0x184, 2, 0⟩

/-! LU_RB_DEPTH (R126) -/
def LU_RB_DEPTH_RESID_MARGIN : Fld := ⟨.lu, 0x188, 31, 16⟩
def LU_RB_DEPTH_ECHO_DEPTH : Fld := ⟨.lu, 0x188, 15, 0⟩

/-! LU_RB_EVT (R127) -/
def LU_RB_EVT_GEAR_STALL : Fld := ⟨.lu, 0x18c, 5, 5⟩
def LU_RB_EVT_SAT : Fld := ⟨.lu, 0x18c, 4, 4⟩
def LU_RB_EVT_WIN_PARKED : Fld := ⟨.lu, 0x18c, 3, 3⟩
def LU_RB_EVT_WIN_PLACED : Fld := ⟨.lu, 0x18c, 2, 2⟩
def LU_RB_EVT_WIN_SLID : Fld := ⟨.lu, 0x18c, 1, 1⟩
def LU_RB_EVT_WIN_DENIED : Fld := ⟨.lu, 0x18c, 0, 0⟩

/-! LU_RB_WIN (R128) -/
def LU_RB_WIN_STATE (n : Nat) : Fld := ⟨.lu, 0x190 + 4 * n, 31, 30⟩
def LU_RB_WIN_PEAK (n : Nat) : Fld := ⟨.lu, 0x190 + 4 * n, 29, 24⟩
def LU_RB_WIN_START (n : Nat) : Fld := ⟨.lu, 0x190 + 4 * n, 23, 12⟩
def LU_RB_WIN_ENERGY (n : Nat) : Fld := ⟨.lu, 0x190 + 4 * n, 11, 0⟩

/-! LU_TX_FIR (R168) -/
def LU_TX_FIR_C_P2 : Fld := ⟨.lu, 0x200, 30, 25⟩
def LU_TX_FIR_C_P1 : Fld := ⟨.lu, 0x200, 24, 19⟩
def LU_TX_FIR_C0 : Fld := ⟨.lu, 0x200, 18, 12⟩
def LU_TX_FIR_C_M1 : Fld := ⟨.lu, 0x200, 11, 6⟩
def LU_TX_FIR_C_M2 : Fld := ⟨.lu, 0x200, 5, 0⟩

/-! LU_TX_CTRL (R169) -/
def LU_TX_CTRL_FIR_REJ : Fld := ⟨.lu, 0x204, 8, 8⟩
def LU_TX_CTRL_PRESET_GO : Fld := ⟨.lu, 0x204, 4, 4⟩
def LU_TX_CTRL_PRESET : Fld := ⟨.lu, 0x204, 2, 0⟩

/-! LU_HOST_CFG (R235) -/
def LU_HOST_CFG_HTX_SQUELCH : Fld := ⟨.lu, 0x300, 2, 2⟩
def LU_HOST_CFG_HRX_PRECODE : Fld := ⟨.lu, 0x300, 1, 1⟩
def LU_HOST_CFG_HTX_PRECODE : Fld := ⟨.lu, 0x300, 0, 0⟩

/-! LU_HTX_FIR (R236) -/
def LU_HTX_FIR_C_P1 : Fld := ⟨.lu, 0x304, 24, 19⟩
def LU_HTX_FIR_C0 : Fld := ⟨.lu, 0x304, 18, 12⟩
def LU_HTX_FIR_C_M1 : Fld := ⟨.lu, 0x304, 11, 6⟩
def LU_HTX_FIR_C_M2 : Fld := ⟨.lu, 0x304, 5, 0⟩

/-! LU_HOST_STAT (R237) -/
def LU_HOST_STAT_HRX_DLY : Fld := ⟨.lu, 0x308, 31, 23⟩
def LU_HOST_STAT_LINE_DLY : Fld := ⟨.lu, 0x308, 22, 14⟩
def LU_HOST_STAT_HTX_SRC : Fld := ⟨.lu, 0x308, 7, 6⟩
def LU_HOST_STAT_SIGDET : Fld := ⟨.lu, 0x308, 5, 5⟩
def LU_HOST_STAT_AM_LOCK : Fld := ⟨.lu, 0x308, 4, 4⟩
def LU_HOST_STAT_CDR_LOCK : Fld := ⟨.lu, 0x308, 3, 3⟩
def LU_HOST_STAT_HRX_STATE : Fld := ⟨.lu, 0x308, 2, 0⟩

/-! LU_HOST_EVT (R238) -/
def LU_HOST_EVT_PORT_DOWN : Fld := ⟨.lu, 0x30c, 7, 7⟩
def LU_HOST_EVT_HTX_FIR_REJ : Fld := ⟨.lu, 0x30c, 6, 6⟩
def LU_HOST_EVT_DESKEW_ERR : Fld := ⟨.lu, 0x30c, 5, 5⟩
def LU_HOST_EVT_SKEW_LIMIT : Fld := ⟨.lu, 0x30c, 4, 4⟩
def LU_HOST_EVT_HOST_IDLE : Fld := ⟨.lu, 0x30c, 3, 3⟩
def LU_HOST_EVT_HRX_TMO : Fld := ⟨.lu, 0x30c, 2, 2⟩
def LU_HOST_EVT_CDR_LOL : Fld := ⟨.lu, 0x30c, 1, 1⟩
def LU_HOST_EVT_AM_LOL : Fld := ⟨.lu, 0x30c, 0, 0⟩

/-! LU_CNT (R247) -/
def LU_CNT_WORD (n : Nat) : Fld := ⟨.lu, 0x400 + 4 * n, 31, 0⟩

/-! LU_HIST (R247) -/
def LU_HIST_WORD (n : Nat) : Fld := ⟨.lu, 0x480 + 4 * n, 31, 0⟩

/-! LU_MON_INT0 (R248) -/
def LU_MON_INT0_SEQ : Fld := ⟨.lu, 0x500, 31, 24⟩
def LU_MON_INT0_LQI_MAX : Fld := ⟨.lu, 0x500, 23, 12⟩
def LU_MON_INT0_LQI_MIN : Fld := ⟨.lu, 0x500, 11, 0⟩

/-! LU_MON_INT1 (R248) -/
def LU_MON_INT1_SEQ : Fld := ⟨.lu, 0x504, 31, 24⟩
def LU_MON_INT1_SHORT : Fld := ⟨.lu, 0x504, 23, 23⟩
def LU_MON_INT1_NOEST : Fld := ⟨.lu, 0x504, 19, 12⟩
def LU_MON_INT1_LQI_MEAN : Fld := ⟨.lu, 0x504, 11, 0⟩

/-! LU_MON_INT2 (R248) -/
def LU_MON_INT2_SEQ : Fld := ⟨.lu, 0x508, 31, 24⟩
def LU_MON_INT2_SYM_ERR : Fld := ⟨.lu, 0x508, 23, 0⟩

/-! LU_MON_INT3 (R248) -/
def LU_MON_INT3_SEQ : Fld := ⟨.lu, 0x50c, 31, 24⟩
def LU_MON_INT3_UNCORR : Fld := ⟨.lu, 0x50c, 23, 16⟩
def LU_MON_INT3_HDR_ERR : Fld := ⟨.lu, 0x50c, 15, 0⟩

/-! LU_PAT_CTRL (R267) -/
def LU_PAT_CTRL_CHK_PT : Fld := ⟨.lu, 0x520, 15, 14⟩
def LU_PAT_CTRL_CHK_PAT : Fld := ⟨.lu, 0x520, 13, 12⟩
def LU_PAT_CTRL_GEN_PT : Fld := ⟨.lu, 0x520, 9, 8⟩
def LU_PAT_CTRL_GEN_PAT : Fld := ⟨.lu, 0x520, 5, 4⟩
def LU_PAT_CTRL_PAT_LOCK : Fld := ⟨.lu, 0x520, 0, 0⟩

/-! LU_INJ_CTRL (R268) -/
def LU_INJ_CTRL_PERIOD : Fld := ⟨.lu, 0x528, 31, 16⟩
def LU_INJ_CTRL_SYMS : Fld := ⟨.lu, 0x528, 10, 6⟩
def LU_INJ_CTRL_POINT : Fld := ⟨.lu, 0x528, 3, 3⟩
def LU_INJ_CTRL_STOP : Fld := ⟨.lu, 0x528, 1, 1⟩
def LU_INJ_CTRL_GO : Fld := ⟨.lu, 0x528, 0, 0⟩

/-! LU_MON_EVT (R269) -/
def LU_MON_EVT_MS_DONE : Fld := ⟨.lu, 0x530, 5, 5⟩
def LU_MON_EVT_INJ_DONE : Fld := ⟨.lu, 0x530, 4, 4⟩
def LU_MON_EVT_PAT_LOL : Fld := ⟨.lu, 0x530, 3, 3⟩
def LU_MON_EVT_UNCORR : Fld := ⟨.lu, 0x530, 2, 2⟩
def LU_MON_EVT_SYM_HIGH : Fld := ⟨.lu, 0x530, 1, 1⟩
def LU_MON_EVT_LQI_LOW : Fld := ⟨.lu, 0x530, 0, 0⟩

/-! LU_MON_CTRL (R270) -/
def LU_MON_CTRL_CNT_CLR : Fld := ⟨.lu, 0x534, 0, 0⟩

/-! LU_MS_EYE (R271) -/
def LU_MS_EYE_H_LEFT (n : Nat) : Fld := ⟨.lu, 0x540 + 4 * n, 31, 24⟩
def LU_MS_EYE_H_RIGHT (n : Nat) : Fld := ⟨.lu, 0x540 + 4 * n, 23, 16⟩
def LU_MS_EYE_V_BOT (n : Nat) : Fld := ⟨.lu, 0x540 + 4 * n, 15, 8⟩
def LU_MS_EYE_V_TOP (n : Nat) : Fld := ⟨.lu, 0x540 + 4 * n, 7, 0⟩

/-! LU_MS_STAT (R271) -/
def LU_MS_STAT_SEQ : Fld := ⟨.lu, 0x54c, 31, 24⟩
def LU_MS_STAT_TARGET : Fld := ⟨.lu, 0x54c, 23, 16⟩
def LU_MS_STAT_REASON : Fld := ⟨.lu, 0x54c, 15, 12⟩
def LU_MS_STAT_MODE : Fld := ⟨.lu, 0x54c, 11, 10⟩
def LU_MS_STAT_DW : Fld := ⟨.lu, 0x54c, 4, 0⟩

/-! CL_CTRL (R366) -/
def CL_CTRL_CL_RST : Fld := ⟨.cl, 0x0, 8, 8⟩
def CL_CTRL_GRP : Fld := ⟨.cl, 0x0, 3, 0⟩

/-! CL_PORT_MAP (R239) -/
def CL_PORT_MAP_PORTS : Fld := ⟨.cl, 0x10, 31, 0⟩

/-! CL_PORT_STAT (R240) -/
def CL_PORT_STAT_DSK_SET : Fld := ⟨.cl, 0x14, 23, 16⟩
def CL_PORT_STAT_FAULT_TX : Fld := ⟨.cl, 0x14, 15, 8⟩
def CL_PORT_STAT_UP : Fld := ⟨.cl, 0x14, 7, 0⟩

/-! CL_RB_ALLOC (R129) -/
def CL_RB_ALLOC_NX_OFF : Fld := ⟨.cl, 0x200, 27, 24⟩
def CL_RB_ALLOC_NEXT_TAPS : Fld := ⟨.cl, 0x200, 21, 16⟩
def CL_RB_ALLOC_WIN_COUNT : Fld := ⟨.cl, 0x200, 11, 8⟩
def CL_RB_ALLOC_DENSE_TAPS : Fld := ⟨.cl, 0x200, 7, 0⟩

/-! CL_RB_POOL (R130) -/
def CL_RB_POOL_BLOCKS_HELD : Fld := ⟨.cl, 0x204, 29, 24⟩
def CL_RB_POOL_BLOCKS : Fld := ⟨.cl, 0x204, 21, 16⟩
def CL_RB_POOL_FREE_TAPS : Fld := ⟨.cl, 0x204, 12, 0⟩

/-! CL_RB_CFG (R131) -/
def CL_RB_CFG_RESCAN_PERIOD : Fld := ⟨.cl, 0x208, 23, 16⟩
def CL_RB_CFG_WIN_THR : Fld := ⟨.cl, 0x208, 11, 0⟩

/-! CL_RB_RELEASE (R132) -/
def CL_RB_RELEASE_GO : Fld := ⟨.cl, 0x20c, 8, 8⟩
def CL_RB_RELEASE_BLOCK : Fld := ⟨.cl, 0x20c, 4, 0⟩

/-! CL_RB_XOWN (R133) -/
def CL_RB_XOWN_OWNERS (n : Nat) : Fld := ⟨.cl, 0x210 + 4 * n, 31, 0⟩

/-! CL_MON_CFG (R266) -/
def CL_MON_CFG_SYM_E : Fld := ⟨.cl, 0x300, 28, 24⟩
def CL_MON_CFG_SYM_M : Fld := ⟨.cl, 0x300, 23, 20⟩
def CL_MON_CFG_LQI_THR : Fld := ⟨.cl, 0x300, 15, 8⟩
def CL_MON_CFG_MON_EXP : Fld := ⟨.cl, 0x300, 4, 0⟩

/-! CL_CAL_STAT (R465) -/
def CL_CAL_STAT_RUN_SEQ : Fld := ⟨.cl, 0x1000, 31, 24⟩
def CL_CAL_STAT_REASON : Fld := ⟨.cl, 0x1000, 23, 20⟩
def CL_CAL_STAT_TRIGGER : Fld := ⟨.cl, 0x1000, 19, 17⟩
def CL_CAL_STAT_UNIT : Fld := ⟨.cl, 0x1000, 13, 11⟩
def CL_CAL_STAT_STATE : Fld := ⟨.cl, 0x1000, 10, 8⟩
def CL_CAL_STAT_PART : Fld := ⟨.cl, 0x1000, 7, 0⟩

/-! CL_CAL_RUNS (R466) -/
def CL_CAL_RUNS_DONE : Fld := ⟨.cl, 0x1004, 31, 16⟩
def CL_CAL_RUNS_ABANDONED : Fld := ⟨.cl, 0x1004, 15, 0⟩

/-! CL_CAL_TIME (R467) -/
def CL_CAL_TIME_TIME : Fld := ⟨.cl, 0x1008, 31, 0⟩

/-! CL_CAL_TEMP (R467) -/
def CL_CAL_TEMP_T_NOW : Fld := ⟨.cl, 0x100c, 31, 16⟩
def CL_CAL_TEMP_T_RUN : Fld := ⟨.cl, 0x100c, 15, 0⟩

/-! CL_CAL_PT (R468) -/
def CL_CAL_PT_VALID (n : Nat) : Fld := ⟨.cl, 0x1010 + 4 * n, 31, 31⟩
def CL_CAL_PT_TEMP (n : Nat) : Fld := ⟨.cl, 0x1010 + 4 * n, 15, 0⟩

/-! CL_DIAG_CFG (R272) -/
def CL_DIAG_CFG_GAUGE : Fld := ⟨.cl, 0x1100, 25, 24⟩
def CL_DIAG_CFG_NEAR_ZONE : Fld := ⟨.cl, 0x1100, 23, 16⟩
def CL_DIAG_CFG_VP : Fld := ⟨.cl, 0x1100, 11, 0⟩

/-! CL_MS_MAPU (R273) -/
def CL_MS_MAPU_SEQ : Fld := ⟨.cl, 0x1108, 15, 8⟩
def CL_MS_MAPU_VALID : Fld := ⟨.cl, 0x1108, 3, 3⟩
def CL_MS_MAPU_LANE : Fld := ⟨.cl, 0x1108, 2, 0⟩

/-! CL_DIAG_U (R274) -/
def CL_DIAG_U_FAULT_DIST (n : Nat) : Fld := ⟨.cl, 0x1120 + 4 * n, 31, 16⟩
def CL_DIAG_U_SEQ (n : Nat) : Fld := ⟨.cl, 0x1120 + 4 * n, 15, 12⟩
def CL_DIAG_U_REASON (n : Nat) : Fld := ⟨.cl, 0x1120 + 4 * n, 11, 8⟩
def CL_DIAG_U_UNCANC (n : Nat) : Fld := ⟨.cl, 0x1120 + 4 * n, 7, 7⟩
def CL_DIAG_U_MODE (n : Nat) : Fld := ⟨.cl, 0x1120 + 4 * n, 6, 4⟩
def CL_DIAG_U_CLASS (n : Nat) : Fld := ⟨.cl, 0x1120 + 4 * n, 2, 0⟩

/-! CL_DIAG_MAP_W0 (R275) -/
def CL_DIAG_MAP_W0_SRC (n : Nat) : Fld := ⟨.cl, 0x1400 + 8 * n, 31, 29⟩
def CL_DIAG_MAP_W0_AGG (n : Nat) : Fld := ⟨.cl, 0x1400 + 8 * n, 28, 26⟩
def CL_DIAG_MAP_W0_SIGN (n : Nat) : Fld := ⟨.cl, 0x1400 + 8 * n, 25, 25⟩
def CL_DIAG_MAP_W0_GAMMA (n : Nat) : Fld := ⟨.cl, 0x1400 + 8 * n, 23, 16⟩
def CL_DIAG_MAP_W0_DELAY (n : Nat) : Fld := ⟨.cl, 0x1400 + 8 * n, 15, 0⟩

/-! CL_DIAG_MAP_W1 (R275) -/
def CL_DIAG_MAP_W1_DIST (n : Nat) : Fld := ⟨.cl, 0x1404 + 8 * n, 31, 16⟩
def CL_DIAG_MAP_W1_VALID (n : Nat) : Fld := ⟨.cl, 0x1404 + 8 * n, 15, 15⟩
def CL_DIAG_MAP_W1_LEVEL (n : Nat) : Fld := ⟨.cl, 0x1404 + 8 * n, 11, 0⟩

/-! CL_MS_MAP (R276) -/
def CL_MS_MAP_COUNTS (n : Nat) : Fld := ⟨.cl, 0x1800 + 4 * n, 31, 0⟩

/-! CL_TAP_POOL (R49) -/
def CL_TAP_POOL_HI (n : Nat) : Fld := ⟨.cl, 0x2000 + 4 * n, 31, 16⟩
def CL_TAP_POOL_LO (n : Nat) : Fld := ⟨.cl, 0x2000 + 4 * n, 15, 0⟩

/-! RG_CTRL (R366) -/
def RG_CTRL_GRP : Fld := ⟨.rg, 0x0, 3, 0⟩

/-! RG_PWR_STAT (R436) -/
def RG_PWR_STAT_LAST_WAKE : Fld := ⟨.rg, 0x10, 31, 16⟩
def RG_PWR_STAT_CL_TXN : Fld := ⟨.rg, 0x10, 11, 8⟩
def RG_PWR_STAT_CL_DOZE : Fld := ⟨.rg, 0x10, 7, 4⟩
def RG_PWR_STAT_STATE : Fld := ⟨.rg, 0x10, 1, 0⟩

/-! RG_PWR_CTRL (R437) -/
def RG_PWR_CTRL_STAY_AWAKE : Fld := ⟨.rg, 0x14, 1, 1⟩
def RG_PWR_CTRL_WAKE : Fld := ⟨.rg, 0x14, 0, 0⟩

/-! RG_PACE_STAT (R170) -/
def RG_PACE_STAT_SLOW_UNIT : Fld := ⟨.rg, 0x100, 25, 21⟩
def RG_PACE_STAT_CRIT : Fld := ⟨.rg, 0x100, 20, 20⟩
def RG_PACE_STAT_SHED : Fld := ⟨.rg, 0x100, 19, 19⟩
def RG_PACE_STAT_WARN : Fld := ⟨.rg, 0x100, 18, 18⟩
def RG_PACE_STAT_LAST : Fld := ⟨.rg, 0x100, 9, 0⟩

/-! RG_PACE_CFG (R172) -/
def RG_PACE_CFG_WARN_THR : Fld := ⟨.rg, 0x104, 23, 16⟩
def RG_PACE_CFG_SHED_THR : Fld := ⟨.rg, 0x104, 15, 8⟩
def RG_PACE_CFG_CRIT_THR : Fld := ⟨.rg, 0x104, 7, 0⟩

/-! RG_PACE_MIN (R171) -/
def RG_PACE_MIN_MIN : Fld := ⟨.rg, 0x108, 9, 0⟩

/-! RG_RET_STAT (R438) -/
def RG_RET_STAT_RESTORE_FIX : Fld := ⟨.rg, 0x1000, 15, 8⟩
def RG_RET_STAT_KERBS : Fld := ⟨.rg, 0x1000, 1, 1⟩
def RG_RET_STAT_RET_VALID : Fld := ⟨.rg, 0x1000, 0, 0⟩

/-! DIE_INFO (R574) -/
def DIE_INFO_LINK_UP : Fld := ⟨.die, 0x0, 2, 2⟩
def DIE_INFO_DIE : Fld := ⟨.die, 0x0, 1, 0⟩

/-! DIE_TEMP (R575) -/
def DIE_TEMP_VALID (n : Nat) : Fld := ⟨.die, 0x10 + 4 * n, 31, 31⟩
def DIE_TEMP_TEMP (n : Nat) : Fld := ⟨.die, 0x10 + 4 * n, 15, 0⟩

/-! DIE_XBAR_U (R241) -/
def DIE_XBAR_U_VALID (n : Nat) : Fld := ⟨.die, 0x1000 + 4 * n, 15, 15⟩
def DIE_XBAR_U_HTX_INV (n : Nat) : Fld := ⟨.die, 0x1000 + 4 * n, 14, 14⟩
def DIE_XBAR_U_HRX_INV (n : Nat) : Fld := ⟨.die, 0x1000 + 4 * n, 13, 13⟩
def DIE_XBAR_U_HRX_LANE (n : Nat) : Fld := ⟨.die, 0x1000 + 4 * n, 11, 6⟩
def DIE_XBAR_U_HTX_LANE (n : Nat) : Fld := ⟨.die, 0x1000 + 4 * n, 5, 0⟩

end F

end Sys2Proof.Machine
end

