-- ==== Sys2Proof/Machine/RegTable.lean ====
section
/-! DEFINITION. The register tables of the spec: every register with its fields, their access codes (R16) and reset
values; the address map of R13; what the tables say of a register as a whole. -/

namespace Sys2Proof.Machine

/-- The access codes of R16. -/
inductive Acc where
  | rw
  | ro
  | rc
  | wo
  | rwl
  | rwp
  | rwb
  | rwt
  | rsv
  deriving DecidableEq, Repr

/-- A field of a register's table: its bits [hi:lo], its access code and its reset value. -/
structure FieldRow where
  hi : Nat
  lo : Nat
  acc : Acc
  reset : Nat
  deriving DecidableEq, Repr

/-- A register's table: its offset in its block, how many such registers follow at which stride, and its fields. -/
structure RegRow where
  off : Nat
  count : Nat
  stride : Nat
  fields : List FieldRow
  deriving DecidableEq, Repr


/-- Registers of the hub blocks, part 0. -/
def hubRows0 : List RegRow := [
  -- HUB_PART_ID (R7)
  ⟨0x0, 1, 4, [⟨31, 20, .ro, 0x4e5⟩, ⟨19, 8, .ro, 0x256⟩, ⟨7, 4, .ro, 0⟩, ⟨3, 0, .ro, 0⟩]⟩,
  -- HUB_GRADE (R8)
  ⟨0x4, 1, 4, [⟨31, 7, .rsv, 0⟩, ⟨6, 4, .ro, 0⟩, ⟨3, 2, .ro, 0⟩, ⟨1, 0, .ro, 0⟩]⟩,
  -- HUB_TOPO (R32)
  ⟨0x8, 1, 4, [⟨31, 16, .rsv, 0⟩, ⟨15, 8, .ro, 0⟩, ⟨7, 4, .ro, 0⟩, ⟨3, 1, .rsv, 0⟩, ⟨0, 0, .ro, 0⟩]⟩,
  -- HUB_CLUSTER_MODE (R33)
  ⟨0xc, 1, 4, [⟨31, 0, .ro, 0⟩]⟩,
  -- CROSSWALK_GO (R364)
  ⟨0x10, 1, 4, [⟨31, 16, .rsv, 0⟩, ⟨15, 0, .wo, 0⟩]⟩,
  -- HUB_XW_STAT (R365)
  ⟨0x14, 1, 4, [⟨31, 24, .ro, 0⟩, ⟨23, 8, .ro, 0⟩, ⟨7, 1, .rsv, 0⟩, ⟨0, 0, .ro, 0⟩]⟩,
  -- HUB_XW_TAG (R365)
  ⟨0x18, 1, 4, [⟨31, 0, .ro, 0⟩]⟩,
  -- HUB_ALERT_STAT (R367)
  ⟨0x20, 1, 4, [⟨31, 6, .rsv, 0⟩, ⟨5, 5, .ro, 0⟩, ⟨4, 4, .ro, 0⟩, ⟨3, 3, .ro, 0⟩, ⟨2, 2, .ro, 0⟩, ⟨1, 1, .ro, 0⟩, ⟨0, 0, .ro, 0⟩]⟩,
  -- HUB_ALERT_EN (R367)
  ⟨0x24, 1, 4, [⟨31, 6, .rsv, 0⟩, ⟨5, 0, .rw, 0x3f⟩]⟩,
  -- HUB_REG_EVT (R368)
  ⟨0x28, 1, 4, [⟨31, 7, .rsv, 0⟩, ⟨6, 6, .rc, 0⟩, ⟨5, 5, .rc, 0⟩, ⟨4, 4, .rc, 0⟩, ⟨3, 3, .rc, 0⟩, ⟨2, 2, .rc, 0⟩, ⟨1, 1, .rc, 0⟩, ⟨0, 0, .rc, 0⟩]⟩,
  -- HUB_LKV_ADDR (R369)
  ⟨0x2c, 1, 4, [⟨31, 24, .ro, 0⟩, ⟨23, 0, .ro, 0⟩]⟩,
  -- HUB_CFG_LOCK (R358)
  ⟨0x30, 1, 4, [⟨31, 2, .rsv, 0⟩, ⟨1, 1, .rwl, 0⟩, ⟨0, 0, .rwl, 0⟩]⟩]

/-- Registers of the hub blocks, part 1. -/
def hubRows1 : List RegRow := [
  -- HUB_IMG_INFO (R300)
  ⟨0x100, 1, 4, [⟨31, 24, .ro, 0⟩, ⟨23, 16, .rsv, 0⟩, ⟨15, 15, .ro, 0⟩, ⟨14, 14, .ro, 0⟩, ⟨13, 12, .ro, 0⟩, ⟨11, 1, .rsv, 0⟩, ⟨0, 0, .ro, 0⟩]⟩,
  -- HUB_IMG_VER (R301)
  ⟨0x104, 1, 4, [⟨31, 0, .ro, 0⟩]⟩,
  -- HUB_IMG_HASH (R301)
  ⟨0x108, 8, 4, [⟨31, 0, .ro, 0⟩]⟩,
  -- HUB_IMG_RGN (R302)
  ⟨0x128, 1, 4, [⟨31, 0, .ro, 0⟩]⟩,
  -- HUB_IMG_REASON (R303)
  ⟨0x12c, 1, 4, [⟨31, 0, .ro, 0⟩]⟩,
  -- HUB_IMG_LAST (R304)
  ⟨0x130, 1, 4, [⟨31, 24, .ro, 0⟩, ⟨23, 17, .rsv, 0⟩, ⟨16, 16, .ro, 0⟩, ⟨15, 12, .ro, 0⟩, ⟨11, 8, .ro, 0⟩, ⟨7, 0, .ro, 0⟩]⟩,
  -- HUB_IMG_PUSH (R305)
  ⟨0x140, 1, 4, [⟨31, 0, .wo, 0⟩]⟩,
  -- HUB_MP_CFG (R340)
  ⟨0x200, 1, 4, [⟨31, 16, .rsv, 0⟩, ⟨15, 12, .rwl, 6⟩, ⟨11, 10, .rsv, 0⟩, ⟨9, 8, .rwl, 0⟩, ⟨7, 5, .rsv, 0⟩, ⟨4, 0, .rwl, 0x14⟩]⟩,
  -- HUB_MP_STAT (R341)
  ⟨0x204, 1, 4, [⟨31, 25, .rsv, 0⟩, ⟨24, 24, .ro, 0⟩, ⟨23, 16, .ro, 0⟩, ⟨15, 15, .ro, 0⟩, ⟨14, 14, .ro, 0⟩, ⟨13, 13, .ro, 0⟩, ⟨12, 12, .rsv, 0⟩, ⟨11, 8, .ro, 0⟩, ⟨7, 0, .rsv, 0⟩]⟩,
  -- HUB_MP_EVT (R342)
  ⟨0x208, 1, 4, [⟨31, 10, .rsv, 0⟩, ⟨9, 9, .rc, 0⟩, ⟨8, 8, .rc, 0⟩, ⟨7, 7, .rc, 0⟩, ⟨6, 6, .rc, 0⟩, ⟨5, 5, .rc, 0⟩, ⟨4, 4, .rc, 0⟩, ⟨3, 3, .rc, 0⟩, ⟨2, 2, .rc, 0⟩, ⟨1, 1, .rc, 0⟩, ⟨0, 0, .rc, 0⟩]⟩,
  -- HUB_MP_CNT (R343)
  ⟨0x210, 1, 4, [⟨31, 16, .rc, 0⟩, ⟨15, 0, .rc, 0⟩]⟩,
  -- HUB_MP_PFMISS (R344)
  ⟨0x214, 1, 4, [⟨31, 0, .rc, 0⟩]⟩]

/-- Registers of the hub blocks, part 2. -/
def hubRows2 : List RegRow := [
  -- HUB_MP_FLASH (R345)
  ⟨0x218, 1, 4, [⟨31, 24, .ro, 0⟩, ⟨23, 16, .ro, 0⟩, ⟨15, 8, .rsv, 0⟩, ⟨7, 6, .ro, 0⟩, ⟨5, 5, .ro, 0⟩, ⟨4, 0, .ro, 0⟩]⟩,
  -- HUB_ST_STAT (R508)
  ⟨0x300, 1, 4, [⟨31, 16, .ro, 0⟩, ⟨15, 12, .ro, 0⟩, ⟨11, 8, .ro, 0⟩, ⟨7, 7, .ro, 0⟩, ⟨6, 0, .ro, 0⟩]⟩,
  -- HUB_RPR_STAT (R508)
  ⟨0x304, 1, 4, [⟨31, 23, .ro, 0⟩, ⟨22, 16, .rsv, 0⟩, ⟨15, 8, .ro, 0⟩, ⟨7, 1, .rsv, 0⟩, ⟨0, 0, .ro, 0⟩]⟩,
  -- ST_RESULT_W0 (R509)
  ⟨0x4000, 64, 8, [⟨31, 0, .ro, 0⟩]⟩,
  -- ST_RESULT_W1 (R509)
  ⟨0x4004, 64, 8, [⟨31, 28, .ro, 0⟩, ⟨27, 24, .ro, 0⟩, ⟨23, 16, .ro, 0⟩, ⟨15, 0, .ro, 0⟩]⟩,
  -- CLK_CFG (R426)
  ⟨0x10000, 1, 4, [⟨31, 24, .rsv, 0⟩, ⟨23, 16, .rwt, 0x54⟩, ⟨15, 8, .rwt, 1⟩, ⟨7, 4, .rsv, 0⟩, ⟨3, 0, .rwt, 4⟩]⟩,
  -- CLK_STAT (R427)
  ⟨0x10004, 1, 4, [⟨31, 20, .rsv, 0⟩, ⟨19, 16, .ro, 0⟩, ⟨15, 12, .ro, 0⟩, ⟨11, 11, .ro, 0⟩, ⟨10, 10, .ro, 0⟩, ⟨9, 9, .ro, 1⟩, ⟨8, 8, .ro, 1⟩, ⟨7, 6, .ro, 0⟩, ⟨5, 4, .ro, 0⟩, ⟨3, 1, .rsv, 0⟩, ⟨0, 0, .ro, 0⟩]⟩,
  -- CLK_FREQ (R428)
  ⟨0x10008, 1, 4, [⟨31, 16, .ro, 0⟩, ⟨15, 0, .ro, 0⟩]⟩,
  -- CLK_EVT (R429)
  ⟨0x1000c, 1, 4, [⟨31, 8, .rsv, 0⟩, ⟨7, 7, .rc, 0⟩, ⟨6, 6, .rc, 0⟩, ⟨5, 5, .rc, 0⟩, ⟨4, 4, .rc, 0⟩, ⟨3, 3, .rc, 0⟩, ⟨2, 2, .rc, 0⟩, ⟨1, 1, .rc, 0⟩, ⟨0, 0, .rc, 0⟩]⟩,
  -- CLK_SW (R430)
  ⟨0x10010, 1, 4, [⟨31, 16, .rsv, 0⟩, ⟨15, 12, .ro, 0⟩, ⟨11, 9, .rsv, 0⟩, ⟨8, 8, .wo, 0⟩, ⟨7, 1, .rsv, 0⟩, ⟨0, 0, .wo, 0⟩]⟩,
  -- CLK_GATE (R431)
  ⟨0x10014, 1, 4, [⟨31, 12, .rsv, 0⟩, ⟨11, 8, .rwl, 0⟩, ⟨7, 4, .rwl, 0⟩, ⟨3, 0, .rwl, 0⟩]⟩,
  -- PWR_CFG (R432)
  ⟨0x20000, 1, 4, [⟨31, 24, .rwt, 0⟩, ⟨23, 16, .rwt, 0xff⟩, ⟨15, 8, .rwt, 0xff⟩, ⟨7, 0, .rwt, 0xff⟩]⟩]

/-- Registers of the hub blocks, part 3. -/
def hubRows3 : List RegRow := [
  -- PWR_PKG (R433)
  ⟨0x20004, 1, 4, [⟨31, 24, .rsv, 0⟩, ⟨23, 16, .ro, 0⟩, ⟨15, 8, .ro, 0⟩, ⟨7, 2, .rsv, 0⟩, ⟨1, 0, .ro, 0⟩]⟩,
  -- PWR_TXN (R434)
  ⟨0x20008, 1, 4, [⟨31, 24, .ro, 0⟩, ⟨23, 19, .ro, 0⟩, ⟨18, 18, .ro, 0⟩, ⟨17, 17, .ro, 0⟩, ⟨16, 15, .ro, 0⟩, ⟨14, 10, .ro, 0⟩, ⟨9, 4, .rsv, 0⟩, ⟨3, 0, .ro, 0⟩]⟩,
  -- PWR_LTR (R435)
  ⟨0x21000, 256, 4, [⟨31, 12, .rsv, 0⟩, ⟨11, 10, .rw, 0⟩, ⟨9, 0, .rw, 0⟩]⟩,
  -- FLT_STAT (R500)
  ⟨0x30000, 1, 4, [⟨31, 24, .ro, 0⟩, ⟨23, 16, .ro, 0⟩, ⟨15, 8, .ro, 0⟩, ⟨7, 4, .ro, 0⟩, ⟨3, 1, .rsv, 0⟩, ⟨0, 0, .ro, 0⟩]⟩,
  -- FLT_CTRL (R501)
  ⟨0x30004, 1, 4, [⟨31, 3, .rsv, 0⟩, ⟨2, 2, .wo, 0⟩, ⟨1, 1, .wo, 0⟩, ⟨0, 0, .wo, 0⟩]⟩,
  -- FLT_CNT_AB (R502)
  ⟨0x30008, 1, 4, [⟨31, 16, .ro, 0⟩, ⟨15, 0, .ro, 0⟩]⟩,
  -- FLT_CNT_CD (R502)
  ⟨0x3000c, 1, 4, [⟨31, 16, .ro, 0⟩, ⟨15, 0, .ro, 0⟩]⟩,
  -- FLT_SUPPR (R502)
  ⟨0x30010, 1, 4, [⟨31, 16, .rc, 0⟩, ⟨15, 0, .rc, 0⟩]⟩,
  -- FLT_ALERT (R502)
  ⟨0x30014, 1, 4, [⟨31, 16, .rc, 0⟩, ⟨15, 0, .ro, 0⟩]⟩,
  -- FLT_HQ (R503)
  ⟨0x30018, 1, 4, [⟨31, 16, .ro, 0⟩, ⟨15, 15, .ro, 0⟩, ⟨14, 14, .ro, 0⟩, ⟨13, 13, .ro, 0⟩, ⟨12, 7, .rsv, 0⟩, ⟨6, 0, .ro, 0⟩]⟩,
  -- FLT_HQ_SEQ (R503)
  ⟨0x3001c, 1, 4, [⟨31, 0, .ro, 0⟩]⟩,
  -- FLT_ECC_CFG (R506)
  ⟨0x30040, 1, 4, [⟨31, 24, .rsv, 0⟩, ⟨23, 16, .rwt, 0x10⟩, ⟨15, 12, .rwt, 6⟩, ⟨11, 0, .rwt, 0x10⟩]⟩]

/-- Registers of the hub blocks, part 4. -/
def hubRows4 : List RegRow := [
  -- FLT_ECC_CE_LO (R507)
  ⟨0x30048, 1, 4, [⟨31, 0, .ro, 0⟩]⟩,
  -- FLT_ECC_CE_HI (R507)
  ⟨0x3004c, 1, 4, [⟨31, 0, .ro, 0⟩]⟩,
  -- FLT_ECC_UE_LO (R507)
  ⟨0x30050, 1, 4, [⟨31, 0, .ro, 0⟩]⟩,
  -- FLT_ECC_UE_HI (R507)
  ⟨0x30054, 1, 4, [⟨31, 0, .ro, 0⟩]⟩,
  -- FLT_ECC_POISON_LO (R507)
  ⟨0x30058, 1, 4, [⟨31, 0, .ro, 0⟩]⟩,
  -- FLT_ECC_POISON_HI (R507)
  ⟨0x3005c, 1, 4, [⟨31, 0, .ro, 0⟩]⟩,
  -- FLT_ECC_LAST (R507)
  ⟨0x30060, 1, 4, [⟨31, 0, .ro, 0⟩]⟩,
  -- FLT_ECC_INFO (R507)
  ⟨0x30064, 1, 4, [⟨31, 24, .ro, 0⟩, ⟨23, 16, .ro, 0⟩, ⟨15, 1, .rsv, 0⟩, ⟨0, 0, .ro, 0⟩]⟩,
  -- FLT_MATRIX (R504)
  ⟨0x30400, 256, 4, [⟨31, 0, .ro, 0⟩]⟩,
  -- FLT_HIST (R505)
  ⟨0x31000, 512, 4, [⟨31, 0, .ro, 0⟩]⟩,
  -- OPT_ARG (R387)
  ⟨0x40000, 4, 4, [⟨31, 0, .rw, 0⟩]⟩,
  -- OPT_POST (R388)
  ⟨0x40010, 1, 4, [⟨31, 29, .wo, 0⟩, ⟨28, 20, .wo, 0⟩, ⟨19, 16, .rsv, 0⟩, ⟨15, 8, .wo, 0⟩, ⟨7, 0, .wo, 0⟩]⟩]

/-- Registers of the hub blocks, part 5. -/
def hubRows5 : List RegRow := [
  -- OPT_LAST_POST (R389)
  ⟨0x40014, 1, 4, [⟨31, 16, .ro, 0⟩, ⟨15, 8, .ro, 0⟩, ⟨7, 4, .rsv, 0⟩, ⟨3, 0, .ro, 0⟩]⟩,
  -- OPT_CPL_LO (R390)
  ⟨0x40018, 1, 4, [⟨31, 16, .rc, 0⟩, ⟨15, 12, .rc, 0⟩, ⟨11, 8, .rsv, 0⟩, ⟨7, 0, .rc, 0⟩]⟩,
  -- OPT_CPL_HI (R390)
  ⟨0x4001c, 1, 4, [⟨31, 0, .ro, 0⟩]⟩,
  -- OPT_STAT (R391)
  ⟨0x40020, 1, 4, [⟨31, 25, .ro, 0⟩, ⟨24, 14, .ro, 0⟩, ⟨13, 12, .ro, 0⟩, ⟨11, 11, .rsv, 0⟩, ⟨10, 0, .ro, 0⟩]⟩,
  -- OPT_CPL_CANCEL (R392)
  ⟨0x40024, 1, 4, [⟨31, 16, .rsv, 0⟩, ⟨15, 0, .wo, 0⟩]⟩,
  -- OPT_EPOCH (R392)
  ⟨0x40028, 1, 4, [⟨31, 8, .rsv, 0⟩, ⟨7, 0, .ro, 0⟩]⟩,
  -- OPT_ENTRY (R383)
  ⟨0x44000, 4096, 4, [⟨31, 0, .ro, 0⟩]⟩,
  -- SEC_LC (R534)
  ⟨0x50000, 1, 4, [⟨31, 24, .ro, 0⟩, ⟨23, 15, .rsv, 0⟩, ⟨14, 8, .ro, 8⟩, ⟨7, 7, .ro, 0⟩, ⟨6, 6, .ro, 0⟩, ⟨5, 5, .ro, 0⟩, ⟨4, 4, .ro, 0⟩, ⟨3, 3, .ro, 0⟩, ⟨2, 2, .ro, 0⟩, ⟨1, 0, .ro, 0⟩]⟩,
  -- SEC_EVT (R535)
  ⟨0x50004, 1, 4, [⟨31, 10, .rsv, 0⟩, ⟨9, 9, .rc, 0⟩, ⟨8, 8, .rc, 0⟩, ⟨7, 7, .rc, 0⟩, ⟨6, 6, .rc, 0⟩, ⟨5, 5, .rc, 0⟩, ⟨4, 4, .rc, 0⟩, ⟨3, 3, .rc, 0⟩, ⟨2, 2, .rc, 0⟩, ⟨1, 1, .rc, 0⟩, ⟨0, 0, .rc, 0⟩]⟩,
  -- SEC_SIG_NEXT (R536)
  ⟨0x50008, 1, 4, [⟨31, 26, .rsv, 0⟩, ⟨25, 0, .ro, 0⟩]⟩,
  -- SEC_ID (R537)
  ⟨0x50010, 8, 4, [⟨31, 0, .ro, 0⟩]⟩,
  -- SEC_PK (R537)
  ⟨0x50030, 15, 4, [⟨31, 0, .ro, 0⟩]⟩]

/-- Registers of the hub blocks, part 6. -/
def hubRows6 : List RegRow := [
  -- SEC_OWN_PK (R538)
  ⟨0x50100, 15, 4, [⟨31, 0, .rw, 0⟩]⟩,
  -- SEC_BL_STAT (R539)
  ⟨0x50200, 1, 4, [⟨31, 16, .ro, 0⟩, ⟨15, 14, .ro, 0⟩, ⟨13, 12, .rsv, 0⟩, ⟨11, 8, .ro, 0⟩, ⟨7, 0, .ro, 1⟩]⟩,
  -- SEC_BL_UNITS (R540)
  ⟨0x50210, 8, 4, [⟨31, 0, .ro, 0⟩]⟩,
  -- SEC_REPORT (R523)
  ⟨0x52000, 2048, 4, [⟨31, 0, .ro, 0⟩]⟩,
  -- CAL_CFG (R461)
  ⟨0x60000, 1, 4, [⟨31, 16, .rwp, 0xe10⟩, ⟨15, 8, .rsv, 0⟩, ⟨7, 0, .rwp, 0x20⟩]⟩,
  -- CAL_EN (R462)
  ⟨0x60004, 1, 4, [⟨31, 0, .rwp, 0xffffffff⟩]⟩,
  -- CAL_STAT (R463)
  ⟨0x60008, 1, 4, [⟨31, 24, .ro, 0⟩, ⟨23, 18, .ro, 0⟩, ⟨17, 17, .rsv, 0⟩, ⟨16, 16, .ro, 0⟩, ⟨15, 8, .ro, 0⟩, ⟨7, 6, .rsv, 0⟩, ⟨5, 0, .ro, 0⟩]⟩,
  -- CAL_EVT (R464)
  ⟨0x6000c, 1, 4, [⟨31, 5, .rsv, 0⟩, ⟨4, 4, .rc, 0⟩, ⟨3, 3, .rc, 0⟩, ⟨2, 2, .rc, 0⟩, ⟨1, 1, .rc, 0⟩, ⟨0, 0, .rc, 0⟩]⟩,
  -- MRAM (R47)
  ⟨0x80000, 65536, 4, [⟨31, 0, .ro, 0⟩]⟩]

/-- Every register of the hub blocks. -/
def hubRows : List RegRow := hubRows0 ++ hubRows1 ++ hubRows2 ++ hubRows3 ++ hubRows4 ++ hubRows5 ++ hubRows6

/-- Registers of the lu blocks, part 0. -/
def luRows0 : List RegRow := [
  -- LU_CTRL (R366)
  ⟨0x0, 1, 4, [⟨31, 8, .rsv, 0⟩, ⟨7, 7, .wo, 0⟩, ⟨6, 4, .rsv, 0⟩, ⟨3, 0, .rw, 0⟩]⟩,
  -- LU_BU_CTRL (R207)
  ⟨0x20, 1, 4, [⟨31, 10, .rsv, 0⟩, ⟨9, 9, .wo, 0⟩, ⟨8, 8, .rw, 1⟩, ⟨7, 7, .rw, 1⟩, ⟨6, 4, .rw, 1⟩, ⟨3, 3, .rsv, 0⟩, ⟨2, 2, .wo, 0⟩, ⟨1, 1, .wo, 0⟩, ⟨0, 0, .rw, 0⟩]⟩,
  -- LU_BU_CFG (R208)
  ⟨0x24, 1, 4, [⟨31, 24, .rsv, 0⟩, ⟨23, 20, .rw, 4⟩, ⟨19, 16, .rw, 1⟩, ⟨15, 12, .rw, 0⟩, ⟨11, 11, .rsv, 0⟩, ⟨10, 8, .rw, 3⟩, ⟨7, 0, .rw, 0xcd⟩]⟩,
  -- LU_BU_STAT (R209)
  ⟨0x28, 1, 4, [⟨31, 24, .ro, 0⟩, ⟨23, 23, .rsv, 0⟩, ⟨22, 22, .ro, 0⟩, ⟨21, 21, .ro, 0⟩, ⟨20, 20, .ro, 0⟩, ⟨19, 19, .ro, 0⟩, ⟨18, 16, .ro, 0⟩, ⟨15, 12, .ro, 0⟩, ⟨11, 8, .ro, 0⟩, ⟨7, 5, .rsv, 0⟩, ⟨4, 0, .ro, 0⟩]⟩,
  -- LU_BU_TIME (R210)
  ⟨0x2c, 1, 4, [⟨31, 16, .ro, 0⟩, ⟨15, 0, .ro, 0⟩]⟩,
  -- LU_BU_EVT (R211)
  ⟨0x30, 1, 4, [⟨31, 8, .rsv, 0⟩, ⟨7, 7, .rc, 0⟩, ⟨6, 6, .rc, 0⟩, ⟨5, 5, .rc, 0⟩, ⟨4, 4, .rc, 0⟩, ⟨3, 3, .rc, 0⟩, ⟨2, 2, .rc, 0⟩, ⟨1, 1, .rc, 0⟩, ⟨0, 0, .rc, 0⟩]⟩,
  -- LU_BU_NEG (R212)
  ⟨0x34, 1, 4, [⟨31, 24, .ro, 0⟩, ⟨23, 23, .rsv, 0⟩, ⟨22, 22, .ro, 0⟩, ⟨21, 19, .ro, 0⟩, ⟨18, 16, .ro, 0⟩, ⟨15, 0, .ro, 0⟩]⟩,
  -- LU_LINE_FRAME (R84)
  ⟨0x40, 1, 4, [⟨31, 24, .rsv, 0⟩, ⟨23, 20, .ro, 0⟩, ⟨19, 16, .ro, 0⟩, ⟨15, 14, .ro, 0⟩, ⟨13, 13, .ro, 0⟩, ⟨12, 12, .ro, 0⟩, ⟨11, 11, .ro, 0⟩, ⟨10, 10, .ro, 0⟩, ⟨9, 9, .ro, 0⟩, ⟨8, 8, .ro, 0⟩, ⟨7, 5, .rsv, 0⟩, ⟨4, 4, .ro, 0⟩, ⟨3, 2, .ro, 0⟩, ⟨1, 1, .ro, 0⟩, ⟨0, 0, .ro, 0⟩]⟩,
  -- LU_LINE_EVT (R85)
  ⟨0x44, 1, 4, [⟨31, 6, .rsv, 0⟩, ⟨5, 5, .rc, 0⟩, ⟨4, 4, .rc, 0⟩, ⟨3, 3, .rc, 0⟩, ⟨2, 2, .rc, 0⟩, ⟨1, 1, .rc, 0⟩, ⟨0, 0, .rc, 0⟩]⟩,
  -- LU_RX_CFG (R163)
  ⟨0x100, 1, 4, [⟨31, 24, .rsv, 0⟩, ⟨23, 16, .rw, 0x4c⟩, ⟨15, 8, .rw, 0x54⟩, ⟨7, 5, .rsv, 0⟩, ⟨4, 0, .rw, 0x10⟩]⟩,
  -- LU_RX_STAT (R164)
  ⟨0x104, 1, 4, [⟨31, 22, .ro, 0⟩, ⟨21, 16, .ro, 0⟩, ⟨15, 11, .ro, 0⟩, ⟨10, 6, .ro, 0⟩, ⟨5, 5, .ro, 0⟩, ⟨4, 4, .ro, 0⟩, ⟨3, 3, .ro, 0⟩, ⟨2, 2, .ro, 0⟩, ⟨1, 1, .ro, 0⟩, ⟨0, 0, .ro, 0⟩]⟩,
  -- LU_RX_LQI (R165)
  ⟨0x108, 1, 4, [⟨31, 16, .rsv, 0⟩, ⟨15, 0, .ro, 0xffff⟩]⟩]

/-- Registers of the lu blocks, part 1. -/
def luRows1 : List RegRow := [
  -- LU_RX_LAT (R166)
  ⟨0x10c, 1, 4, [⟨31, 16, .ro, 0⟩, ⟨15, 8, .rsv, 0⟩, ⟨7, 0, .ro, 0⟩]⟩,
  -- LU_RX_EVT (R167)
  ⟨0x110, 1, 4, [⟨31, 8, .rsv, 0⟩, ⟨7, 7, .rc, 0⟩, ⟨6, 6, .rc, 0⟩, ⟨5, 5, .rc, 0⟩, ⟨4, 4, .rc, 0⟩, ⟨3, 3, .rc, 0⟩, ⟨2, 2, .rc, 0⟩, ⟨1, 1, .rc, 0⟩, ⟨0, 0, .rsv, 0⟩]⟩,
  -- LU_CAL_STAT (R469)
  ⟨0x114, 1, 4, [⟨31, 24, .ro, 0xff⟩, ⟨23, 16, .ro, 0xff⟩, ⟨15, 12, .ro, 0⟩, ⟨11, 5, .rsv, 0⟩, ⟨4, 4, .ro, 0⟩, ⟨3, 3, .ro, 0⟩, ⟨2, 2, .ro, 0⟩, ⟨1, 1, .ro, 0⟩, ⟨0, 0, .ro, 0⟩]⟩,
  -- LU_RB_CTRL (R124)
  ⟨0x180, 1, 4, [⟨31, 15, .rsv, 0⟩, ⟨14, 12, .rw, 2⟩, ⟨11, 7, .rsv, 0⟩, ⟨6, 6, .rw, 1⟩, ⟨5, 5, .rw, 1⟩, ⟨4, 4, .rw, 0⟩, ⟨3, 3, .rw, 0⟩, ⟨2, 2, .rw, 0⟩, ⟨1, 1, .rw, 0⟩, ⟨0, 0, .rsv, 0⟩]⟩,
  -- LU_RB_STAT (R125)
  ⟨0x184, 1, 4, [⟨31, 16, .rsv, 0⟩, ⟨15, 12, .ro, 0⟩, ⟨11, 8, .ro, 0⟩, ⟨7, 7, .ro, 0⟩, ⟨6, 6, .ro, 0⟩, ⟨5, 5, .ro, 0⟩, ⟨4, 4, .rsv, 0⟩, ⟨3, 3, .ro, 0⟩, ⟨2, 0, .ro, 7⟩]⟩,
  -- LU_RB_DEPTH (R126)
  ⟨0x188, 1, 4, [⟨31, 16, .ro, 0xffff⟩, ⟨15, 0, .ro, 0⟩]⟩,
  -- LU_RB_EVT (R127)
  ⟨0x18c, 1, 4, [⟨31, 6, .rsv, 0⟩, ⟨5, 5, .rc, 0⟩, ⟨4, 4, .rc, 0⟩, ⟨3, 3, .rc, 0⟩, ⟨2, 2, .rc, 0⟩, ⟨1, 1, .rc, 0⟩, ⟨0, 0, .rc, 0⟩]⟩,
  -- LU_RB_WIN (R128)
  ⟨0x190, 8, 4, [⟨31, 30, .ro, 0⟩, ⟨29, 24, .ro, 0⟩, ⟨23, 12, .ro, 0⟩, ⟨11, 0, .ro, 0xfff⟩]⟩,
  -- LU_TX_FIR (R168)
  ⟨0x200, 1, 4, [⟨31, 31, .rsv, 0⟩, ⟨30, 25, .rwb, 0⟩, ⟨24, 19, .rwb, 0x38⟩, ⟨18, 12, .rwb, 0x32⟩, ⟨11, 6, .rwb, 0x3a⟩, ⟨5, 0, .rwb, 0⟩]⟩,
  -- LU_TX_CTRL (R169)
  ⟨0x204, 1, 4, [⟨31, 9, .rsv, 0⟩, ⟨8, 8, .rc, 0⟩, ⟨7, 5, .rsv, 0⟩, ⟨4, 4, .wo, 0⟩, ⟨3, 3, .rsv, 0⟩, ⟨2, 0, .rw, 3⟩]⟩,
  -- LU_HOST_CFG (R235)
  ⟨0x300, 1, 4, [⟨31, 3, .rsv, 0⟩, ⟨2, 2, .rw, 0⟩, ⟨1, 1, .rwb, 0⟩, ⟨0, 0, .rwb, 0⟩]⟩,
  -- LU_HTX_FIR (R236)
  ⟨0x304, 1, 4, [⟨31, 25, .rsv, 0⟩, ⟨24, 19, .rwb, 0x3c⟩, ⟨18, 12, .rwb, 0x38⟩, ⟨11, 6, .rwb, 0x3c⟩, ⟨5, 0, .rwb, 0⟩]⟩]

/-- Registers of the lu blocks, part 2. -/
def luRows2 : List RegRow := [
  -- LU_HOST_STAT (R237)
  ⟨0x308, 1, 4, [⟨31, 23, .ro, 0⟩, ⟨22, 14, .ro, 0⟩, ⟨13, 8, .rsv, 0⟩, ⟨7, 6, .ro, 0⟩, ⟨5, 5, .ro, 0⟩, ⟨4, 4, .ro, 0⟩, ⟨3, 3, .ro, 0⟩, ⟨2, 0, .ro, 0⟩]⟩,
  -- LU_HOST_EVT (R238)
  ⟨0x30c, 1, 4, [⟨31, 8, .rsv, 0⟩, ⟨7, 7, .rc, 0⟩, ⟨6, 6, .rc, 0⟩, ⟨5, 5, .rc, 0⟩, ⟨4, 4, .rc, 0⟩, ⟨3, 3, .rc, 0⟩, ⟨2, 2, .rc, 0⟩, ⟨1, 1, .rc, 0⟩, ⟨0, 0, .rc, 0⟩]⟩,
  -- LU_CNT (R247)
  ⟨0x400, 28, 4, [⟨31, 0, .ro, 0⟩]⟩,
  -- LU_HIST (R247)
  ⟨0x480, 32, 4, [⟨31, 0, .ro, 0⟩]⟩,
  -- LU_MON_INT0 (R248)
  ⟨0x500, 1, 4, [⟨31, 24, .ro, 0⟩, ⟨23, 12, .ro, 0xfff⟩, ⟨11, 0, .ro, 0xfff⟩]⟩,
  -- LU_MON_INT1 (R248)
  ⟨0x504, 1, 4, [⟨31, 24, .ro, 0⟩, ⟨23, 23, .ro, 0⟩, ⟨22, 20, .rsv, 0⟩, ⟨19, 12, .ro, 0⟩, ⟨11, 0, .ro, 0xfff⟩]⟩,
  -- LU_MON_INT2 (R248)
  ⟨0x508, 1, 4, [⟨31, 24, .ro, 0⟩, ⟨23, 0, .ro, 0⟩]⟩,
  -- LU_MON_INT3 (R248)
  ⟨0x50c, 1, 4, [⟨31, 24, .ro, 0⟩, ⟨23, 16, .ro, 0⟩, ⟨15, 0, .ro, 0⟩]⟩,
  -- LU_PAT_CTRL (R267)
  ⟨0x520, 1, 4, [⟨31, 16, .rsv, 0⟩, ⟨15, 14, .rw, 0⟩, ⟨13, 12, .rw, 0⟩, ⟨11, 10, .rsv, 0⟩, ⟨9, 8, .rw, 0⟩, ⟨7, 6, .rsv, 0⟩, ⟨5, 4, .rw, 0⟩, ⟨3, 1, .rsv, 0⟩, ⟨0, 0, .ro, 0⟩]⟩,
  -- LU_INJ_CTRL (R268)
  ⟨0x528, 1, 4, [⟨31, 16, .rw, 0⟩, ⟨15, 11, .rsv, 0⟩, ⟨10, 6, .rw, 1⟩, ⟨5, 4, .rsv, 0⟩, ⟨3, 3, .rw, 0⟩, ⟨2, 2, .rsv, 0⟩, ⟨1, 1, .wo, 0⟩, ⟨0, 0, .wo, 0⟩]⟩,
  -- LU_MON_EVT (R269)
  ⟨0x530, 1, 4, [⟨31, 6, .rsv, 0⟩, ⟨5, 5, .rc, 0⟩, ⟨4, 4, .rc, 0⟩, ⟨3, 3, .rc, 0⟩, ⟨2, 2, .rc, 0⟩, ⟨1, 1, .rc, 0⟩, ⟨0, 0, .rc, 0⟩]⟩,
  -- LU_MON_CTRL (R270)
  ⟨0x534, 1, 4, [⟨31, 1, .rsv, 0⟩, ⟨0, 0, .wo, 0⟩]⟩]

/-- Registers of the lu blocks, part 3. -/
def luRows3 : List RegRow := [
  -- LU_MS_EYE (R271)
  ⟨0x540, 3, 4, [⟨31, 24, .ro, 0xff⟩, ⟨23, 16, .ro, 0xff⟩, ⟨15, 8, .ro, 0xff⟩, ⟨7, 0, .ro, 0xff⟩]⟩,
  -- LU_MS_STAT (R271)
  ⟨0x54c, 1, 4, [⟨31, 24, .ro, 0⟩, ⟨23, 16, .ro, 0⟩, ⟨15, 12, .ro, 0⟩, ⟨11, 10, .ro, 0⟩, ⟨9, 5, .rsv, 0⟩, ⟨4, 0, .ro, 0⟩]⟩]

/-- Every register of the lu blocks. -/
def luRows : List RegRow := luRows0 ++ luRows1 ++ luRows2 ++ luRows3

/-- Registers of the cl blocks, part 0. -/
def clRows0 : List RegRow := [
  -- CL_CTRL (R366)
  ⟨0x0, 1, 4, [⟨31, 9, .rsv, 0⟩, ⟨8, 8, .wo, 0⟩, ⟨7, 4, .rsv, 0⟩, ⟨3, 0, .rw, 0⟩]⟩,
  -- CL_PORT_MAP (R239)
  ⟨0x10, 1, 4, [⟨31, 0, .ro, 0⟩]⟩,
  -- CL_PORT_STAT (R240)
  ⟨0x14, 1, 4, [⟨31, 24, .rsv, 0⟩, ⟨23, 16, .ro, 0⟩, ⟨15, 8, .ro, 0⟩, ⟨7, 0, .ro, 0⟩]⟩,
  -- CL_RB_ALLOC (R129)
  ⟨0x200, 1, 4, [⟨31, 28, .rsv, 0⟩, ⟨27, 24, .ro, 0⟩, ⟨23, 22, .rsv, 0⟩, ⟨21, 16, .ro, 0⟩, ⟨15, 12, .rsv, 0⟩, ⟨11, 8, .ro, 0⟩, ⟨7, 0, .ro, 0⟩]⟩,
  -- CL_RB_POOL (R130)
  ⟨0x204, 1, 4, [⟨31, 30, .rsv, 0⟩, ⟨29, 24, .ro, 0⟩, ⟨23, 22, .rsv, 0⟩, ⟨21, 16, .ro, 0⟩, ⟨15, 13, .rsv, 0⟩, ⟨12, 0, .ro, 0⟩]⟩,
  -- CL_RB_CFG (R131)
  ⟨0x208, 1, 4, [⟨31, 24, .rsv, 0⟩, ⟨23, 16, .rw, 0xa⟩, ⟨15, 12, .rsv, 0⟩, ⟨11, 0, .rw, 0x1cc⟩]⟩,
  -- CL_RB_RELEASE (R132)
  ⟨0x20c, 1, 4, [⟨31, 9, .rsv, 0⟩, ⟨8, 8, .wo, 0⟩, ⟨7, 5, .rsv, 0⟩, ⟨4, 0, .wo, 0⟩]⟩,
  -- CL_RB_XOWN (R133)
  ⟨0x210, 4, 4, [⟨31, 0, .ro, 0⟩]⟩,
  -- CL_MON_CFG (R266)
  ⟨0x300, 1, 4, [⟨31, 29, .rsv, 0⟩, ⟨28, 24, .rw, 0xc⟩, ⟨23, 20, .rw, 7⟩, ⟨19, 16, .rsv, 0⟩, ⟨15, 8, .rw, 0xc3⟩, ⟨7, 5, .rsv, 0⟩, ⟨4, 0, .rw, 0xb⟩]⟩,
  -- CL_CAL_STAT (R465)
  ⟨0x1000, 1, 4, [⟨31, 24, .ro, 0⟩, ⟨23, 20, .ro, 0⟩, ⟨19, 17, .ro, 0⟩, ⟨16, 14, .rsv, 0⟩, ⟨13, 11, .ro, 0⟩, ⟨10, 8, .ro, 0⟩, ⟨7, 0, .ro, 0⟩]⟩,
  -- CL_CAL_RUNS (R466)
  ⟨0x1004, 1, 4, [⟨31, 16, .ro, 0⟩, ⟨15, 0, .ro, 0⟩]⟩,
  -- CL_CAL_TIME (R467)
  ⟨0x1008, 1, 4, [⟨31, 0, .ro, 0⟩]⟩]

/-- Registers of the cl blocks, part 1. -/
def clRows1 : List RegRow := [
  -- CL_CAL_TEMP (R467)
  ⟨0x100c, 1, 4, [⟨31, 16, .ro, 0⟩, ⟨15, 0, .ro, 0⟩]⟩,
  -- CL_CAL_PT (R468)
  ⟨0x1010, 5, 4, [⟨31, 31, .ro, 0⟩, ⟨30, 16, .rsv, 0⟩, ⟨15, 0, .ro, 0⟩]⟩,
  -- CL_DIAG_CFG (R272)
  ⟨0x1100, 1, 4, [⟨31, 26, .rsv, 0⟩, ⟨25, 24, .rw, 0⟩, ⟨23, 16, .rw, 0x14⟩, ⟨15, 12, .rsv, 0⟩, ⟨11, 0, .rw, 0x1b8⟩]⟩,
  -- CL_MS_MAPU (R273)
  ⟨0x1108, 1, 4, [⟨31, 16, .rsv, 0⟩, ⟨15, 8, .ro, 0⟩, ⟨7, 4, .rsv, 0⟩, ⟨3, 3, .ro, 0⟩, ⟨2, 0, .ro, 0⟩]⟩,
  -- CL_DIAG_U (R274)
  ⟨0x1120, 8, 4, [⟨31, 16, .ro, 0⟩, ⟨15, 12, .ro, 0⟩, ⟨11, 8, .ro, 0⟩, ⟨7, 7, .ro, 0⟩, ⟨6, 4, .ro, 0⟩, ⟨3, 3, .rsv, 0⟩, ⟨2, 0, .ro, 0⟩]⟩,
  -- CL_DIAG_MAP_W0 (R275)
  ⟨0x1400, 128, 8, [⟨31, 29, .ro, 0⟩, ⟨28, 26, .ro, 0⟩, ⟨25, 25, .ro, 0⟩, ⟨24, 24, .rsv, 0⟩, ⟨23, 16, .ro, 0⟩, ⟨15, 0, .ro, 0⟩]⟩,
  -- CL_DIAG_MAP_W1 (R275)
  ⟨0x1404, 128, 8, [⟨31, 16, .ro, 0⟩, ⟨15, 15, .ro, 0⟩, ⟨14, 12, .rsv, 0⟩, ⟨11, 0, .ro, 0⟩]⟩,
  -- CL_MS_MAP (R276)
  ⟨0x1800, 512, 4, [⟨31, 0, .ro, 0⟩]⟩,
  -- CL_TAP_POOL (R49)
  ⟨0x2000, 2048, 4, [⟨31, 16, .rw, 0⟩, ⟨15, 0, .rw, 0⟩]⟩]

/-- Every register of the cl blocks. -/
def clRows : List RegRow := clRows0 ++ clRows1

/-- Registers of the rg blocks, part 0. -/
def rgRows0 : List RegRow := [
  -- RG_CTRL (R366)
  ⟨0x0, 1, 4, [⟨31, 4, .rsv, 0⟩, ⟨3, 0, .rw, 0⟩]⟩,
  -- RG_PWR_STAT (R436)
  ⟨0x10, 1, 4, [⟨31, 16, .ro, 0⟩, ⟨15, 12, .rsv, 0⟩, ⟨11, 8, .ro, 0⟩, ⟨7, 4, .ro, 0⟩, ⟨3, 2, .rsv, 0⟩, ⟨1, 0, .ro, 0⟩]⟩,
  -- RG_PWR_CTRL (R437)
  ⟨0x14, 1, 4, [⟨31, 2, .rsv, 0⟩, ⟨1, 1, .rw, 0⟩, ⟨0, 0, .wo, 0⟩]⟩,
  -- RG_PACE_STAT (R170)
  ⟨0x100, 1, 4, [⟨31, 26, .rsv, 0⟩, ⟨25, 21, .ro, 0⟩, ⟨20, 20, .ro, 0⟩, ⟨19, 19, .ro, 0⟩, ⟨18, 18, .ro, 0⟩, ⟨17, 10, .rsv, 0⟩, ⟨9, 0, .ro, 0x3ff⟩]⟩,
  -- RG_PACE_CFG (R172)
  ⟨0x104, 1, 4, [⟨31, 24, .rsv, 0⟩, ⟨23, 16, .rwt, 0x50⟩, ⟨15, 8, .rwt, 0x32⟩, ⟨7, 0, .rwt, 0x14⟩]⟩,
  -- RG_PACE_MIN (R171)
  ⟨0x108, 1, 4, [⟨31, 10, .rsv, 0⟩, ⟨9, 0, .rc, 0x3ff⟩]⟩,
  -- RG_RET_STAT (R438)
  ⟨0x1000, 1, 4, [⟨31, 16, .rsv, 0⟩, ⟨15, 8, .ro, 0⟩, ⟨7, 2, .rsv, 0⟩, ⟨1, 1, .ro, 0⟩, ⟨0, 0, .ro, 0⟩]⟩]

/-- Every register of the rg blocks. -/
def rgRows : List RegRow := rgRows0

/-- Registers of the die blocks, part 0. -/
def dieRows0 : List RegRow := [
  -- DIE_INFO (R574)
  ⟨0x0, 1, 4, [⟨31, 3, .rsv, 0⟩, ⟨2, 2, .ro, 0⟩, ⟨1, 0, .ro, 0⟩]⟩,
  -- DIE_TEMP (R575)
  ⟨0x10, 10, 4, [⟨31, 31, .ro, 0⟩, ⟨30, 16, .rsv, 0⟩, ⟨15, 0, .ro, 0⟩]⟩,
  -- DIE_XBAR_U (R241)
  ⟨0x1000, 64, 4, [⟨31, 16, .rsv, 0⟩, ⟨15, 15, .ro, 0⟩, ⟨14, 14, .ro, 0⟩, ⟨13, 13, .ro, 0⟩, ⟨12, 12, .rsv, 0⟩, ⟨11, 6, .ro, 0⟩, ⟨5, 0, .ro, 0⟩]⟩]

/-- Every register of the die blocks. -/
def dieRows : List RegRow := dieRows0

/-- The registers of a block of each kind. -/
def blkRows : Blk → List RegRow
  | .hub => hubRows
  | .lu => luRows
  | .cl => clRows
  | .rg => rgRows
  | .die => dieRows

/-- Whether a row holds a register at an offset. -/
def RegRow.covers (r : RegRow) (off : Nat) : Bool :=
  decide (r.off ≤ off) && decide ((off - r.off) % r.stride = 0) && decide ((off - r.off) / r.stride < r.count)

/-- The register at an offset of a block (none: unassigned, R14). -/
def findReg (b : Blk) (off : Nat) : Option RegRow := (blkRows b).find? (fun r => r.covers off)

/-- The bits [hi:lo] of a word, set. -/
def fieldMask (hi lo : Nat) : Word := BitVec.ofNat 32 (2 ^ (hi + 1) - 2 ^ lo)

/-- The bits of a register whose fields carry an access code. -/
def RegRow.mask (r : RegRow) (a : Acc) : Word :=
  (r.fields.filter (fun f => f.acc = a)).foldl (fun m f => m ||| fieldMask f.hi f.lo) 0

/-- A register's reset value. -/
def RegRow.resetWord (r : RegRow) : Word :=
  BitVec.ofNat 32 (r.fields.foldl (fun m f => m + f.reset * 2 ^ f.lo) 0)

/-- Base address of block number i of a kind (R13). -/
def blkBase : Blk → Nat → Nat
  | .hub, _ => 0
  | .lu, u => 0x100000 + u * 0x1000
  | .cl, c => 0x200000 + c * 0x4000
  | .rg, q => 0x280000 + q * 0x4000
  | .die, d => 0x2A0000 + d * 0x8000

/-- A byte address as its block, the block's number and the offset; none above the die range (R13, R14). -/
def locate (a : Nat) : Option (Blk × Nat × Nat) :=
  if a < 0x100000 then some (.hub, 0, a)
  else if a < 0x200000 then some (.lu, (a - 0x100000) / 0x1000, (a - 0x100000) % 0x1000)
  else if a < 0x280000 then some (.cl, (a - 0x200000) / 0x4000, (a - 0x200000) % 0x4000)
  else if a < 0x2A0000 then some (.rg, (a - 0x280000) / 0x4000, (a - 0x280000) % 0x4000)
  else if a < 0x2C0000 then some (.die, (a - 0x2A0000) / 0x8000, (a - 0x2A0000) % 0x8000)
  else none

/-- The register at an address (none: unassigned or not aligned, R14). -/
def regAt (a : Nat) : Option RegRow :=
  if a % 4 = 0 then (locate a).bind (fun x => findReg x.1 x.2.2) else none

/-- What the register at an address holds at reset. -/
def resetOf (a : Nat) : Word := ((regAt a).map RegRow.resetWord).getD 0

/-- The address of a field's register in block number i. -/
def Fld.addr (f : Fld) (i : Nat) : Nat := blkBase f.blk i + f.off

end Sys2Proof.Machine
end

