-- ==== Sys2Proof/Machine/Map.lean ====
section
/-! DEFINITION. Sparse maps: lists of key and value with rising keys, so that equal contents are equal data. -/

namespace Sys2Proof.Machine

/-- A sparse map from natural numbers: key and value pairs, keys strictly rising. -/
abbrev NMap (α : Type) := List (Nat × α)

/-- The value at a key, if one is listed. -/
def NMap.find {α : Type} : NMap α → Nat → Option α
  | [], _ => none
  | (k, v) :: r, n => if k = n then some v else NMap.find r n

/-- Lists a value at a key, in the place its key has. -/
def NMap.insert {α : Type} : NMap α → Nat → α → NMap α
  | [], n, x => [(n, x)]
  | (k, v) :: r, n, x =>
    if k = n then (n, x) :: r
    else if n < k then (n, x) :: (k, v) :: r
    else (k, v) :: NMap.insert r n x

/-- Removes every entry of a key. -/
def NMap.erase {α : Type} : NMap α → Nat → NMap α
  | [], _ => []
  | (k, v) :: r, n => if k = n then NMap.erase r n else (k, v) :: NMap.erase r n

/-- The canonical form: keys strictly rising. -/
def NMap.sorted {α : Type} : NMap α → Bool
  | [] => true
  | [_] => true
  | (k, _) :: (k', v') :: r => decide (k < k') && NMap.sorted ((k', v') :: r)

/-- Reads a map whose unlisted keys hold d. -/
def NMap.getD {α : Type} (m : NMap α) (n : Nat) (d : α) : α := (m.find n).getD d

/-- Writes a map whose unlisted keys hold d: a value equal to d is not listed. -/
def NMap.setD {α : Type} [DecidableEq α] (m : NMap α) (n : Nat) (d x : α) : NMap α :=
  if x = d then m.erase n else m.insert n x

end Sys2Proof.Machine
end

