-- ==== Sys2Proof/Machine/Memory.lean ====
section
/-! DEFINITION. The MRAM as byte memory (R46, R524): a list of address and byte pairs in one canonical form. Addresses
are byte offsets in the 256 KiB window. -/

namespace Sys2Proof.Machine

/-- Byte memory: rising addresses, no entry equal to what an unlisted address reads as. -/
abbrev Memory := List Host.Cell

/-- What an unlisted address reads as: the spec gives an MRAM never written no contents. DESIGN CHOICE, log entry 3. -/
def unlistedByte : Byte := 0

/-- The byte at an address. -/
def Memory.read : Memory → Nat → Byte
  | [], _ => unlistedByte
  | (k, v) :: r, a => if k = a then v else Memory.read r a

/-- Puts a byte at its place, whatever it is. -/
def Memory.place : Memory → Nat → Byte → Memory
  | [], a, b => [(a, b)]
  | (k, v) :: r, a, b =>
    if k = a then (a, b) :: r
    else if a < k then (a, b) :: (k, v) :: r
    else (k, v) :: Memory.place r a b

/-- Removes an address. -/
def Memory.drop (m : Memory) (a : Nat) : Memory := m.filter (fun c => c.1 ≠ a)

/-- Writes one byte; the byte an unlisted address reads as is not listed. -/
def Memory.write (m : Memory) (a : Nat) (b : Byte) : Memory :=
  if b = unlistedByte then m.drop a else m.place a b

/-- Every address of a list lies above a bound, rising, with no unlisted byte. -/
def Memory.above : Memory → Nat → Bool
  | [], _ => true
  | (k, v) :: r, b => decide (b < k) && decide (v ≠ unlistedByte) && Memory.above r k

/-- The canonical form. -/
def Memory.wf : Memory → Bool
  | [] => true
  | (k, v) :: r => decide (v ≠ unlistedByte) && Memory.above r k

/-- Writes bytes at successive addresses. -/
def Memory.writeBytes (m : Memory) (a : Nat) : List Byte → Memory
  | [] => m
  | b :: bs => Memory.writeBytes (m.write a b) (a + 1) bs

/-- Reads n bytes from an address. -/
def Memory.readBytes (m : Memory) (a n : Nat) : List Byte := (List.range n).map (fun i => m.read (a + i))

end Sys2Proof.Machine
end

