-- ==== Sys2Proof/Machine/State.lean ====
section
/-! DEFINITION. The state of the block as plain data. Every register of the spec lives in `regs` by its address
(an unlisted address holds its reset value); the records hold what the spec gives the device and no register holds. -/

namespace Sys2Proof.Machine

/-- Why a step could stop with a fault. -/
inductive Fault where
  /-- Raised by nothing: the spec gives the block no command on which it stops. Safe: it only exists so that the type is not empty. -/
  | stopped
  deriving DecidableEq, Repr

/-- Why a step has no meaning. -/
inductive Refusal where
  /-- Raised by a command that has no meaning yet. Safe: nothing is claimed of it. -/
  | notModelled (mnemonic : String)
  /-- Raised by a command whose operands no event of the spec carries (a burst of 0 words, a fault source code that R472
  does not list). Safe: nothing is claimed of it. -/
  | illFormed (mnemonic : String)
  deriving DecidableEq, Repr

/-- What a unit's line transmitter sends (R54, R64, R69 to R72, R194, R197). -/
inductive TxMode where
  | zero
  | training
  | announce
  | countdown
  | data
  | quietNotice
  | quiet
  | holdNotice
  | hold
  | resume
  deriving DecidableEq, Repr

/-- An entry of a reflection map (R258 to R260, R275). -/
structure MapEntry where
  src : Nat
  agg : Nat
  negative : Bool
  gamma : Nat
  delay : Nat
  level : Nat
  deriving DecidableEq, Repr

/-- A run of canceller taps as a map reads it (R259): SRC of R275, aggressor lane, delay of its first tap, tap codes. A survey
record has no taps, but its peak delay and its energy in 0.1 dB below a unit tap. -/
structure Section where
  src : Nat
  agg : Nat := 0
  start : Nat
  taps : List Int
  energy : Nat := 0
  deriving DecidableEq, Repr

/-- What a unit remembers of the far end in an attempt, beside its registers (R57, R58, R184, R185). -/
structure FarSt where
  /-- A body has been accepted in this attempt. -/
  seen : Bool := false
  /-- TSTATE of the last accepted body that carried one of R176. -/
  tstate : Nat := 0
  /-- A TSTATE of 0x3 or more has been accepted in this attempt. -/
  high : Bool := false
  /-- PORT_CHK of the last accepted body. -/
  chk : Nat := 0
  deriving DecidableEq, Repr

/-- A coefficient request (R186): TAP, ACTION, PRESET. -/
structure CoefReq where
  tap : Nat
  action : Nat
  preset : Nat
  deriving DecidableEq, Repr

/-- The requester and the responder of a unit (R186, R187, R191, R192). -/
structure CoefSt where
  /-- The outstanding request. -/
  req : Option CoefReq := none
  /-- A hold is being sent and STATUS = 0 awaited. -/
  holding : Bool := false
  /-- A REQ_PRESET_GO not yet sent (its preset). -/
  presetDue : Option Nat := none
  /-- Exchanges abandoned in a row, and whether the one in progress counts among them. -/
  abandoned : Nat := 0
  counted : Bool := false
  /-- Own frames that have carried the request, or the hold, so far (R189). -/
  frames : Nat := 0
  /-- STATUS and TAP that the responder sends. -/
  rspStatus : Nat := 0
  rspTap : Nat := 0
  /-- A far request accepted and not yet acted on. -/
  pend : Option CoefReq := none
  /-- A hold accepted: STATUS returns to 0 at the next eligible frame. -/
  holdSeen : Bool := false
  /-- REFA count of that acceptance (R187). -/
  heardAt : Nat := 0
  /-- PRECODE_REQ is sent as 1. -/
  precReq : Bool := false
  /-- Tokens sent since the far PRECODE_REQ = 1 was accepted, while precoding has not started (R192). -/
  precAge : Option Nat := none
  /-- LU_TX_FIR has taken a crosswalk value or a PRESET_GO since the last token sent (R189). -/
  firNew : Bool := false
  deriving DecidableEq, Repr

/-- What the search of R190 waits for. -/
inductive SearchPhase where
  | off
  | baseline
  | step
  | helper
  | retry
  | helperUndo
  | measure
  | undo
  | undoHelper
  | done
  deriving DecidableEq, Repr

/-- The coefficient search of R190. -/
structure SearchSt where
  phase : SearchPhase := .off
  /-- Index in the order C_P1, C_M1, C_P2, C_M2. -/
  t : Nat := 0
  /-- First directions; true is increment. -/
  first : List Bool := [false, false, false, false]
  dir : Bool := false
  n : Nat := 0
  helped : Bool := false
  idle : Nat := 0
  /-- Baseline, as the sum of its four windows. -/
  base : Nat := 0
  /-- Windows still to skip and the LQIs of those measured. -/
  skip : Nat := 0
  lqis : List Nat := []
  /-- The search's next request, sent when the exchange in progress ends. -/
  want : Option CoefReq := none
  /-- SEARCH_EN as the last entry to G3 took it (R207). -/
  enabled : Bool := false
  deriving DecidableEq, Repr

/-- A survey record (R108): position, energy in 0.1 dB below a unit tap, peak delay. -/
structure SurveyRec where
  pos : Nat
  energy : Nat
  delay : Nat
  deriving DecidableEq, Repr

/-- A unit's cancellers, beside LU_RB_STAT and LU_RB_WIN (R88 to R118). -/
structure CancSt where
  /-- Survey records of the last survey. -/
  survey : List SurveyRec := []
  /-- Records of the rescan or sweep in progress. -/
  probeRecs : List SurveyRec := []
  /-- Candidates left uncancelled (R101). -/
  denied : List SurveyRec := []
  /-- Records of windows since parked, and per window the record of the candidate that it was placed on (R259). -/
  parkedRecs : List SurveyRec := []
  winRec : NMap SurveyRec := []
  /-- Extra blocks held, in the order granted. -/
  blocks : List Nat := []
  /-- Block borrowed as a probe (R108, R114). -/
  probe : Option Nat := none
  /-- Base windows 4 to 7, which no register reports, in the format of LU_RB_WIN (R128). -/
  more : NMap Word := []
  /-- Per window: consecutive checks outside taps 8 to 39, and below the fading threshold (R111, R113). -/
  outRuns : NMap Nat := []
  lowRuns : NMap Nat := []
  /-- G1 began with no window and no free block: no survey runs (R109). -/
  noSurvey : Bool := false
  /-- The scheduled time of G2 has run (R104). -/
  g2Done : Bool := false
  /-- All NEXT cancellers of this victim are frozen until its header lock (R116). -/
  nextUntilLock : Bool := false
  /-- Transmit history, newest first, as DAC codes (R90); in SIMPLEX the decided levels, in thirds (R121). Not listed: 0. -/
  hist : List Int := []
  /-- Symbol time, 68 to a REFA cycle, one past the newest symbol of the history. -/
  histAt : Nat := 0
  /-- Gradients not yet applied (R97): tag of their token, first slot, the divisor, the sums over the token. -/
  grads : List (Nat × Nat × Int × List Int) := []
  /-- REFA count at which the present gear began; the start was made under SHED, so gears last twice as long (R103, R154). -/
  gearAt : Nat := 0
  slow : Bool := false
  /-- G3 is the short one of a wake or of the end of a self-test (R116, R118). -/
  shortG3 : Bool := false
  /-- Per window, the probe as key 12: REFA count of its placement or of its last check (R108, R111). -/
  winAt : NMap Nat := []
  /-- Sums of the signal power entering step 5 and leaving step 6 of R39 since LU_RB_DEPTH was last written (R126). -/
  powerIn : Nat := 0
  powerOut : Nat := 0
  /-- Since then, per active canceller by its first slot: the sums of slicer error times reference, one a tap, and of the squares of
  the reference; and the sum of the far signal's power (R126). -/
  resid : NMap (List Int × Nat) := []
  farPower : Nat := 0
  /-- The echo sections as they stood at the last failure, and a PAIR_SWAP by the port's rule then (R263). -/
  copy : Option (List Section) := none
  /-- Receive phase and reference phase in 1/64 symbol (R91). -/
  phase : Int := 0
  phiRef : Int := 0
  /-- Tokens that each window placed by a rescan still adapts at the G3 step (R115). -/
  fresh : NMap Nat := []
  /-- LQI windows since LU_RB_DEPTH was last written (R126). -/
  depth : Nat := 0
  deriving DecidableEq, Repr

/-- What HOST_TX carries (R225, R235, R249): the source, the squelch, and the pattern that takes its place. -/
structure MuxSt where
  src : Nat := 0
  squelch : Bool := false
  gen : Option Nat := none
  deriving DecidableEq, Repr

/-- A unit's host lanes, beside LU_HOST_STAT (R213 to R232). Bit times count 136 to a REFA cycle: bit i of the token tagged T
is at 136·T + i. -/
structure HostSt where
  /-- The deskew buffer: the last 512 bits of HOST_RX, oldest first, and the bit time past them (R222). -/
  rxBuf : List Bool := []
  rxAt : Nat := 0
  /-- REFA count of the entry to the present state of R218. -/
  hrxAt : Nat := 0
  /-- Valid markers found in AM_HUNT, by bit time (R219). -/
  firstAm : List Nat := []
  /-- The lane itself holds AM lock (R219), whatever the port's deskew. -/
  laneAm : Bool := false
  /-- Bit time of the last marker at the expected position, and consecutive invalid markers. -/
  amPos : Nat := 0
  badAm : Nat := 0
  /-- The quiet receive direction is waking: LPI fill until payload (R232). -/
  fill : Bool := false
  /-- What HOST_TX carries until its next codeword boundary (R227). -/
  mux : MuxSt := {}
  /-- Bit time of a marker of the line-bound stream after deskew (R64). -/
  txBase : Nat := 0
  /-- Control body of the marker being launched. -/
  txBody : List Bool := []
  /-- Line-side deskew buffer: the last 512 bits, oldest first (R224). -/
  outBuf : List Bool := []
  /-- Steps that the HOST_TX phase interpolator has made (R135, R157). -/
  htxPhase : Int := 0
  /-- Precoder memories of HOST_TX and HOST_RX (R213), and the last three HOST_TX levels, newest first (R221). -/
  txPrev : Nat := 0
  rxPrev : Nat := 0
  levels : List Int := []
  deriving DecidableEq, Repr

/-- Error injection (R252): parameters in use, and the bit time from which the next codeword may be hit. -/
structure InjSt where
  period : Nat
  syms : Nat
  host : Bool
  next : Nat := 0
  deriving DecidableEq, Repr

/-- What a monitor interval has counted (R242, R243). -/
structure IntSt where
  /-- Windows with an estimate: their number, sum, lowest and highest LQI. -/
  est : Nat := 0
  sum : Nat := 0
  low : Nat := 0xFFFF
  high : Nat := 0
  symErr : Nat := 0
  uncorr : Nat := 0
  hdrErr : Nat := 0
  deriving DecidableEq, Repr

/-- A unit's monitoring, beside its registers (R242 to R253). -/
structure MonSt where
  /-- The conditions of R243 that held at the last interval: LQI_LOW, SYM_HIGH, UNCORR. -/
  lqiLow : Bool := false
  symHigh : Bool := false
  uncorr : Bool := false
  /-- Interval in progress: length exponent, tags of its start and end, its counts and those of the next one (R242, R244). -/
  exp : Nat := 11
  start : Nat := 0
  stop : Nat := 2097152
  acc : IntSt := {}
  next : IntSt := {}
  inj : Option InjSt := none
  /-- Generator point and pattern asked for (R249), and the pattern in use on the line. -/
  genPt : Nat := 0
  genPat : Nat := 0
  lineGen : Option Nat := none
  /-- Pattern bits sent since the generator started, on the line and on HOST_TX. -/
  genN : Nat := 0
  htxN : Nat := 0
  /-- Codeword under injection: bit time of its start, and symbols to hit; it is one of HOST_TX (R252). -/
  hit : Option (Nat × Nat) := none
  hitHost : Bool := false
  /-- The pattern checker: its last 62 bits, newest first, correct bits in a row, and the last 128 comparisons, true an error
  (R250). -/
  chkBits : List Bool := []
  chkRun : Nat := 0
  chkWin : List Bool := []
  /-- Bits collected toward a line codeword and a HOST_RX codeword, oldest first, and the bit time of the first. -/
  lineCw : List Bool := []
  lineCwAt : Nat := 0
  hostCw : List Bool := []
  hostCwAt : Nat := 0
  /-- Re-encoded bits that wait to be sent on, in SPLIT, oldest first, and the bit time of the first (R41, R158). -/
  lineOut : List Bool := []
  lineOutAt : Nat := 0
  hostOut : List Bool := []
  hostOutAt : Nat := 0
  deriving DecidableEq, Repr

/-- The sums of a window of 1,024 tokens (R142, R146): its number, tokens, squared errors in 2^-20 of a squared level,
clipped samples, tokens of data mode; and the first window whose end is still to come. -/
structure LqiSt where
  due : Nat := 0
  win : Nat := 0
  n : Nat := 0
  mse : Nat := 0
  clips : Nat := 0
  data : Nat := 0
  deriving DecidableEq, Repr

/-- The sums of a servo window (R157, R158): its number, tokens, residences in 1/6400 token, and one outside 0.75 to 1.25. -/
structure ServoSt where
  due : Nat := 0
  win : Nat := 0
  n : Nat := 0
  sum : Nat := 0
  out : Bool := false
  deriving DecidableEq, Repr

/-- A unit's receiver, beside LU_RX_STAT and LU_LINE_FRAME (R39, R139 to R153, R180 to R183, R192, R195). -/
structure RxSt where
  /-- Tag after that of the last line token. -/
  tag : Nat := 0
  /-- The last eight sample codes, newest first (R143). -/
  past : List Int := []
  /-- FFE taps other than the main one, in 2^-13, of which the ten bits from 2^-9 up are the coefficient: eight post-cursors, the one
  of the eldest sample first, then three pre-cursors (R143). What h1 holds below 1/32, in 2^-13 (R144). Tokens still to come at
  the step 2^-9. -/
  ffe : List Int := [0, 0, 0, 0, 0, 0, 0, 0, 0, 0, 0]
  h1Low : Nat := 0
  coarse : Nat := 0
  /-- L of R144, in 2^-15 code. -/
  level : Nat := 1048576
  /-- The decided Gray indices of the last token, before precoding is undone. -/
  syms : List Nat := []
  /-- Energies of the last 1,024 tokens, newest first, as sums of squares (R152, R200); silent and energetic tokens in a row. -/
  energies : List Nat := []
  silent : Nat := 0
  energetic : Nat := 0
  /-- Phase steps announced, oldest first; the frequency integrator, and the phase not yet stepped, in millionths of a step of
  1/64 symbol (R147). -/
  steps : List Int := []
  integ : Int := 0
  accum : Int := 0
  /-- Tokens in a row with a variance below 1/256 and above 1/64 symbol², and with a step (R148, R151); tag of TR_LOCK. -/
  varLow : Nat := 0
  varHigh : Nat := 0
  stepRun : Nat := 0
  lockTag : Nat := 0
  /-- TR_LOCK has been set in this attempt (R200). -/
  trSeen : Bool := false
  /-- READY_LQI as the LQI window in progress uses it (R208). -/
  readyLqi : Nat := 0xCD
  lqi : LqiSt := {}
  servo : ServoSt := {}
  /-- Longest cycle times of the pace window in progress, receive and transmit direction; 0: none (R153). -/
  slowRx : Nat := 0
  slowTx : Nat := 0
  /-- Valid headers in a row (R180); header positions and control headers since header lock in HUNT (R183). -/
  hdrRun : Nat := 0
  ctl : Nat × Nat := (0, 0)
  /-- 64 predicted bits have matched; data blocks in a row with eight mismatches or more (R63). -/
  descrOk : Bool := false
  badBlocks : Nat := 0
  /-- The next block is the first precoded one: its first symbol follows P(n-1) = 0 (R51). -/
  fromZero : Bool := false
  /-- Tag of the last control block, and the headers of blocks 1 to 4 found valid plain and precoded (R192). -/
  frameAt : Option Nat := none
  plain4 : Nat := 0
  coded4 : Nat := 0
  /-- Control bodies read and not yet judged, oldest first, with their tags (R57). -/
  bodies : List (Nat × BitVec 134) := []
  /-- Consecutive control blocks of one type: CF_TYPE, how many, tag of the last (R69, R198). -/
  notice : Nat × Nat × Nat := (0, 0, 0)
  /-- First token of data mode (R195), and the resume body last accepted: its tag, MARKER_PHASE, MARKER_BIT (R70). -/
  dataAt : Option Nat := none
  resume : Option (Nat × Nat × Nat) := none
  /-- Bit time of the marker expected next, and the bits of one as far as they have come, oldest first (R64, R67); with none expected
  in SIMPLEX the last bits of the stream, in which the markers are looked for (R233). -/
  mark : Option Nat := none
  markBits : List Bool := []
  /-- Place of the direction's markers within their period, as the last switch, resume or measurement gave it (R224). -/
  place : Option Nat := none
  /-- Markers read whole and not yet judged: bit time and bits, oldest first. -/
  marks : List (Nat × BitVec 240) := []
  deriving DecidableEq, Repr

/-- The hidden state of a unit. -/
structure UnitSt where
  inReset : Bool := false
  masked : Bool := false
  underTest : Bool := false
  /-- The attempt began cold (R175). -/
  cold : Bool := true
  /-- The state of R176 that the attempt has reached, while STATE reads RETRAIN. -/
  reached : Nat := 0
  /-- The failure before the present backoff was LOST_FAR: the hold of R117 runs first (R202). -/
  lostHold : Bool := false
  /-- At the last failure the far PORT_CHK named another unit of the port (R261, R263). -/
  swapped : Bool := false
  /-- Training failures with the far end present since APPLY (R531). -/
  farFails : Nat := 0
  /-- REFA counts of the start of the attempt and of the entry to the present state; every limit doubles; tokens that a limit
  has run before a suspension (R176 to R178). -/
  attemptAt : Nat := 0
  stateAt : Nat := 0
  double : Bool := false
  waited : Nat := 0
  /-- The returning HUNT of R182, whose limit counts from its re-entry. -/
  rehunt : Bool := false
  /-- Time base at the end of the backoff, and at the end of the hold of R117, in hub cycles (R202). -/
  boEnd : Nat := 0
  holdEnd : Nat := 0
  /-- A unit reset has ended and no training has started since (R118). -/
  mute : Bool := false
  /-- The unit was in data mode when it entered self-test (R118, R205). -/
  testKept : Bool := false
  /-- An elastic buffer was full: the next line token, the next HOST_RX token is dropped (R38). -/
  dropRx : Bool := false
  dropHrx : Bool := false
  tx : TxMode := .zero
  /-- What the transmitter does as soon as no marker stands in its way (R69, R197), or with its next frame (R194). -/
  txWant : Option TxMode := none
  /-- REFA count at which its output became zero (R72); its QUIET direction wakes as soon as R72 allows, since it is allowed no more
  (R420); a resume sequence has been sent (R70). -/
  quietAt : Nat := 0
  rouse : Bool := false
  resumed : Bool := false
  /-- Tokens left of a notice or announcement; frames left of a countdown or resume sequence. -/
  txLeft : Nat := 0
  /-- Block of the training frame sent next, 0 to 39. -/
  txBlock : Nat := 0
  txSeq : Nat := 0
  txMark : Nat × Nat := (0, 0)
  scr : BitVec 58 := 0
  descr : BitVec 58 := 0
  txPrev : Nat := 0
  /-- Symbol offset of the far header grid, or the candidate of the hunt (R180). -/
  hdrOffset : Nat := 0
  /-- Validity of the last header positions checked, newest first, at most 64 (R181). -/
  hdrWin : List Bool := []
  /-- The pins of the pair with the unit's number: the DAC codes of the token last driven, oldest first (R160); none: zero
  differential output. -/
  lineOut : Option (List Int) := none
  /-- Last four symbols sent, as levels, newest first, for the FIR (R160). -/
  txSyms : List Int := []
  /-- Fill of the four elastic buffers in half tokens, in the order of R36. -/
  fills : Nat × Nat × Nat × Nat := (0, 2, 0, 2)
  /-- CTLE peaking in use (R138). -/
  ctle : Nat := 16
  far : FarSt := {}
  co : CoefSt := {}
  srch : SearchSt := {}
  /-- The search as it stood before the last answer to a request (R189). -/
  srchWas : SearchSt := {}
  canc : CancSt := {}
  host : HostSt := {}
  mon : MonSt := {}
  rx : RxSt := {}
  deriving DecidableEq, Repr

/-- A margin scan in progress in a cluster (R254 to R257). -/
structure ScanSt where
  slot : Nat
  lane : Nat
  /-- Lanes still to do. -/
  todo : List Nat
  mode : Nat
  dw : Nat
  target : Nat
  /-- Points measured: h + 32, v + 32 and the three counts, newest first. -/
  pts : List (Nat × Nat × Nat × Nat × Nat) := []
  deriving DecidableEq, Repr

/-- A diagnostic run in progress in a cluster (R264, R265). -/
structure DiagSt where
  slot : Nat
  mode : Nat
  lane : Nat
  todo : List Nat
  /-- Of a SWEEP: the history the probe dwells against (0 own, 1 to 7 the aggressors in ascending lane) and its position. -/
  against : Nat := 0
  pos : Nat := 0
  /-- Peaks found so far, and why the sweep of this lane ends early (R265); 0: it goes on. -/
  found : List MapEntry := []
  reason : Nat := 0
  /-- Lanes whose sections are kept for the result: those of a COLD run at the end of the survey, that of a SWEEP at the loss of
  lock (R264, R265). -/
  taken : NMap (List Section) := []
  deriving DecidableEq, Repr

/-- An input check in progress (R450): tokens taken, whether the signal has been live throughout, per level, lowest first, the
decisions and the sum of the sample magnitudes, sums of the products at lags 1 to 16, the last 16 levels, newest first. -/
structure CheckAcc where
  n : Nat := 0
  live : Bool := true
  counts : List Nat := [0, 0, 0, 0]
  mags : List Nat := [0, 0, 0, 0]
  corr : List Int := List.replicate 16 0
  last : List Int := []
  deriving DecidableEq, Repr

/-- A calibration run in progress (R451). Trims are numbered 256·channel + s for TDLY, 256·channel + 128 + s for OFS. -/
structure CalRun where
  trigger : Nat
  /-- Operation slot that started it. -/
  slot : Option Nat := none
  /-- Slots of CAL operations that wait for its reason (R459). -/
  followers : List Nat := []
  /-- Lanes whose turn is still to come; the head is in turn. -/
  todo : List Nat
  /-- A margin scan has the spare receive channel; the run waits (R256). -/
  waiting : Bool := false
  /-- 0 check, 1 self-trim, 2 match, 3 retune, 4 verify, 5 commit. -/
  stage : Nat := 0
  iter : Nat := 0
  passes : Nat := 0
  /-- REFA count at which the present measurement began, the checks that have passed over it, and the check in progress. -/
  startAt : Nat := 0
  checks : Nat := 0
  acc : CheckAcc := {}
  /-- The unit in turn was handed over. -/
  away : Bool := false
  limit : Bool := false
  noConv : Bool := false
  /-- Trims at the start of the run, and lanes that ended converged. -/
  start : NMap Int := []
  good : List Nat := []
  skewRms : Nat := 255
  ofsRms : Nat := 255
  startTemp : Int := 0
  deriving DecidableEq, Repr

/-- A sleep transaction (R412): its id and the votes in. -/
structure TxnSt where
  id : Nat
  votes : List (Member × Vote) := []
  deriving DecidableEq, Repr

/-- The hidden state of a cluster. -/
structure ClusterSt where
  inReset : Bool := false
  masked : Bool := false
  underTest : Bool := false
  /-- The tap pool (R99), unlisted slots 0. -/
  pool : NMap (BitVec 16) := []
  /-- Lanes in the hold of R117. -/
  silent : List Nat := []
  /-- BASEs of ports whose HOST_RX deskew and line-side deskew are set (R223, R224). -/
  hrxDsk : List Nat := []
  lineDsk : List Nat := []
  /-- Latest HOST_RX lane of each deskewed port, by BASE (R223). -/
  hrxLate : NMap Nat := []
  /-- Grid of each port's ordered-set generator, by BASE: the bit time of a marker; codewords start at multiples of 5,440 bits from
  it. An unlisted port has carried no payload since EN was set and runs its own grid (R226). -/
  grids : NMap Nat := []
  /-- Tokens of SIMPLEX lanes that wait for those of the same tag of the other lanes: tag and token by lane (R121). -/
  stdWait : NMap (Nat × RxToken) := []
  /-- Lanes whose last confirming marker deviated by more than 8 bits (R224). -/
  lineBad : List Nat := []
  /-- Lane whose rescan runs, lanes whose turn is still to come, and the time base in seconds from which the next one may
  start (R114). -/
  rescan : Option Nat := none
  rescanTodo : List Nat := []
  rescanDue : Nat := 0
  /-- WIN_THR as the last survey or rescan decision took it (R131). -/
  winThr : Nat := 0x1CC
  /-- Blocks returned: REFA count of the return (R102). -/
  returned : NMap Nat := []
  /-- On-die part of the loop delay in 1/8 symbol, area of the launch response, and per lane the replica gain and the four
  delay trims of the hybrid: measured and set at a cluster reset (R89, R137, R260). Unlisted lanes: zero. -/
  loopDie : Nat := 0
  launchArea : Nat := 0
  hybrid : NMap (Nat × List Nat) := []
  /-- Block requests of the last token boundary at which any was made (R100): that boundary, and lane, blocks held before
  and candidates of each request. -/
  askAt : Nat := 0
  asks : List (Nat × Nat × List SurveyRec) := []
  scan : Option ScanSt := none
  /-- Margin scans that wait for the spare receive channel, oldest first (R256, R376). -/
  scanWait : List ScanSt := []
  diag : Option DiagSt := none
  cal : Option CalRun := none
  /-- Trims in use, with the shadow of R440; AGAIN and ADLY are those of the spare receive channel. -/
  trims : NMap Int := []
  again : Int := 0
  adly : Int := 0
  /-- CTLE peaking, VGA gain and receive phase that the spare receive channel has copied from the unit it serves (R440). -/
  spCtle : Nat := 16
  spVga : Nat := 0
  spPhase : Int := 0
  /-- The cluster's temperature as the sensor last gave it, in 0.125 °C, also while the cluster is in reset; none: it has not
  (R442, R448). -/
  temp : Option Int := none
  /-- Draw of the last foreground trim: an unlisted trim holds its result (R441, log entry 4). -/
  fgDraw : Nat := 0
  /-- A run has completed since the last foreground trim; a retry is due; time base of the last run's end. -/
  ranSince : Bool := false
  retry : Bool := false
  /-- The last run was abandoned: automatic triggers wait 10 s (R448). -/
  held : Bool := false
  lastEnd : Nat := 0
  /-- Time base of the last completed run's end (R448). -/
  doneAt : Nat := 0
  txn : Option TxnSt := none
  /-- 0 awake, 1 entering DOZE, 2 in DOZE, 3 waking (R415, R417). -/
  power : Nat := 0
  /-- A wake trigger came during entry (R425). -/
  wakeDue : Bool := false
  /-- Lanes whose squelch detector has fired in DOZE or DEEP (R419). -/
  squelched : List Nat := []
  /-- TEMP_HIGH may be raised (R472). -/
  coolSince : Bool := true
  /-- Time base at the last rollback of a DOZE transaction (R414). -/
  rollAt : Option Nat := none
  mated : Bool := true
  rotated : Bool := false
  deriving DecidableEq, Repr

/-- The hidden state of a region. -/
structure RegionSt where
  inReset : Bool := false
  masked : Bool := false
  underTest : Bool := false
  /-- No start has released the region yet (R525). -/
  unreleased : Bool := true
  /-- The image step of R295 that runs: 0 none, 2 reset, 6 settling; 9: the region is FAILED and stays in reset (R299). -/
  step : Nat := 0
  /-- A class B fault has restarted the present step (R299). -/
  again : Bool := false
  /-- Class B reactions in the aligned 64 s window of this number (R479). -/
  bWindow : Nat := 0
  bCount : Nat := 0
  /-- Consecutive windows at or above threshold plus 2.0 % for WARN, SHED, CRIT (R154). -/
  warnRun : Nat := 0
  shedRun : Nat := 0
  critRun : Nat := 0
  /-- The first pace window whose end is still to come (R153), and RG_PACE_CFG as that window uses it (R172). -/
  paceDue : Nat := 0
  paceCfg : Word := 0x00503214
  /-- A gate request of the kerbs is pending (R360, R407). -/
  gating : Bool := false
  txn : Option TxnSt := none
  /-- Time base at the last rollback of a DEEP transaction (R414). -/
  rollAt : Option Nat := none
  /-- A wake trigger came during DEEP entry; clusters that wake with the region (R416). -/
  wakeDue : Bool := false
  wakes : List Nat := []
  deriving DecidableEq, Repr

/-- The hidden state of a line die. -/
structure DieSt where
  on : Bool := false
  /-- A hub link loss is recorded (R21), and the link has recovered since. -/
  lost : Bool := false
  recovered : Bool := false
  /-- Conditions of the fixed class A sources (R472, R477). -/
  supplyBad : Bool := false
  critical : Bool := false
  underTest : Bool := false
  /-- Its detectors are masked (R480). -/
  masked : Bool := false
  /-- The HOST_TX pins by local lane: the token last driven after the FIR of R221, in 1/192 of an outer level; unlisted: electrical
  idle (R39, R217). -/
  htx : NMap (List Int) := []
  deriving DecidableEq, Repr

/-- The port as slave (R314 to R324) and its queues. -/
structure PortSt where
  /-- The port answers (R526). -/
  answers : Bool := false
  perr : Bool := false
  lkv : Bool := false
  /-- What the package last drove: its first status byte with RDY = 1, then the data bytes; none: no MDS edge. -/
  resp : Option (List Byte) := none
  /-- The hub write queue: words that wait behind a closing gate (R317, R360). -/
  queue : List (Nat × Word) := []
  /-- The posted write that waits for the calibration scheduler (R353): address and word. -/
  posted : Option (Nat × Word) := none
  deriving DecidableEq, Repr

/-- The port as master (R327 to R335). -/
structure BusSt where
  /-- The flash must leave continuous-read mode before its next read (R331). -/
  exitDue : Bool := false
  /-- The access that yielded last is an image burst; it is one of the controller to select codes 1 to 7. -/
  burst : Bool := false
  ctl : Bool := false
  /-- Consecutive yields of the image burst, of the page fetch, of the controller's own access, not saturated (R310, R332). -/
  yields : Nat := 0
  pageYields : Nat := 0
  ctlYields : Nat := 0
  /-- Address and length of the last read of flash device 0 that the package made as master (R289, R330, R333, R334). -/
  readAt : Nat := 0
  readLen : Nat := 0
  /-- Prefetch slots 0 to 7 hold these pages. -/
  pages : NMap Nat := []
  /-- Slots in the order of their last use, the least recently used first (R334). -/
  lru : List Nat := []
  /-- FAULT_N is sensed low from outside (R337). -/
  faultLow : Bool := false
  /-- The controller runs: none, the monitor, or the firmware (R297, R530). -/
  monitor : Bool := false
  firmware : Bool := false
  /-- Poisoned words of the controller's and prefetch array, 4,096 to a macro (R489). -/
  bad : List Nat := []
  deriving DecidableEq, Repr

/-- States of an entry of the operation table (R375); FREE entries are not listed. -/
inductive OpState where
  | queued
  | held
  | running
  | done
  deriving DecidableEq, Repr

/-- An entry of the operation table (R383). -/
structure OpEntry where
  handle : Nat
  state : OpState := .queued
  opcode : Nat
  posted : Word
  args : List Word
  target : Target
  /-- Order of posting. -/
  order : Nat
  result : Nat := 0
  progress : Nat := 0
  stepNo : Nat := 0
  /-- Time base at its start; ELAPSED at its end. -/
  startedAt : Option Nat := none
  elapsed : Nat := 0
  detail : Word := 0
  /-- Lanes that gave no result, and lanes with CLASS ≠ OK or results written (R377). -/
  failed : List Nat := []
  noted : List Nat := []
  /-- Lanes with a result and a reason other than 0 (R265). -/
  odd : List Nat := []
  /-- A self-test whose target sleeps: it begins once the target is awake (R416). -/
  asleep : Bool := false
  /-- A cancel waits for the unit in progress (R381). -/
  cancel : Bool := false
  /-- It waits because the entry has run past its limit (R378). -/
  late : Bool := false
  deriving DecidableEq, Repr

/-- The operation table (R370 to R386). -/
structure OptSt where
  entries : NMap OpEntry := []
  /-- GEN of each slot; unlisted 0. -/
  gens : NMap Nat := []
  /-- Slots from this number on were never allocated; they are queued in front of the freed ones. -/
  fresh : Nat := 0
  freed : List Nat := []
  /-- Completed slots, oldest first. -/
  cpl : List Nat := []
  nextOrder : Nat := 0
  /-- Poisoned words of the table's array, 2,048 to a macro (R489). -/
  bad : List Nat := []
  deriving DecidableEq, Repr

/-- A bank of the retained store: a verified image's sections, and of each region the section in force (R291). -/
structure StoreBank where
  /-- The image's header of 256 bytes and its directory (R279, R280). -/
  header : List Byte := []
  dir : List Byte := []
  hash : List Byte := []
  imgVer : Nat := 0
  secVer : Nat := 0
  ownerSigned : Bool := false
  source : Nat := 0
  fwHash : List Byte := []
  pkg : Word := 0
  frm : List Word := []
  pwr : List Word := []
  /-- Section in force of each region: SEC_HASH and bytes. -/
  regions : NMap (List Byte × List Byte) := []
  deriving DecidableEq, Repr

/-- An image load in progress (R289 to R299). -/
structure LoadSt where
  /-- Operation slot; none: the start's FETCH, or a verified image that awaits APPLY. -/
  slot : Option Nat
  /-- 1 flash slot 0, 2 flash slot 1, 3 host. -/
  source : Nat
  force : Bool := false
  bytes : List Byte := []
  /-- The image has passed R292 and awaits the start's APPLY. -/
  verified : Bool := false
  /-- The store was committed; regions whose turn is still to come, the head in turn. -/
  committed : Bool := false
  todo : List Nat := []
  /-- Regions whose section was refused. -/
  refused : List Nat := []
  /-- Regions that have FAILED in this load (R299). -/
  failed : List Nat := []
  drops : Nat := 0
  /-- A firmware switch is still to come, or under way. -/
  fwChanged : Bool := false
  switching : Bool := false
  /-- A region was refused or FAILED. -/
  bad : Bool := false
  deriving DecidableEq, Repr

/-- The image in force beside its registers. -/
structure ImgSt where
  load : Option LoadSt := none
  fwHash : List Byte := []
  pageTable : List Byte := []
  /-- Source of the firmware in force: 0 and 1 a flash slot, 2 the host; OFFSET of its FW section (R282, R334). -/
  fwSlot : Nat := 0
  fwOff : Nat := 0
  consent : List Byte := []
  pkgWord : Word := 0
  pwrWords : List Word := []
  /-- SEC_HASH of the section applied to each region (R294). -/
  applied : NMap (List Byte) := []
  deriving DecidableEq, Repr

/-- A class C or D event in its hold (R481): the time base at its detection, its location code, the event. -/
structure HeldEvent where
  time : Nat
  code : Word
  ev : FltEvent
  deriving DecidableEq, Repr

/-- The fault collector beside its registers (R470 to R492). -/
structure FltSt where
  /-- Class C and D events in their hold (R481), oldest first. -/
  held : List HeldEvent := []
  /-- History slots (R505): eight words, or poisoned. -/
  hist : NMap (List Word) := []
  histBad : List Nat := []
  /-- FRM entries of the image in force, by source. -/
  matrix : NMap Word := []
  /-- Escalation counters by 16·SRC + region, 8 for die or hub, and the window each counts in (R473). -/
  esc : NMap Nat := []
  escWin : NMap Nat := []
  /-- A class A reaction is open; regions whose masking still has to end before it closes (R481). -/
  aOpen : Bool := false
  /-- Time base of the last class A decision, and whether its source is fixed (R486); time base of the last freeze. -/
  aAt : Option (Nat × Bool) := none
  frozeAt : Option Nat := none
  exitMasks : List Nat := []
  /-- A hub link was lost during or before the safe state (R477). -/
  linkLost : Bool := false
  /-- BKT_THR as the bucket window in progress uses it (R506). -/
  bktThr : Nat := 16
  /-- Leaky buckets and macros that raised CE_RATE, by macro code (R492). -/
  buckets : NMap Nat := []
  rated : List Nat := []
  /-- Second of the time base at which the next bucket window begins (R492). -/
  leakDue : Nat := 64
  /-- Next word of the scrub, by macro code; unlisted 0 (R491). -/
  scrubNext : NMap Nat := []
  /-- Poisoned words of the line dies and of the history queue, by word code (R489). -/
  poison : List Nat := []
  /-- The snapshot may be replaced (R485); kept through every reset, as the snapshot is. -/
  snapFree : Bool := true
  /-- A freeze awaits its snapshot. -/
  snapDue : Bool := false
  deriving DecidableEq, Repr

/-- Clock, power, security and start-up state beside the registers. -/
structure HubSt where
  /-- The hub has moved to a reference since the start (R403). -/
  moved : Bool := false
  /-- Requested reference of the switch in progress (R405). -/
  swTarget : Option Ref := none
  /-- The switch boundary has passed. -/
  swPassed : Bool := false
  /-- References that were ABSENT in the counter window in progress (R398), and CLK_CFG as that window uses it (R426). -/
  absent : List Nat := []
  clkCfg : Word := 0x00540104
  /-- Gated hub blocks (R406). -/
  gates : List Nat := []
  txnId : Nat := 0
  /-- Clusters that have asked for a commit, oldest first (R446). -/
  commits : List Nat := []
  /-- Step number of a STANDBY entry or exit, and its slot (R424). -/
  sbStep : Nat := 0
  sbSlot : Nat := 0
  /-- Regions whose step of the STANDBY exit a class B fault has ended (R423); regions that have taken their step (R424). -/
  sbFailed : List Nat := []
  sbDone : List Nat := []
  /-- Repairs that the full repair table does not hold, as physical codes: in effect until the next package reset (R496). -/
  repairs : List Nat := []
  /-- Time base at which the bucket of signatures gains its next token (R521). -/
  sigDue : Nat := 3125000000
  /-- Crosswalks decoded whose boundary is still to come, oldest first: the values each has taken (R44, R354): address,
  mask, value. -/
  xw : List (List (Nat × Word × Word)) := []
  /-- Attestation report in the window (R523). -/
  report : List Byte := []
  /-- A key cache rebuild is deferred to the next ATTEST (R529). -/
  rebuildDue : Bool := false
  /-- Power-on reset holds: no START has come since (R397, R554). -/
  porHold : Bool := false
  /-- RESET_N is held low; the TAP's instruction register; the boundary register has the pins (R562, R564). -/
  resetLow : Bool := false
  tapIr : Nat := 2
  pinsTaken : Bool := false
  /-- The boundary register's capture cells and its update latches (R563). -/
  bsCap : Boundary := {}
  bsUpd : Boundary := {}
  deriving DecidableEq, Repr

/-- A start in progress (R525 to R531). -/
structure StartSt where
  /-- The start has begun: the package is out of reset. -/
  begun : Bool := false
  /-- Words of the previous record, as consulted (R529). -/
  prev : List Nat := []
  /-- Milliseconds from the release to the start of the step in progress. -/
  ms : Nat := 0
  way : Nat := 0
  failSlots : List Nat := []
  reasons : Nat × Nat := (0, 0)
  /-- Flash attempts made in FETCH, the order of slots, and whether the fetch succeeded. -/
  tries : Nat := 0
  order : List Nat := []
  fetched : Bool := false
  /-- Steps 0x01 and 0x02 as entries, until step MRAM writes them. -/
  early : List (Nat × Nat) := []
  /-- The start waits for a STABLE reference before LINE_ON (R525). -/
  holdRef : Bool := false
  /-- FUSE failed three times: the start halts (R525). -/
  halted : Bool := false
  /-- Units held by TF_POLICY = 1 (R531). -/
  heldUnits : List Nat := []
  deriving DecidableEq, Repr

/-- Everything that a package reset puts back (R23), beside the queue of commands. -/
structure Dev where
  /-- The hub's time base in hub cycles (R577), and the REFA count (R37). -/
  time : Nat := 0
  refa : Nat := 0
  /-- Draws of free values so far: the model's own counter (log entry 4). -/
  draws : Nat := 0
  /-- Registers by address; an unlisted address holds its reset value. -/
  regs : NMap Word := []
  /-- Second and third copies of RWT registers; an unlisted address holds what the first copy holds (R355). -/
  rwtB : NMap Word := []
  rwtC : NMap Word := []
  /-- Buffered RWB values: mask of the fields written, and values (R45). -/
  buffered : NMap (Word × Word) := []
  /-- Shadows by the address of the latching word (R15, R321, R352). -/
  shadows : NMap (List Word) := []
  port : PortSt := {}
  bus : BusSt := {}
  opt : OptSt := {}
  img : ImgSt := {}
  flt : FltSt := {}
  hub : HubSt := {}
  start : StartSt := {}
  units : NMap UnitSt := []
  clusters : NMap ClusterSt := []
  regions : NMap RegionSt := []
  dies : NMap DieSt := []
  deriving DecidableEq, Repr

/-- The fuses (R5, R7, R510, R514, R518): programmed once, never unprogrammed. -/
structure Fuses where
  /-- LC[2:0] of R510. -/
  lc : BitVec 3 := 0
  tgrade : BitVec 2 := 0
  screen : BitVec 2 := 0
  stepping : BitVec 8 := 0
  keyFused : Bool := false
  seed : List Byte := []
  ident : List Byte := []
  root : List Byte := []
  /-- Package part of each pair's loop delay, in 1/8 symbol (R89); unlisted 0. -/
  routes : NMap Nat := []
  /-- OWNER_HASH; none: not programmed. -/
  ownerHash : Option (List Byte) := none
  deriving DecidableEq, Repr

/-- One copy of the calibration commit record (R446): SEQ, slot of each cluster (unlisted 63), free slot. -/
structure CalRec where
  seq : Nat
  slots : NMap Nat
  free : Nat
  deriving DecidableEq, Repr

/-- What the MRAM holds (R524). The ledger's records and the calibration slots are bytes; the other structures, whose
layout the spec does not give, are records. -/
structure Nv where
  mram : Memory := []
  /-- Poisoned words of the MRAM, by address divided by 8 (R489). -/
  bad : List Nat := []
  /-- Counts the changes of the structures kept as records, for the free words of log entry 3. -/
  epoch : Nat := 0
  /-- The two banks and the one that the commit record names (R291). -/
  bank0 : StoreBank := {}
  bank1 : StoreBank := {}
  cur : Option Bool := none
  /-- Regions that have ever had a section in a committed image (R302). -/
  secEver : List Nat := []
  bootCount : Nat := 0
  hostStarts : Nat := 0
  arbMin : Nat := 0
  /-- Signing state (R520): NEXT, and whether a copy checks. -/
  sigNext : Nat := 0
  sigOk : Bool := true
  /-- The key cache matches ROOT (R519). -/
  cacheOk : Bool := true
  /-- The two owner key copies (R517). -/
  owner0 : List Byte := []
  owner1 : List Byte := []
  /-- Commit record of calibration (R446): SEQ, copy in force, slot of each cluster (unlisted 63), free slot, whether it checks. -/
  calSeq : Nat := 0
  calCopy : Nat := 0
  calSlots : NMap Nat := []
  calFree : Nat := 32
  calOk : Bool := true
  /-- The copy not in force; none: it does not check (R446). -/
  calOther : Option CalRec := none
  /-- Repair table: entries used, and the copy in force (R496). -/
  rpr : List Nat := []
  rprCopy : Nat := 0
  /-- Fault snapshot words; empty: none (R485). -/
  snap : List Word := []
  deriving DecidableEq, Repr

/-- What survives a package reset: the fuses and the MRAM (R23). -/
structure Keep where
  fuses : Fuses := {}
  nv : Nv := {}
  deriving DecidableEq, Repr

/-- The machine: the waiting commands, first in first out; what survives a package reset; the rest. -/
structure State where
  pending : List Instr := []
  keep : Keep := {}
  dev : Dev := {}
  deriving DecidableEq, Repr

/-- The machine at the release of reset, before the start-up steps: every register at its reset value, no command waiting. -/
def State.reset : State := {}

end Sys2Proof.Machine
end

