-- ==== Sys2Proof/Machine/Flags.lean ====
section
/-! DEFINITION. Bit fields of words, saturating counts, signed codes and the byte orders of the spec. -/

namespace Sys2Proof.Machine

/-- Bits [hi:lo] of a word, as a number. -/
def bitsOf (w : Word) (hi lo : Nat) : Nat := w.toNat / 2 ^ lo % 2 ^ (hi + 1 - lo)

/-- A word with bits [hi:lo] replaced by the low bits of a number. -/
def putBits (w : Word) (hi lo v : Nat) : Word :=
  (w &&& ~~~ fieldMask hi lo) ||| (BitVec.ofNat 32 (v * 2 ^ lo) &&& fieldMask hi lo)

/-- Bit i of a number. -/
def bitOf (n i : Nat) : Bool := n / 2 ^ i % 2 = 1

/-- A number with bit i set or cleared. -/
def setBit (n i : Nat) (b : Bool) : Nat :=
  if bitOf n i = b then n else if b then n + 2 ^ i else n - 2 ^ i

/-- 1 for true. -/
def b2n (b : Bool) : Nat := if b then 1 else 0

/-- A sum that stops at a largest value. -/
def satAdd (n k top : Nat) : Nat := min (n + k) top

/-- An n-bit two's complement field as an integer. -/
def signed (v n : Nat) : Int := if v < 2 ^ (n - 1) then (v : Int) else (v : Int) - (2 ^ n : Nat)

/-- The n-bit two's complement code of an integer, wrapping. -/
def code (x : Int) (n : Nat) : Nat := (x % (2 ^ n : Nat)).toNat

/-- An integer held between two bounds. -/
def clampInt (lo hi x : Int) : Int := max lo (min hi x)

/-- The bytes of a number, lowest first. -/
def leBytes (n : Nat) : Nat → List Byte
  | 0 => []
  | k + 1 => BitVec.ofNat 8 n :: leBytes (n / 256) k

/-- The number whose bytes, lowest first, are given. -/
def ofLe : List Byte → Nat
  | [] => 0
  | b :: bs => b.toNat + 256 * ofLe bs

/-- The word whose four bytes, lowest first, start a list. -/
def wordLe (bs : List Byte) : Word := BitVec.ofNat 32 (ofLe (bs.take 4))

/-- Word i of a byte string (R301, R537). -/
def wordAt (bs : List Byte) (i : Nat) : Word := wordLe (bs.drop (4 * i))

/-- Quotient rounded to the nearest, halves away from zero, as R445 states for the trim interpolation; elsewhere, as in R160, the
direction at a half is DESIGN CHOICE, log entry 48. -/
def roundDiv (a b : Int) : Int :=
  if 0 ≤ a then (2 * a + b) / (2 * b) else - ((2 * (- a) + b) / (2 * b))

/-- One step of the CRC-32 of IEEE 802.3 over one bit (reflected). -/
def crc32Bit (c : BitVec 32) : BitVec 32 := if c.getLsbD 0 then (c >>> 1) ^^^ 0xEDB88320 else c >>> 1

/-- CRC-32 over one byte. -/
def crc32Byte (c : BitVec 32) (b : Byte) : BitVec 32 :=
  (List.range 8).foldl (fun x _ => crc32Bit x) (c ^^^ b.setWidth 32)

/-- CRC-32 of the IEEE 802.3 polynomial over a byte string (R444). -/
def crc32 (bs : List Byte) : BitVec 32 := ~~~ (bs.foldl crc32Byte 0xFFFFFFFF)

/-- One bit of the CRC-16 of R55: x^16 + x^12 + x^5 + 1. -/
def crc16Bit (c : BitVec 16) (b : Bool) : BitVec 16 :=
  let x := c.getMsbD 0 ^^ b
  if x then (c <<< 1) ^^^ 0x1021 else c <<< 1

/-- The CRC-16 of R55 over bits, first bit first, from 0xFFFF. -/
def crc16 (bs : List Bool) : BitVec 16 := bs.foldl crc16Bit 0xFFFF

end Sys2Proof.Machine
end

