-- ==== Sys2Proof/Machine/Ops.lean ====
section
/-! DEFINITION. The named operations over the device: registers and their fields, sticky bits, the records of units,
clusters, regions and dies, 64-bit counters, free draws. -/

namespace Sys2Proof.Machine

/-- What the first copy of the register at an address holds. -/
def Dev.word (d : Dev) (a : Nat) : Word := (d.regs.find a).getD (resetOf a)

/-- Writes the register at an address. -/
def Dev.setWord (d : Dev) (a : Nat) (w : Word) : Dev := { d with regs := d.regs.insert a w }

/-- Whether the register at an address has fields stored in triplicate. -/
def isRwt (a : Nat) : Bool := ((regAt a).map (fun r => decide (r.mask .rwt ≠ 0))).getD false

/-- Each bit takes the value that at least two of three copies hold (R349). -/
def vote (x y z : Word) : Word := (x &&& y) ||| (x &&& z) ||| (y &&& z)

/-- The second copy of the register at an address. -/
def Dev.copyB (d : Dev) (a : Nat) : Word := (d.rwtB.find a).getD (d.word a)

/-- The third copy of the register at an address. -/
def Dev.copyC (d : Dev) (a : Nat) : Word := (d.rwtC.find a).getD (d.word a)

/-- The register at an address as hardware and reads use it: the vote of the copies (R349, R355). -/
def Dev.voted (d : Dev) (a : Nat) : Word := vote (d.word a) (d.copyB a) (d.copyC a)

/-- Writes all copies of the register at an address. -/
def Dev.setAll (d : Dev) (a : Nat) (w : Word) : Dev :=
  { d with regs := d.regs.insert a w, rwtB := d.rwtB.erase a, rwtC := d.rwtC.erase a }

/-- Windows and registers whose reserved bits read 0 whatever was written there (R390, R505, R509). -/
def rsvReadsZero (a : Nat) : Bool :=
  decide (a = 0x40018 ∨ (0x31000 ≤ a ∧ a < 0x31800) ∨ (0x4000 ≤ a ∧ a < 0x4200))

/-- The reserved bits of the register at an address. -/
def rsvMask (a : Nat) : Word := if rsvReadsZero a then 0 else ((regAt a).map (fun r => r.mask .rsv)).getD 0

/-- Hardware updates a register as one word: its reserved bits keep what was written in MANUFACTURE or RETURN (R16, R349, R356). -/
def Dev.report (d : Dev) (a : Nat) (w : Word) : Dev := d.setWord a ((d.word a &&& rsvMask a) ||| (w &&& ~~~ rsvMask a))

/-- A field of block number i. -/
def Dev.get (d : Dev) (f : Fld) (i : Nat) : Nat := bitsOf (d.word (f.addr i)) f.hi f.lo

/-- A field stored in triplicate, voted. -/
def Dev.getV (d : Dev) (f : Fld) (i : Nat) : Nat := bitsOf (d.voted (f.addr i)) f.hi f.lo

/-- Writes a field of block number i. -/
def Dev.put (d : Dev) (f : Fld) (i v : Nat) : Dev :=
  d.setWord (f.addr i) (putBits (d.word (f.addr i)) f.hi f.lo v)

/-- A one-bit field as a truth value. -/
def Dev.is (d : Dev) (f : Fld) (i : Nat) : Bool := decide (d.get f i = 1)

/-- Bit b of a field. -/
def Dev.bit (d : Dev) (f : Fld) (i b : Nat) : Bool := bitOf (d.get f i) b

/-- Writes bit b of a field. -/
def Dev.putBit (d : Dev) (f : Fld) (i b : Nat) (v : Bool) : Dev := d.put f i (setBit (d.get f i) b v)

/-- Adds to a field, stopping at its largest value. -/
def Dev.bump (d : Dev) (f : Fld) (i k : Nat) : Dev := d.put f i (satAdd (d.get f i) k (2 ^ (f.hi + 1 - f.lo) - 1))

/-- Adds to a field modulo its range. -/
def Dev.wrap (d : Dev) (f : Fld) (i k : Nat) : Dev := d.put f i ((d.get f i + k) % 2 ^ (f.hi + 1 - f.lo))

/-- A unit's record. -/
def Dev.unit (d : Dev) (u : Nat) : UnitSt := (d.units.find u).getD {}
/-- Changes a unit's record. -/
def Dev.onUnit (d : Dev) (u : Nat) (f : UnitSt → UnitSt) : Dev := { d with units := d.units.insert u (f (d.unit u)) }
/-- Changes the receiver's, the host lanes', the monitor's, the cancellers' part of a unit's record. -/
def Dev.onRx (d : Dev) (u : Nat) (f : RxSt → RxSt) : Dev := d.onUnit u (fun x => { x with rx := f x.rx })
def Dev.onHost (d : Dev) (u : Nat) (f : HostSt → HostSt) : Dev := d.onUnit u (fun x => { x with host := f x.host })
def Dev.onMon (d : Dev) (u : Nat) (f : MonSt → MonSt) : Dev := d.onUnit u (fun x => { x with mon := f x.mon })
def Dev.onCanc (d : Dev) (u : Nat) (f : CancSt → CancSt) : Dev := d.onUnit u (fun x => { x with canc := f x.canc })
/-- A cluster's record. -/
def Dev.cluster (d : Dev) (c : Nat) : ClusterSt := (d.clusters.find c).getD {}
/-- Changes a cluster's record. -/
def Dev.onCluster (d : Dev) (c : Nat) (f : ClusterSt → ClusterSt) : Dev :=
  { d with clusters := d.clusters.insert c (f (d.cluster c)) }
/-- A region's record. -/
def Dev.region (d : Dev) (q : Nat) : RegionSt := (d.regions.find q).getD {}
/-- Changes a region's record. -/
def Dev.onRegion (d : Dev) (q : Nat) (f : RegionSt → RegionSt) : Dev :=
  { d with regions := d.regions.insert q (f (d.region q)) }
/-- A line die's record. -/
def Dev.die (d : Dev) (n : Nat) : DieSt := (d.dies.find n).getD {}
/-- Changes a die's record. -/
def Dev.onDie (d : Dev) (n : Nat) (f : DieSt → DieSt) : Dev := { d with dies := d.dies.insert n (f (d.die n)) }

/-- Runs an operation for each number of a list. -/
def Dev.each (d : Dev) (ns : List Nat) (f : Dev → Nat → Dev) : Dev := ns.foldl f d

/-- The units of a cluster, the clusters of a region, the units of a region (R11). -/
def unitsOf (c : Nat) : List Nat := (List.range 8).map (fun l => 8 * c + l)
def clustersOf (q : Nat) : List Nat := (List.range 4).map (fun k => 4 * q + k)
def unitsOfRegion (q : Nat) : List Nat := (List.range 32).map (fun j => 32 * q + j)

/-- Whether a cluster is DUPLEX (R33). -/
def Dev.duplex (d : Dev) (c : Nat) : Bool := d.bit F.HUB_CLUSTER_MODE_DUPLEX 0 c

/-- A free value that no rule gives, and the draw advanced (log entry 4). -/
def Dev.draw (d : Dev) : Nat × Dev := (d.draws, { d with draws := d.draws + 1 })

/-- The next free number below a bound (log entry 4). -/
def Dev.freeBelow (d : Dev) (n : Nat) : Nat × Dev := (Config.freeNat d.draws % max n 1, { d with draws := d.draws + 1 })

/-- A 64-bit counter whose low word is at an address (R15). -/
def Dev.count (d : Dev) (a : Nat) : Nat := (d.word a).toNat + 2 ^ 32 * (d.word (a + 4)).toNat

/-- Stores a 64-bit counter. -/
def Dev.setCount (d : Dev) (a n : Nat) : Dev :=
  (d.setWord a (BitVec.ofNat 32 n)).setWord (a + 4) (BitVec.ofNat 32 (n / 2 ^ 32))

/-- Adds to a 64-bit counter, saturating at all ones (R246, R507). -/
def Dev.addCount (d : Dev) (a k : Nat) : Dev := d.setCount a (satAdd (d.count a) k (2 ^ 64 - 1))

/-- The counter at an offset of a unit's counters (R247). -/
def Dev.addUnitCount (d : Dev) (u off k : Nat) : Dev := d.addCount (blkBase .lu u + off) k

/-- The reference in use stops the hub's gates: the fallback oscillator clocks the hub (R22). -/
def Dev.fallback (d : Dev) : Bool := d.is F.CLK_STAT_FALLBACK 0

/-- An access or an action opens the gate of a gated hub block: 0 security engine, 1 self-test, 2 calibration, 3 prefetch (R406). -/
def Dev.ungate (d : Dev) (g : Nat) : Dev := { d with hub := { d.hub with gates := d.hub.gates.filter (· ≠ g) } }

/-- The hub's time base in whole seconds (R363, R577). -/
def Dev.seconds (d : Dev) : Nat := d.time / 390625000

/-- The package is in safe state (R476). -/
def Dev.safe (d : Dev) : Bool := d.is F.FLT_STAT_SAFE 0

/-- The life-cycle state coded as SEC_LC.LC (R510). -/
def Fuses.state (f : Fuses) : Nat :=
  if f.lc = 0 then 0 else if f.lc = 1 then 1 else if f.lc = 3 then 2 else 3

/-- A REFA count lies within the present hub cycle, or before it: an event that it times may occur (R22, R37). -/
def Dev.due (d : Dev) (t : Nat) : Bool := decide (t ≤ d.refa + 3)

/-- Whether a die's control logic has its supplies and a reference (R407). -/
def Dev.dieRuns (d : Dev) (n : Nat) : Bool := (d.die n).on && !d.fallback

/-- Whether a die runs and its hub link serves the hub (R21, R407). -/
def Dev.dieServes (d : Dev) (n : Nat) : Bool := d.dieRuns n && !(d.die n).lost

/-- The registers of a region that answer throughout DEEP: power state, wake request, RG_PACE_STAT (R26, R170). -/
def deepAnswers (off : Nat) : Bool := decide (off = 0x10 ∨ off = 0x14 ∨ off = 0x100)

/-- A region between the commit of its DEEP transaction and the end of its retention restore (R26). -/
def Dev.deep (d : Dev) (q : Nat) : Bool := decide (d.get F.RG_PWR_STAT_STATE q ≠ 0)

/-- A unit or cluster of a region in reset or not yet released, or the region itself (R25, R525, R576). -/
def Dev.regionHeld (d : Dev) (q : Nat) : Bool := (d.region q).inReset || (d.region q).unreleased

/-- Whether a block cannot act or answer by itself: no power or reference, in reset, not yet released, in DEEP, or a unit
that its SIMPLEX cluster does not have (R3, R25, R26, R407). -/
def Dev.dark (d : Dev) (b : Blk) (i off : Nat) : Bool :=
  match b with
  | .hub => false
  | .lu => !(d.dieRuns (i / 64)) || d.regionHeld (i / 32) || d.deep (i / 32) || (d.cluster (i / 8)).inReset ||
      (d.unit i).inReset || (!(d.duplex (i / 8)) && decide (4 ≤ i % 8) && d.bit F.HUB_TOPO_REGION_LIVE 0 (i / 32))
  | .cl => !(d.dieRuns (i / 8)) || d.regionHeld (i / 4) || d.deep (i / 4) || (d.cluster i).inReset
  | .rg => !(d.dieRuns (i / 2)) || d.regionHeld i || (d.deep i && !(deepAnswers off))
  | .die => !(d.dieRuns i)

/-- The die that holds a block (R11). -/
def dieOf (b : Blk) (i : Nat) : Nat :=
  match b with
  | .hub => 4
  | .lu => i / 64
  | .cl => i / 8
  | .rg => i / 2
  | .die => i

/-- Whether an access to a register of a block is answered with OFF: the block is dark, or its die's hub link is lost
(R18, R21, R25, R26, R407). -/
def Dev.off (d : Dev) (b : Blk) (i off : Nat) : Bool := d.dark b i off || (d.die (dieOf b i)).lost

/-- Whether an access to a block is answered with TST (R18, R494). -/
def Dev.tst (d : Dev) (b : Blk) (i : Nat) : Bool :=
  match b with
  | .hub => false
  | .lu => (d.unit i).underTest || (d.cluster (i / 8)).underTest || (d.region (i / 32)).underTest
  | .cl => (d.cluster i).underTest || (d.region (i / 4)).underTest
  | .rg => (d.region i).underTest
  | .die => (d.die i).underTest

/-- A unit that can act: it is not off, in reset or under test. -/
def Dev.live (d : Dev) (u : Nat) : Bool := !(d.dark .lu u 0) && !(d.tst .lu u)

/-- A cluster that can act. -/
def Dev.clusterLive (d : Dev) (c : Nat) : Bool := !(d.dark .cl c 0) && !(d.tst .cl c)

/-- A region that can act. -/
def Dev.regionLive (d : Dev) (q : Nat) : Bool := !(d.dark .rg q 0) && !(d.tst .rg q)

/-- CL_PORT_MAP nibble of a unit (R239). -/
def Dev.portNibble (d : Dev) (u : Nat) : Nat :=
  bitsOf (d.word (F.CL_PORT_MAP_PORTS.addr (u / 8))) (4 * (u % 8) + 3) (4 * (u % 8))

/-- A unit belongs to a port, the port's width and BASE (R215, R239). -/
def Dev.inPort (d : Dev) (u : Nat) : Bool := decide (8 ≤ d.portNibble u)
def Dev.width (d : Dev) (u : Nat) : Nat := 2 ^ (d.portNibble u % 4)
def Dev.splitMode (d : Dev) (u : Nat) : Bool := bitOf (d.portNibble u) 2
def Dev.base (d : Dev) (u : Nat) : Nat := u % 8 - u % 8 % d.width u
/-- The port number p = 8c + BASE of a unit (R374). -/
def Dev.portOf (d : Dev) (u : Nat) : Nat := 8 * (u / 8) + d.base u
/-- The units of port p. -/
def Dev.portUnits (d : Dev) (p : Nat) : List Nat := (List.range (d.width p)).map (fun i => p + i)
/-- Whether p is the number of a port (R373). -/
def Dev.isPort (d : Dev) (p : Nat) : Bool := d.inPort p && decide (d.base p = p % 8)

/-- A unit's crossbar entry is valid (R216, R241). -/
def Dev.mapped (d : Dev) (u : Nat) : Bool := d.is (F.DIE_XBAR_U_VALID (u % 64)) (u / 64)

/-- The HOST_TX lane of a mapped unit among the lanes of its die (R216, R241). -/
def Dev.htxLane (d : Dev) (u : Nat) : Nat := d.get (F.DIE_XBAR_U_HTX_LANE (u % 64)) (u / 64)

/-- Drives the HOST_TX lane of a unit through the crossbar, or leaves it idle (step 11 of R39, R217). -/
def Dev.driveHtx (d : Dev) (u : Nat) (o : Option (List Int)) : Dev :=
  match o with
  | some v => if d.mapped u then d.onDie (u / 64) (fun x => { x with htx := x.htx.insert (d.htxLane u) v }) else d
  | none =>
    if (d.die (u / 64)).htx.isEmpty || !(d.mapped u) then d
    else d.onDie (u / 64) (fun x => { x with htx := x.htx.erase (d.htxLane u) })

/-- The unit that the crossbar gives HOST_RX lane n (step 4 of R40, R216). A lane that serves no unit clocks one of the die's units
without a lane, in the order of both. DESIGN CHOICE, log entry 75. -/
def Dev.laneUnit (d : Dev) (n : Nat) : Nat :=
  let k := n / 64
  let map := ((List.range 64).filter (fun j => d.mapped (64 * k + j))).map
    (fun j => (j, d.get (F.DIE_XBAR_U_HRX_LANE j) k))
  match map.find? (fun e => decide (e.2 = n % 64)) with
  | some e => 64 * k + e.1
  | none =>
    let units := (List.range 64).filter (fun j => map.all (fun e => decide (e.1 ≠ j)))
    let lanes := (List.range 64).filter (fun l => map.all (fun e => decide (e.2 ≠ l)))
    64 * k + (units[lanes.findIdx (fun l => decide (l = n % 64))]?).getD (n % 64)

/-- The hub serves the operation table: a start has passed HUB_MBIST (R526). -/
def Dev.servesTable (d : Dev) : Bool := decide (d.get F.SEC_BL_STAT_STEP 0 = 0 ∨ 5 ≤ d.get F.SEC_BL_STAT_STEP 0)

/-! Whole words of the hub's arrays -/

/-- Bytes are stored in the MRAM; a word stored whole is poisoned no more (R489). -/
def Nv.store (v : Nv) (a : Nat) (bs : List Byte) : Nv :=
  { v with
    mram := v.mram.writeBytes a bs
    bad := v.bad.filter (fun w => !(decide (a ≤ 8 * w ∧ 8 * w + 8 ≤ a + bs.length))) }

/-- The firmware runs, on data words written anew (R297, R490, log entry 29). -/
def Dev.firmwareUp (d : Dev) : Dev :=
  { d with bus := { d.bus with firmware := true, bad := d.bus.bad.filter (fun w => decide (Config.controllerWord w % 9 ≠ 0)) } }

/-! Outcomes of a command -/

/-- A command that changes only the device. -/
def State.act (s : State) (f : Dev → Dev) : Host.Outcome State Fault Refusal := .next { s with dev := f s.dev }

/-- A command that reads what survives a reset and changes only the device. -/
def State.actK (s : State) (f : Keep → Dev → Dev) : Host.Outcome State Fault Refusal :=
  .next { s with dev := f s.keep s.dev }

/-- A command that changes the MRAM and the device, never a fuse. -/
def State.actNv (s : State) (f : Fuses → Nv → Dev → Nv × Dev) : Host.Outcome State Fault Refusal :=
  let r := f s.keep.fuses s.keep.nv s.dev
  .next { s with keep := { s.keep with nv := r.1 }, dev := r.2 }

end Sys2Proof.Machine
end

