-- ==== Sys2Proof/Machine/Table.lean ====
section
/-! DEFINITION. The operation table as storage: entries, handles, completion, discarding (R370 to R385). -/

namespace Sys2Proof.Machine

/-- An entry of the table; none: FREE. -/
def Dev.entry (d : Dev) (slot : Nat) : Option OpEntry := d.opt.entries.find slot

/-- ARG0 of an entry. -/
def OpEntry.arg (e : OpEntry) : Nat := ((e.args[0]?).getD 0).toNat

/-- Writes an entry. -/
def Dev.setEntry (d : Dev) (slot : Nat) (e : OpEntry) : Dev :=
  { d with opt := { d.opt with entries := d.opt.entries.insert slot e } }

/-- Changes an entry, where the slot is not FREE. -/
def Dev.onEntry (d : Dev) (slot : Nat) (f : OpEntry → OpEntry) : Dev :=
  match d.entry slot with
  | none => d
  | some e => d.setEntry slot (f e)

/-- GEN after one allocation: it wraps from 63 to 1 (R370). -/
def nextGen (g : Nat) : Nat := if g = 63 then 1 else g + 1

/-- The slot that an allocation takes: the one freed longest ago (R370). -/
def OptSt.head (o : OptSt) : Option Nat := if o.fresh < 1024 then some o.fresh else o.freed.head?

/-- Takes that slot from the queue of free slots. -/
def OptSt.pop (o : OptSt) : OptSt :=
  if o.fresh < 1024 then { o with fresh := o.fresh + 1 } else { o with freed := o.freed.tail }

/-- ELAPSED of an entry: milliseconds since it started, saturating; 0 before its start (R383). -/
def Dev.elapsedOf (d : Dev) (e : OpEntry) : Nat :=
  match e.startedAt with
  | none => 0
  | some t => min 0xFFFF ((d.time - t) / 390625)

/-- An entry has ended: DONE, with its handle at the tail of the completion queue (R379, R383). ELAPSED stays as at the end. DESIGN
CHOICE, log entry 70. -/
def Dev.complete (d : Dev) (slot result : Nat) (detail : Word) : Dev :=
  match d.entry slot with
  | none => d
  | some e =>
    if e.state = .done then d else
    { d with opt := { d.opt with
        entries := d.opt.entries.insert slot { e with state := .done, result := result, detail := detail, progress := 255,
                                                       elapsed := d.elapsedOf e }
        cpl := d.opt.cpl ++ [slot] } }

/-- Removes the head completion and frees its entry (R380). -/
def OptSt.popCpl (o : OptSt) : OptSt :=
  match o.cpl with
  | [] => o
  | s :: r => { o with cpl := r, entries := o.entries.erase s, freed := o.freed ++ [s] }

/-- Whether a target lies inside a region: a unit, port or cluster of it, or the region itself (R385). -/
def targetInRegion (t : Target) (q : Nat) : Bool :=
  match t with
  | .unit u => decide (u.val / 32 = q)
  | .port p => decide (p.val / 32 = q)
  | .cluster c => decide (c.val / 4 = q)
  | .region r => decide (r.val = q)
  | .package => false

/-- At its start the entry is HELD (R375): a PORT_UP with a unit under self-test, or a target in a region whose image step
runs. -/
def Dev.heldBack (d : Dev) (e : OpEntry) : Bool :=
  (List.range 8).any (fun q => targetInRegion e.target q && decide ((d.region q).step = 2 ∨ (d.region q).step = 6)) ||
    (match e.target with
     | .port p => decide (e.opcode = 0x01) && (d.portUnits p).any (fun u => d.tst .lu u)
     | _ => false)

/-- A test or an image step ends: the entries that nothing holds back any more are QUEUED again, in their order (R375). -/
def Dev.requeue (d : Dev) : Dev :=
  { d with opt := { d.opt with entries := d.opt.entries.map (fun e =>
      if decide (e.2.state = .held) && !(d.heldBack e.2) then (e.1, { e.2 with state := .queued }) else e) } }

/-- STATE of HUB_ST_STAT: 1 while a self-test runs, else 0 (R508). -/
def Dev.testIdle (d : Dev) : Dev :=
  let on := d.opt.entries.any (fun e => decide (e.2.opcode = 0x10 ∧ e.2.state = .running))
  if d.get F.HUB_ST_STAT_STATE 0 = b2n on then d else d.put F.HUB_ST_STAT_STATE 0 (b2n on)

/-- Class A: every entry that is not FREE becomes FREE, its GEN advances, the queue is emptied, EPOCH advances (R384). -/
def Dev.emptyTable (d : Dev) : Dev :=
  let slots := d.opt.entries.map (·.1)
  let gens := slots.foldl (fun g s => g.insert s (nextGen ((g.find s).getD 0))) d.opt.gens
  let d := { d with opt := { d.opt with entries := [], gens := gens, freed := d.opt.freed ++ slots, cpl := [] } }
  ((d.report (F.OPT_LAST_POST_HANDLE.addr 0) 0).wrap F.OPT_EPOCH_EPOCH 0 1).testIdle

/-- Class B in region q: entries whose target lies in the region complete with DISCARDED (R385). -/
def Dev.discardRegion (d : Dev) (q : Nat) : Dev :=
  (d.each ((d.opt.entries.filter (fun e => targetInRegion e.2.target q && decide (e.2.state ≠ .done))).map (·.1))
    (fun d s => d.complete s 3 0)).testIdle

/-- Entries in a state. -/
def OptSt.countState (o : OptSt) (st : OpState) : Nat := (o.entries.filter (fun e => e.2.state = st)).length

end Sys2Proof.Machine
end

