-- ==== Sys2Proof/Machine/Collect.lean ====
section
/-! DEFINITION. The fault collector's operations: location codes, the reaction matrix, raising an event, recording it,
and the class A and class B reactions (R470 to R486). -/

namespace Sys2Proof.Machine

/-! Location codes -/

/-- The first macro number in its tile of each array (R487). Macros are numbered in a tile in the order of R487's table. DEDUCED,
log entry 14. -/
def macroBase (a : Nat) : Nat := if a = 1 then 2 else 0

/-- Die and tile of an array's owner (R27, R28). -/
def arrayPlace (a owner : Nat) : Nat × Nat :=
  if a ≤ 1 then (owner / 8, owner % 8)
  else if a = 2 then (owner / 2, 8 + owner % 2)
  else if a = 3 then (owner / 64, 10)
  else if a = 4 then (4, 3) else if a = 5 then (4, 4) else if a = 6 then (4, 0) else (4, 2)

/-- A functional location code (R29, R471). -/
def functionalCode (l : Loc) : Nat :=
  match l with
  | .unit u sub => u * 2 ^ 20 + sub * 2 ^ 17
  | .cluster c sub => 1 * 2 ^ 28 + c * 2 ^ 20 + sub * 2 ^ 17
  | .region q sub => 2 * 2 ^ 28 + q * 2 ^ 20 + sub * 2 ^ 17
  | .die n sub _ => 3 * 2 ^ 28 + n * 2 ^ 20 + sub * 2 ^ 17
  | .package sub => 4 * 2 ^ 28 + sub * 2 ^ 17
  | .word a o m w =>
    let level := if a ≤ 1 then 1 else if a = 2 then 2 else if a = 3 then 0 else 4
    level * 2 ^ 28 + (if a ≤ 3 then o else 0) * 2 ^ 20 + 7 * 2 ^ 17 + (m + macroBase a) * 2 ^ 13 + w % 4096
  | .arrayMacro a o m =>
    let level := if a ≤ 1 then 1 else if a = 2 then 2 else if a = 3 then 3 else 4
    level * 2 ^ 28 + (if a ≤ 3 then o else 0) * 2 ^ 20 + 7 * 2 ^ 17 + (m + macroBase a) * 2 ^ 13

/-- A physical location code (R30, R471). -/
def physicalCode (l : Loc) : Nat :=
  let mk (die tile mac bank word : Nat) : Nat :=
    2 ^ 31 + die * 2 ^ 28 + tile * 2 ^ 24 + mac * 2 ^ 20 + bank * 2 ^ 17 + word
  match l with
  | .unit u sub => mk (u / 64) (u / 8 % 8) 15 sub (u % 8 * 2 ^ 14)
  | .cluster c sub => mk (c / 8) (c % 8) 15 sub 0
  | .region q sub => mk (q / 2) (8 + q % 2) 15 sub 0
  | .die n sub tile => mk n tile 15 sub 0
  | .package sub => mk 4 4 15 sub 0
  | .word a o m w =>
    mk (arrayPlace a o).1 (arrayPlace a o).2 (m + macroBase a) (w / bankWords a) (w % bankWords a)
  | .arrayMacro a o m =>
    let place := if a = 3 then (o, 10) else arrayPlace a o
    mk place.1 place.2 (m + macroBase a) 0 0

/-- The location code in the view in force (R31). -/
def Dev.locCode (d : Dev) (l : Loc) : Word :=
  BitVec.ofNat 32 (if d.is F.HUB_TOPO_HIER_VIEW 0 then physicalCode l else functionalCode l)

/-- The regions a location lies in: both of a die; none for the hub and the package (R474). -/
def locRegions : Loc → List Nat
  | .unit u _ => [u / 32]
  | .cluster c _ => [c / 4]
  | .region q _ => [q]
  | .die n _ _ => [2 * n, 2 * n + 1]
  | .package _ => []
  | .word a o _ _ => if a ≤ 1 then [o / 4] else if a = 2 then [o] else if a = 3 then [o / 32] else []
  | .arrayMacro a o _ => if a ≤ 1 then [o / 4] else if a = 2 then [o] else if a = 3 then [2 * o, 2 * o + 1] else []

/-- The units inside a location (R474, R475, R490). -/
def locUnits : Loc → List Nat
  | .unit u _ => [u]
  | .cluster c _ => unitsOf c
  | .region q _ => unitsOfRegion q
  | .die n _ _ => (List.range 64).map (fun j => 64 * n + j)
  | .package _ => []
  | .word a o _ _ => if a ≤ 1 then unitsOf o else if a = 2 then unitsOfRegion o else if a = 3 then [o] else []
  | .arrayMacro a o _ =>
    if a ≤ 1 then unitsOf o else if a = 2 then unitsOfRegion o else if a = 3 then (List.range 64).map (fun j => 64 * o + j) else []

/-! The reaction matrix -/

/-- A source of R472: default class (0 A to 3 D), default ALERT, whether both are fixed. -/
structure SrcRow where
  cls : Nat
  alert : Bool
  fixed : Bool
  deriving DecidableEq, Repr

/-- The sources of R472 and R532; none: the code is not used. -/
def srcRow (n : Nat) : Option SrcRow :=
  if 1 ≤ n ∧ n ≤ 3 then some ⟨0, true, true⟩
  else if n = 4 ∨ n = 5 then some ⟨0, true, false⟩
  else if 0x10 ≤ n ∧ n ≤ 0x15 then some ⟨1, true, false⟩
  else if n = 0x16 then some ⟨3, true, false⟩
  else if n = 0x24 then some ⟨2, true, false⟩
  else if 0x20 ≤ n ∧ n ≤ 0x25 then some ⟨2, false, false⟩
  else if 0x30 ≤ n ∧ n ≤ 0x3D then some ⟨3, false, false⟩
  else if n = 0x42 then some ⟨1, false, false⟩
  else if n = 0x43 then some ⟨2, false, false⟩
  else if 0x40 ≤ n ∧ n ≤ 0x47 then some ⟨3, false, false⟩
  else if 0x48 ≤ n ∧ n ≤ 0x4F then some ⟨3, true, false⟩
  else if 0x60 ≤ n ∧ n ≤ 0x68 then some ⟨3, false, false⟩
  else if n = 0x69 ∨ n = 0x6A then some ⟨3, true, false⟩
  else if 0xC0 ≤ n ∧ n ≤ 0xC9 then some ⟨3, true, true⟩
  else none

/-- Whether a source is marked fixed. -/
def isFixed (n : Nat) : Bool := ((srcRow n).map (·.fixed)).getD false

/-- A source's word in the matrix view (R504): the image's entry, the default or the fixed values; 0 for an unused code. -/
def Dev.matrix (d : Dev) (n : Nat) : Word :=
  match srcRow n with
  | none => 0
  | some r =>
    let own := BitVec.ofNat 32 (n * 2 ^ 24 + r.cls * 2 ^ 22 + b2n r.alert * 2 ^ 21)
    if r.fixed then own else (d.flt.matrix.find n).getD own

/-- CLASS and ALERT in force for a source (R284). -/
def Dev.classOf (d : Dev) (n : Nat) : Nat := bitsOf (d.matrix n) 23 22
def Dev.alerts (d : Dev) (n : Nat) : Bool := decide (bitsOf (d.matrix n) 21 21 = 1)

/-! Masking and consequence -/

/-- A unit's detectors are masked: it, its cluster or its region is (R480). -/
def Dev.unitMasked (d : Dev) (u : Nat) : Bool :=
  (d.unit u).masked || (d.unit u).underTest || (d.cluster (u / 8)).masked || (d.cluster (u / 8)).underTest ||
    (d.region (u / 32)).masked || (d.region (u / 32)).underTest

/-- A cluster's detectors are masked. -/
def Dev.clusterMasked (d : Dev) (c : Nat) : Bool :=
  (d.cluster c).masked || (d.cluster c).underTest || (d.region (c / 4)).masked || (d.region (c / 4)).underTest

/-- A region's detectors are masked. -/
def Dev.regionMasked (d : Dev) (q : Nat) : Bool := (d.region q).masked || (d.region q).underTest

/-- A location lies inside a domain whose detectors are masked (R480). -/
def Dev.maskedAt (d : Dev) (l : Loc) : Bool :=
  match l with
  | .unit u _ => d.unitMasked u
  | .cluster c _ => d.clusterMasked c
  | .region q _ => d.regionMasked q
  | .die n _ _ => (d.die n).underTest || (d.die n).masked
  | .package _ => false
  | .word a o m _ =>
    if a = 0 then d.clusterMasked o else if a = 1 then d.unitMasked (8 * o + m) else if a = 2 then d.regionMasked o
    else if a = 3 then d.unitMasked o else false
  | .arrayMacro a o m =>
    if a = 0 then d.clusterMasked o else if a = 1 then d.unitMasked (8 * o + m) else if a = 2 then d.regionMasked o
    else if a = 3 then (d.die o).underTest || (d.die o).masked else false

/-- The line die that a location lies on; none: it lies in the hub. -/
def locDie : Loc → Option Nat
  | .unit u _ => some (u / 64)
  | .cluster c _ => some (c / 8)
  | .region q _ => some (q / 2)
  | .die n _ _ => some n
  | .word a o _ _ => if a ≤ 3 then some (arrayPlace a o).1 else none
  | .arrayMacro a o _ => if a ≤ 2 then some (arrayPlace a o).1 else if a = 3 then some o else none
  | .package _ => none

/-- The detectors of a region in DEEP are off, that of its kerbs apart (R422); those of a die without its supplies are off (R554). -/
def Dev.detectorsOff (d : Dev) (e : FltEvent) : Bool :=
  (locDie e.loc).any (fun n => !((d.die n).on)) ||
  (decide (e.src ≠ 0x13) &&
  (match e.loc with
   | .unit u _ => d.deep (u / 32)
   | .cluster c _ => d.deep (c / 4)
   | .region q _ => d.deep q
   | .word a o _ _ | .arrayMacro a o _ => if a ≤ 1 then d.deep (o / 4) else if a = 2 then d.deep o else false
   | .die _ _ _ | .package _ => false))

/-- A class B reaction is open in region q (R481). -/
def Dev.reacting (d : Dev) (q : Nat) : Bool := d.bit F.FLT_STAT_RG_REACT 0 q

/-- Any reaction is open. -/
def Dev.anyReaction (d : Dev) : Bool := d.flt.aOpen || decide (d.get F.FLT_STAT_RG_REACT 0 ≠ 0)

/-- A class A decision falls in the present hub cycle (R486). -/
def Dev.deciding (d : Dev) : Bool := d.flt.aAt.any (fun x => decide (x.1 = d.time))

/-- An event is consequential at its recording (R481): an event at a die lies inside the reacting regions when both of its regions
react. A class B decision in the hub cycle of a class A decision is not (R486). -/
def Dev.consequential (d : Dev) (e : FltEvent) : Bool :=
  !(isFixed e.src.toNat) && !(d.deciding && decide (d.classOf e.src.toNat = 1)) &&
  (d.flt.aOpen || (decide (locRegions e.loc ≠ []) && (locRegions e.loc).all d.reacting) ||
    (decide (e.src = 0x04 ∨ e.src = 0x61 ∨ e.src = 0x63 ∨ e.src = 0x68) && d.anyReaction))

/-- Holds an event for 16 hub cycles (R481). -/
def Dev.hold (d : Dev) (e : FltEvent) : Dev :=
  { d with flt := { d.flt with held := d.flt.held ++ [⟨d.time, d.locCode e.loc, e⟩] } }

/-- Sets a sticky bit; whether it was clear (R470). -/
def Dev.sticky (d : Dev) (f : Fld) (i : Nat) : Bool × Dev := (!(d.is f i), d.put f i 1)

/-- Records that a posted write was lost: POST_LOST and its event (R353). The event is only held here: in every reaction
that discards a posted write it is consequential or held. -/
def Dev.postLost (d : Dev) : Dev :=
  match d.port.posted with
  | none => d
  | some _ =>
    let d := { d with port := { d.port with posted := none } }
    if d.is F.HUB_REG_EVT_POST_LOST 0 then d
    else (d.put F.HUB_REG_EVT_POST_LOST 0 1).hold ⟨0x61, .package 0, 0, 0⟩

/-! Block resets -/

/-- Poison code of the array word that holds a pool slot: four slots to a word (R28, R361). DEDUCED, log entry 14. -/
def poolWordCode (c slot : Nat) : Nat := functionalCode (.word 0 c 0 (slot / 4))

/-- A poison code lies in the word range of an array owner: LEVEL, INDEX and SUB of R29 and R471, and a range of macros. -/
def inArray (level index lo hi code : Nat) : Bool :=
  decide (code / 2 ^ 20 = level * 2 ^ 8 + index ∧ code / 2 ^ 17 % 8 = 7 ∧ lo ≤ code / 2 ^ 13 % 16 ∧ code / 2 ^ 13 % 16 ≤ hi)

/-- Zeroed words carry valid check bits: they are poisoned no more (R25, R295, R576). -/
def Dev.mend (d : Dev) (out : Nat → Bool) : Dev :=
  if d.flt.poison = [] then d else { d with flt := { d.flt with poison := d.flt.poison.filter (fun c => !(out c)) } }

/-- The deskew buffers of a die are zeroed, or written with valid words by a test (R25, R495). -/
def Dev.mendDie (d : Dev) (n : Nat) : Dev := d.mend (fun c => decide (c / 2 ^ 28 = 0 ∧ c / 2 ^ 20 % 256 / 64 = n))

/-- New symbols overwrite the words of a unit's delay line from symbol time t on (R489, R490): symbol time modulo 4,096, eight
symbols to a word. PRESUMED, log entry 14. -/
def Dev.mendHist (d : Dev) (u t n : Nat) : Dev :=
  d.mend (fun p => inArray 1 (u / 8) (2 + u % 8) (2 + u % 8) p && decide ((p % 4096 + 512 - t / 8 % 512) % 512 ≤ n / 8))

/-- New bits overwrite the words of a unit's deskew buffers from bit time t on: bit time modulo 512, 64 bits to a word; of a unit's 16
words the first eight buffer HOST_RX, the others its line side. PRESUMED, log entry 14. -/
def Dev.mendBits (d : Dev) (u t n : Nat) (line : Bool) : Dev :=
  d.mend (fun p => inArray 0 u 0 15 p && decide ((8 ≤ p % 16) = (line = true)) && decide ((p % 8 + 8 - t / 64 % 8) % 8 ≤ n / 64))

/-- The words of n pool slots from a first one are poisoned no more. -/
def Dev.mendSlots (d : Dev) (c first n : Nat) : Dev :=
  d.mend (fun p => decide (poolWordCode c first ≤ p ∧ p ≤ poolWordCode c (first + n - 1) ∧ 0 < n))

/-- The registers that a unit, cluster or region reset keeps: the allocation and the port map, which change only when a
region's section is applied (R23, R129, R239). DEDUCED, log entry 10. -/
def kept (a : Nat) : Bool :=
  match locate a with
  | some (.cl, _, off) => decide (off = 0x10 ∨ off = 0x200 ∨ off = 0x204)
  | _ => false

/-- Returns the registers of an address range to their reset values, and discards what is buffered there (R45, R349). -/
def Dev.clearRange (d : Dev) (lo hi : Nat) : Dev :=
  let out (a : Nat) : Bool := decide (a < lo) || decide (hi ≤ a)
  let lost := d.buffered.any (fun e => !(out e.1)) || d.hub.xw.any (fun l => l.any (fun e => !(out e.1)))
  let d := { d with
    regs := d.regs.filter (fun e => out e.1 || kept e.1)
    rwtB := d.rwtB.filter (fun e => out e.1)
    rwtC := d.rwtC.filter (fun e => out e.1)
    buffered := d.buffered.filter (fun e => out e.1)
    hub := { d.hub with xw := d.hub.xw.map (fun l => l.filter (fun e => out e.1)) }
    shadows := d.shadows.filter (fun e => out e.1) }
  if lost then d.put F.HUB_REG_EVT_XW_DROP 0 1 else d

/-- A unit's reset as to its own state: registers, record, delay-line macro (R576). The unit is left held and masked. -/
def Dev.wipeUnit (d : Dev) (u : Nat) : Dev :=
  ((d.clearRange (blkBase .lu u) (blkBase .lu u + 0x1000)).mend (inArray 1 (u / 8) (2 + u % 8) (2 + u % 8))).onUnit u
    (fun x => { ({} : UnitSt) with underTest := x.underTest, farFails := x.farFails }) |>.driveHtx u none

/-- A cluster's reset as to its own state: every unit, the pool, the spare receive channel; the trims come from the
shadow, which equals the trims in use (R440, R576). -/
def Dev.wipeCluster (d : Dev) (c : Nat) : Dev :=
  let d := d.each (unitsOf c) Dev.wipeUnit
  let d := (d.clearRange (blkBase .cl c) (blkBase .cl c + 0x4000)).mend (inArray 1 c 0 9)
  let d := d.put F.CL_RB_POOL_BLOCKS_HELD c 0
  let now := d.time
  let d := { d with hub := { d.hub with commits := d.hub.commits.filter (· ≠ c) } }
  d.onCluster c (fun x => { ({} : ClusterSt) with
    underTest := x.underTest, trims := (x.cal.map (·.start)).getD x.trims, fgDraw := x.fgDraw
    ranSince := x.ranSince, doneAt := x.doneAt, lastEnd := if x.cal.isSome then now else x.lastEnd
    retry := x.retry || x.cal.isSome, held := x.held || x.cal.isSome
    coolSince := x.coolSince, temp := x.temp, mated := x.mated, rotated := x.rotated })

/-- A region's reset as to its own state (R23, R576). -/
def Dev.wipeRegion (d : Dev) (q : Nat) : Dev :=
  let d := d.each (clustersOf q) Dev.wipeCluster
  let d := (d.clearRange (blkBase .rg q) (blkBase .rg q + 0x4000)).mend (inArray 2 q 0 15)
  d.onRegion q (fun x => { ({} : RegionSt) with
    underTest := x.underTest, unreleased := x.unreleased, bWindow := x.bWindow, bCount := x.bCount,
    step := x.step, again := x.again })

/-- The end of a calibration run with reason FAULT: CAL operations get it, and the class D event is held (R457, R458). -/
def Dev.calFault (d : Dev) (c : Nat) : Dev :=
  match (d.cluster c).cal with
  | none => d
  | some r =>
    let d := d.each (r.slot.toList ++ r.followers) (fun d s => d.complete s 1 11)
    let d := d.put F.CAL_STAT_RUNNING 0 (d.get F.CAL_STAT_RUNNING 0 - 1)
    d.hold ⟨0x68, .package 0, 256, 0⟩

/-- A self-test of any part of region q stops with the region's reset (R384, R385, R494). -/
def Dev.testsStop (d : Dev) (q : Nat) : Dev :=
  let d := d.onRegion q (fun x => { x with underTest := false })
  let d := d.each (clustersOf q) (fun d c => d.onCluster c (fun x => { x with underTest := false }))
  d.each (unitsOfRegion q) (fun d u => d.onUnit u (fun x => { x with underTest := false }))

/-- Asserts a region's reset: REGION_LIVE clears, the blocks are held and masked, runs end, sleep states are left. -/
def Dev.assertRegion (d : Dev) (q : Nat) : Dev :=
  let d := d.each (clustersOf q) Dev.calFault
  let d := (d.wipeRegion q).testsStop q
  let d := d.onRegion q (fun x => { x with inReset := true, masked := true })
  d.putBit F.HUB_TOPO_REGION_LIVE 0 q false

/-! Reactions -/

/-- A STANDBY entry or exit that a class A reaction stops stays where it stands (R384, R424). -/
def Dev.standbyCut (d : Dev) : Dev :=
  let on := (List.range 4).any (fun n => (d.die n).on)
  ({ d with hub := { d.hub with sbStep := 0 } } : Dev).put F.PWR_PKG_STATE 0 (if on then 0 else 2)

/-- Writes HUB_IMG_LAST at the end of a load (R304). -/
def Dev.imgLast (d : Dev) (l : LoadSt) (result reason : Nat) : Dev :=
  let d := (d.put F.HUB_IMG_LAST_RESULT 0 result).put F.HUB_IMG_LAST_IMG_REASON 0 reason
  (d.put F.HUB_IMG_LAST_LL_DROP 0 l.drops).wrap F.HUB_IMG_LAST_LOADS 0 1

/-- A load in flight is discarded as work (R299, R304), with the yields of its burst; a verified image that awaits APPLY is kept. -/
def Dev.loadCut (d : Dev) : Dev :=
  match d.img.load with
  | none => d
  | some l =>
    if l.verified then d
    else ({ d with img := { d.img with load := none }, bus := { d.bus with yields := 0 } } : Dev).imgLast l 3 0

/-- Image steps stop with the load; a FAILED region comes up from the store in force after the exit (R298, R299, R477). -/
def Dev.stepsStop (d : Dev) : Dev :=
  d.each (List.range 8) (fun d q => d.onRegion q (fun x => { x with step := 0, again := false }))

/-- The reset of every region and die in safe state, the table with its running actions and the posted and buffered writes discarded
(R384, R476). -/
def Dev.dropWork (d : Dev) : Dev :=
  let d := d.each (List.range 8) Dev.assertRegion
  let d := (d.each (List.range 4) (fun d n => d.onDie n (fun x => { x with underTest := false }))).emptyTable
  let d := { d.postLost with buffered := [], hub := { d.postLost.hub with xw := [] } }
  ((d.put F.HUB_XW_STAT_PENDING 0 0).put F.SEC_LC_LC_BUSY 0 0).stepsStop

/-- The package safe state (R476), for the source that enters it. -/
def Dev.safeState (d : Dev) (src : Nat) : Dev :=
  let d := if d.safe then d else (d.put F.FLT_STAT_SAFE_SRC 0 src).put F.FLT_STAT_SAFE 0 1
  let d := { d with flt := { d.flt with aOpen := true, exitMasks := [], aAt := some (d.time, isFixed src) } }
  let d := d.dropWork
  (if d.hub.sbStep = 0 then d else d.standbyCut).loadCut

/-- The number of the aligned 64 s window of the time base (R479). -/
def Dev.bWindowNow (d : Dev) : Nat := d.seconds / 64

/-- A region's state and reason in HUB_IMG_RGN and HUB_IMG_REASON (R302, R303). -/
def Dev.rgnState (d : Dev) (q : Nat) : Nat := bitsOf (d.word (F.HUB_IMG_RGN_STATES.addr 0)) (4 * q + 3) (4 * q)
def Dev.setRgn (d : Dev) (q st : Nat) : Dev :=
  let a := F.HUB_IMG_RGN_STATES.addr 0
  d.setWord a (putBits (d.word a) (4 * q + 3) (4 * q) st)
def Dev.setRgnReason (d : Dev) (q r : Nat) : Dev :=
  let a := F.HUB_IMG_REASON_REASONS.addr 0
  d.setWord a (putBits (d.word a) (4 * q + 3) (4 * q) r)

/-- A region's image step meets a class B fault (R299): after the reaction it starts again once; a second fault leaves the
region FAILED with reason FAULT. -/
def Dev.stepFault (d : Dev) (q : Nat) : Dev :=
  let x := d.region q
  if x.step = 0 ∨ x.step = 9 then d
  else if x.again then
    let d := d.onRegion q (fun x => { x with step := 9, again := false })
    let d := { d with img := { d.img with
      load := d.img.load.map (fun (l : LoadSt) => { l with failed := q :: l.failed, bad := true }) } }
    (d.setRgn q 6).setRgnReason q 7
  else d.onRegion q (fun x => { x with step := 0, again := true })

/-- A class B fault ends the region step of a STANDBY exit (R423, R424). -/
def Dev.standbyFault (d : Dev) (q : Nat) : Dev :=
  if (d.region q).step = 6 then
    ({ d with hub := { d.hub with sbFailed := q :: d.hub.sbFailed, sbDone := q :: d.hub.sbDone } } : Dev).onRegion q
      (fun x => { x with step := 0 })
  else d

/-- The region safe state of region q (R478); the entries of the region are discarded before its reset ends their runs (R385); and
the hold of a third reaction in one window (R479). -/
def Dev.regionSafe (d : Dev) (q : Nat) : Dev :=
  let d := (if d.hub.sbStep = 7 then d.standbyFault q else d.stepFault q).discardRegion q
  let d := d.assertRegion q
  let d := d.putBit F.FLT_STAT_RG_REACT 0 q true
  let n := if (d.region q).bWindow = d.bWindowNow then (d.region q).bCount + 1 else 1
  let w := d.bWindowNow
  let d := d.onRegion q (fun x => { x with bWindow := w, bCount := n })
  if 3 ≤ n then d.putBit F.FLT_STAT_RG_HELD 0 q true else d

/-- The reaction of a class to a location, class C apart (R474). A class B decision beside a class A decision takes none of its own
(R486). -/
def Dev.react (d : Dev) (cls src : Nat) (l : Loc) : Dev :=
  if cls = 0 then d.safeState src
  else if cls = 1 then
    (if d.deciding && d.safe then d else if locRegions l = [] then d.safeState src else d.each (locRegions l) Dev.regionSafe)
  else d

/-! Recording -/

/-- The counter of R473 that an event counts in: its region, or 8 for a die or the hub. -/
def escKey (src : Nat) (l : Loc) : Nat :=
  16 * src + (match l with | .die _ _ _ => 8 | _ => ((locRegions l).head?).getD 8)

/-- Number of the window of a source's escalation counters (R363, R473). -/
def Dev.escWindow (d : Dev) (src : Nat) : Nat := d.seconds / 2 ^ bitsOf (d.matrix src) 15 12

/-- Escalation (R473): the class taken, whether it escalated, and the counters after. -/
def Dev.escalate (d : Dev) (src : Nat) (l : Loc) : Nat × Bool × Dev :=
  let m := d.matrix src
  let n := bitsOf m 19 16
  let cls := bitsOf m 23 22
  if n = 0 ∨ isFixed src = true then (cls, false, d) else
  let k := escKey src l
  let win := d.escWindow src
  let c := (if (d.flt.escWin.find k).getD 0 = win then (d.flt.esc.find k).getD 0 else 0) + 1
  let keep (v : Nat) : Dev :=
    { d with flt := { d.flt with esc := d.flt.esc.insert k v, escWin := d.flt.escWin.insert k win } }
  if n ≤ c then
    (if bitsOf m 11 10 < cls then (bitsOf m 11 10, true, keep 0) else (cls, false, keep 0))
  else (cls, false, keep c)

/-- The class counter of a class (R502). -/
def classFld (cls : Nat) : Fld :=
  if cls = 0 then F.FLT_CNT_AB_CNT_A else if cls = 1 then F.FLT_CNT_AB_CNT_B
  else if cls = 2 then F.FLT_CNT_CD_CNT_C else F.FLT_CNT_CD_CNT_D

/-- The eight words of a history entry (R505), for an event with its location code. -/
def Dev.histWords (d : Dev) (e : FltEvent) (code : Word) (cls : Nat) (conseq esc alert : Bool) : List Word :=
  let seq := d.word (F.FLT_HQ_SEQ_SEQ.addr 0)
  let w1 := e.src.toNat * 2 ^ 24 + cls * 2 ^ 22 + b2n conseq * 2 ^ 19 + b2n esc * 2 ^ 18 + b2n alert * 2 ^ 17
  [seq, BitVec.ofNat 32 w1, code, e.info, BitVec.ofNat 32 d.time, BitVec.ofNat 32 (d.time / 2 ^ 32), e.tag, 0]

/-- Writes a history entry into the next slot, whose words are then whole again, or counts it as lost while the queue is frozen
(R483, R484, R489). -/
def Dev.writeHist (d : Dev) (ws : List Word) : Dev :=
  if d.is F.FLT_HQ_FROZEN 0 then d.bump F.FLT_HQ_LOST 0 1
  else
    let seq := d.get F.FLT_HQ_SEQ_SEQ 0
    let d := { d with flt := { d.flt with hist := d.flt.hist.insert (seq % 64) ws,
                                          histBad := d.flt.histBad.filter (· ≠ seq % 64) } }
    let d := d.mend (fun p => decide (p / 4 = functionalCode (.word 5 0 0 0) / 4 + seq % 64))
    let d := d.wrap F.FLT_HQ_SEQ_SEQ 0 1
    d.put F.FLT_HQ_COUNT 0 (min 64 (d.get F.FLT_HQ_COUNT 0 + 1))

/-- The queue freezes (R484, R485): the snapshot is due, unless one that was not acknowledged is kept. -/
def Dev.freeze (d : Dev) : Dev :=
  let d := { d.put F.FLT_HQ_FROZEN 0 1 with flt := { d.flt with frozeAt := some d.time } }
  if d.flt.snapFree then { d with flt := { d.flt with snapDue := true, snapFree := false } }
  else d.put F.FLT_HQ_SNAP_KEPT 0 1

/-- Records an event: the class it takes (none for a consequential one) and the state after, without the reaction. A class A event
freezes the queue, a consequential one too. DEDUCED, log entry 66. -/
def Dev.recordEvent (d : Dev) (e : FltEvent) (code : Word) : Option Nat × Dev :=
  let src := e.src.toNat
  if d.consequential e then
    let frozen := d.is F.FLT_HQ_FROZEN 0
    let d := d.writeHist (d.histWords e code (d.classOf src) true false false)
    let d := if d.classOf src = 0 && !frozen then d.freeze else d
    (none, d.bump F.FLT_SUPPR_CONSEQ 0 1)
  else
    let (cls, esc, d) := d.escalate src e.loc
    let al := d.alerts src
    let frozen := d.is F.FLT_HQ_FROZEN 0
    let seq := d.get F.FLT_HQ_SEQ_SEQ 0
    let d := d.writeHist (d.histWords e code cls false esc al)
    let d := d.bump (classFld cls) 0 1
    let d := if al then d.bump F.FLT_ALERT_PENDING 0 1 else d
    let d := if al && !frozen then d.put F.FLT_ALERT_LAST_SEQ 0 seq else d
    let d := if cls = 0 && !frozen then d.freeze else d
    (some cls, d)

/-- An event that no mask stops: recorded and reacted to at once in class A or B, held else (R481). -/
def Dev.takeEvent (d : Dev) (e : FltEvent) : Dev :=
  if d.classOf e.src.toNat ≤ 1 then
    match d.recordEvent e (d.locCode e.loc) with
    | (some cls, d) => d.react cls e.src.toNat e.loc
    | (none, d) => d
  else d.hold e

/-- The collector is in reset: RESET_N is low, power-on reset holds, or the boundary register has the pins (R554, R564). -/
def Dev.collectorOff (d : Dev) : Bool := d.hub.resetLow || d.hub.porHold || d.hub.pinsTaken

/-- A detector raises an event (R470, R480, R481): masked, decided at once (A, B), or held (C, D), unless it is off (R422, R554). -/
def Dev.raise (d : Dev) (e : FltEvent) : Dev :=
  if d.collectorOff || d.detectorsOff e then d
  else if d.maskedAt e.loc && !(isFixed e.src.toNat) then d.bump F.FLT_SUPPR_MASKED 0 1
  else d.takeEvent e

/-- Sets a sticky event bit and raises its event when the bit was clear (R470). -/
def Dev.event (d : Dev) (f : Fld) (i : Nat) (e : FltEvent) : Dev :=
  if d.is f i then d else (d.put f i 1).raise e

/-- The token tag of an event detected in the fabric: the low 32 bits of the REFA count (R470). -/
def Dev.tag (d : Dev) : Word := BitVec.ofNat 32 d.refa

/-- Sets a sticky bit of a unit and raises a fabric event located at it. -/
def Dev.unitEvent (d : Dev) (f : Fld) (u src sub : Nat) (info : Word) : Dev :=
  d.event f u ⟨BitVec.ofNat 8 src, .unit u sub, info, d.tag⟩

/-- Sets a sticky bit of the hub and raises an event located at the package. -/
def Dev.hubEvent (d : Dev) (f : Fld) (src : Nat) (info : Word) : Dev :=
  d.event f 0 ⟨BitVec.ofNat 8 src, .package 0, info, 0⟩

end Sys2Proof.Machine
end

