-- ==== Sys2Proof/Machine/Signal.lean ====
section
/-! DEFINITION. What travels on a line: symbols, precoding, the scrambler, line blocks, control bodies, the transmit FIR
(R50 to R64, R160), as pure functions. -/

namespace Sys2Proof.Machine

/-- The bits of a token in transmission order (R50). -/
def tokBits (w : BitVec 136) : List Bool := (List.range 136).map w.getLsbD

/-- The number whose bits, lowest first, are given. -/
def bitsNat : List Bool → Nat
  | [] => 0
  | b :: bs => b2n b + 2 * bitsNat bs

/-- The token of 136 bits in transmission order. -/
def ofBits (bs : List Bool) : BitVec 136 := BitVec.ofNat 136 (bitsNat bs)

/-- The Gray index of a symbol's two bits (R50). -/
def grayOf (msb lsb : Bool) : Nat := if msb then (if lsb then 2 else 3) else (if lsb then 1 else 0)

/-- The two bits of a Gray index (R50). -/
def grayBits (g : Nat) : List Bool :=
  if g = 0 then [false, false] else if g = 1 then [false, true] else if g = 2 then [true, true] else [true, false]

/-- The level of a Gray index (R50). -/
def levelOf (g : Nat) : Int := 2 * (g : Int) - 3

/-- The Gray indices of a token's bits. -/
def graysOf : List Bool → List Nat
  | m :: l :: r => grayOf m l :: graysOf r
  | _ => []

/-- The bits of Gray indices. -/
def bitsOfGrays (gs : List Nat) : List Bool := gs.flatMap grayBits

/-- Precoding: P(n) = (G(n) - P(n-1)) mod 4 (R51); the symbols and the last one. -/
def precode (prev : Nat) : List Nat → List Nat × Nat
  | [] => ([], prev)
  | g :: gs =>
    let p := (g + 4 - prev) % 4
    let r := precode p gs
    (p :: r.1, r.2)

/-- The decoding of precoding: G(n) = (P(n) + P(n-1)) mod 4 (R51). -/
def decodePre (prev : Nat) : List Nat → List Nat × Nat
  | [] => ([], prev)
  | p :: ps =>
    let r := decodePre p ps
    ((p + prev) % 4 :: r.1, r.2)

/-- An inverted signal: every level arrives as its negative, so the MSB of each symbol changes (R183). -/
def negate (gs : List Nat) : List Nat := gs.map (fun g => 3 - g)

/-- One bit of the scrambler 1 + x^39 + x^58: bit k of the state is s(n-1-k) (R60). -/
def scrBit (s : BitVec 58) : Bool := s.getLsbD 38 ^^ s.getLsbD 57

/-- The scrambler's next state. -/
def scrNext (s : BitVec 58) : BitVec 58 := (s <<< 1) ||| (if scrBit s then 1 else 0)

/-- Scrambles bits, or descrambles them: every position advances the state, a header position (`keep`) is not changed (R60,
R61). The first position has number i. -/
def scramble (keep : Nat → Bool) (i : Nat) (s : BitVec 58) : List Bool → List Bool × BitVec 58
  | [] => ([], s)
  | b :: bs =>
    let r := scramble keep (i + 1) (scrNext s) bs
    ((if keep i then b else b ^^ scrBit s) :: r.1, r.2)

/-- Header positions of a training-format block (R52). -/
def hdrPos (i : Nat) : Bool := decide (i = 0) || decide (i = 2)

/-- The state after 58 received scrambler bits, oldest first (R63). -/
def scrLoad (bs : List Bool) : BitVec 58 := bs.foldl (fun s b => (s <<< 1) ||| (if b then 1 else 0)) 0

/-- The header of a line block is valid: 01 or 10 (R53). -/
def hdrValid (bs : List Bool) : Bool := (bs[0]?).getD false != (bs[2]?).getD false

/-- The header of a line block is a data header, 01. -/
def isDataHdr (bs : List Bool) : Bool := !((bs[0]?).getD false) && (bs[2]?).getD false

/-- A line block from its header and its 134 body bits (R52). -/
def blockOf (h0 h2 : Bool) (body : List Bool) : List Bool := h0 :: (body.head?).getD false :: h2 :: body.tail

/-- The 134 bits of a control body from the number of its bits b0 to b117, with its CRC (R55). -/
def sealBody (n : Nat) : List Bool :=
  let bs := (List.range 118).map (bitOf n)
  let c := crc16 bs
  bs ++ (List.range 16).map (fun i => c.getLsbD (15 - i))

/-- A field of a control body (R55). -/
def bodyField (b : BitVec 134) (hi lo : Nat) : Nat := b.toNat / 2 ^ lo % 2 ^ (hi + 1 - lo)

/-- The CRC of a control body checks (R55, R57). -/
def bodyCrcOk (b : BitVec 134) : Bool :=
  decide ((List.range 134).map b.getLsbD = sealBody (b.toNat % 2 ^ 118))

/-- A control body has one of the five types of R55. -/
def bodyTypeOk (b : BitVec 134) : Bool :=
  decide (bodyField b 3 0 = 6 ∨ bodyField b 3 0 = 9 ∨ bodyField b 3 0 = 12 ∨ bodyField b 3 0 = 5 ∨ bodyField b 3 0 = 3)

/-- The code of one FIR output: round(127·Σ c(k)·a(n-k)), levels in thirds, taps in 1/64 (R160). -/
def firCode (taps : List Int) (win : List Int) : Int :=
  clampInt (-127) 127 (roundDiv (127 * ((List.zipWith (· * ·) taps win).foldl (· + ·) 0)) 192)

/-- FIR outputs over a run of levels, oldest first; taps from c(+2) down to c(-2). -/
def firRun (taps : List Int) : List Int → List Int
  | a :: b :: c :: x :: y :: r => firCode taps [a, b, c, x, y] :: firRun taps (b :: c :: x :: y :: r)
  | _ => []

/-- The taps of a LU_TX_FIR word from c(+2) down to c(-2) (R168). -/
def firTaps (w : Word) : List Int :=
  [signed (bitsOf w 30 25) 6, signed (bitsOf w 24 19) 6, (bitsOf w 18 12 : Nat), signed (bitsOf w 11 6) 6,
    signed (bitsOf w 5 0) 6]

/-- The taps keep the ranges and the sum of R161. -/
def firOk (w : Word) : Bool :=
  match firTaps w with
  | [p2, p1, c0, m1, m2] =>
    decide (-8 ≤ p2 ∧ p2 ≤ 8 ∧ -24 ≤ p1 ∧ p1 ≤ 0 ∧ 32 ≤ c0 ∧ c0 ≤ 64 ∧ -20 ≤ m1 ∧ m1 ≤ 0 ∧ -4 ≤ m2 ∧ m2 ≤ 8 ∧
      p2.natAbs + p1.natAbs + c0.natAbs + m1.natAbs + m2.natAbs ≤ 64)
  | _ => false

/-- The HOST_TX taps keep the ranges and the sum of R221. -/
def htxFirOk (w : Word) : Bool :=
  let p1 := signed (bitsOf w 24 19) 6
  let c0 : Int := (bitsOf w 18 12 : Nat)
  let m1 := signed (bitsOf w 11 6) 6
  let m2 := signed (bitsOf w 5 0) 6
  decide (-12 ≤ p1 ∧ p1 ≤ 0 ∧ 36 ≤ c0 ∧ c0 ≤ 64 ∧ -16 ≤ m1 ∧ m1 ≤ 0 ∧ 0 ≤ m2 ∧ m2 ≤ 6 ∧
    p1.natAbs + c0.natAbs + m1.natAbs + m2.natAbs ≤ 64)

/-- Bit n of a pattern (R249): the square wave sends eight symbols at the highest level, then eight at the lowest; the
sequences of the standard are opaque. -/
def patBit (pat n : Nat) : Bool :=
  if pat = 3 then (if n / 16 % 2 = 0 then decide (n % 2 = 0) else false) else Config.patternBit pat n

/-- A run of n pattern bits from a position. -/
def patBits (pat pos n : Nat) : List Bool := (List.range n).map (fun i => patBit pat (pos + i))

/-! Bit times: bit i of the token tagged T is at 136·T + i -/

/-- The alignment-marker period of every port width in bits: 163,840 tokens (R66, R215). -/
def amPeriod : Nat := 22282240

/-- Bits of a codeword (R215). -/
def cwBits : Nat := 5440

/-- The bit of its marker that stands at a bit time, for markers at whole periods from a base; none: payload (R64, R66). -/
def markIdx (base t : Nat) : Option Nat :=
  let k := (t + amPeriod - base % amPeriod) % amPeriod
  if k < 240 then some k else none

/-- Bits from a bit time to the next marker that starts at or after it. -/
def toMark (base t : Nat) : Nat := (base + amPeriod - t % amPeriod) % amPeriod

/-- Bits from a bit time to the next codeword boundary at or after it (R215). -/
def toCw (grid t : Nat) : Nat := (grid + amPeriod - t % amPeriod) % amPeriod % cwBits

/-- A bit of one of n tokens from a tag on belongs to a marker (R64, R69). -/
def marksIn (base tag n : Nat) : Bool :=
  decide (toMark base (136 * tag) < 136 * n) || (markIdx base (136 * tag)).isSome

/-- Applies a function to each bit of a token, by its bit time. -/
def mapAt (tag : Nat) (f : Nat → Bool → Bool) (bs : List Bool) : List Bool := bs.mapIdx (fun i b => f (136 * tag + i) b)

/-- An injection into the codeword that starts at a bit time inverts the least significant bit, sent first, of each of its
symbols 100 to 100 + syms - 1 (R252). -/
def hitBit (start syms t : Nat) : Bool :=
  decide (start + 1000 ≤ t) && decide (t < start + 1000 + 10 * syms) && decide ((t - start) % 10 = 0)

/-- Inverts the chosen bits of a token. -/
def inject (h : Option (Nat × Nat)) (tag : Nat) (bs : List Bool) : List Bool :=
  match h with
  | none => bs
  | some (start, syms) => mapAt tag (fun t b => b ^^ hitBit start syms t) bs

/-- The last n bits of a buffer with a token appended. -/
def keepBits (n : Nat) (buf new : List Bool) : List Bool := (buf ++ new).drop ((buf ++ new).length - n)

/-- A token of a stream delayed by a number of bits, from the bits before it, oldest first (R222, R224). -/
def delayBits (buf new : List Bool) (dly : Nat) : List Bool :=
  let s := List.replicate dly false ++ buf ++ new
  (s.drop (s.length - 136 - dly)).take 136

/-- How many bits two runs differ in. -/
def bitDiff (a b : List Bool) : Nat := (List.zipWith (fun x y => b2n (x != y)) a b).foldl (· + ·) 0

/-! HOST_TX FIR (R221) -/

/-- FIR outputs in 1/192 of an outer level over a run of levels, oldest first; taps from c(+1) down to c(-2). -/
def htxFirRun (taps : List Int) : List Int → List Int
  | a :: b :: c :: x :: r => (List.zipWith (· * ·) taps [a, b, c, x]).foldl (· + ·) 0 :: htxFirRun taps (b :: c :: x :: r)
  | _ => []

/-- The taps of a LU_HTX_FIR word from c(+1) down to c(-2) (R236). -/
def htxFirTaps (w : Word) : List Int :=
  [signed (bitsOf w 24 19) 6, (bitsOf w 18 12 : Nat), signed (bitsOf w 11 6) 6, signed (bitsOf w 5 0) 6]

/-! The pattern checker (R250) -/

/-- What the checker keeps: its last 62 bits newest first, correct bits in a row, the last 128 comparisons, bits compared and
errors found in lock. -/
structure ChkSt where
  bits : List Bool
  run : Nat
  win : List Bool
  compared : Nat := 0
  errs : Nat := 0
  deriving DecidableEq, Repr

/-- One bit is compared with the pattern. A checker that is not locked goes on from the bits received, a locked one from the
pattern itself; the first 62 bits only seed it. -/
def ChkSt.bit (c : ChkSt) (pat : Nat) (locked : Bool) (b : Bool) : ChkSt :=
  if c.bits.length < 62 then { c with bits := b :: c.bits }
  else
    let p := Config.patternNext pat c.bits
    let bad := p != b
    { bits := ((if locked then p else b) :: c.bits).take 62
      run := if bad then 0 else c.run + 1
      win := (bad :: c.win).take 128
      compared := c.compared + b2n locked
      errs := c.errs + b2n (locked && bad) }

/-- A run of bits is compared. -/
def ChkSt.bitsIn (c : ChkSt) (pat : Nat) (locked : Bool) (bs : List Bool) : ChkSt := bs.foldl (fun c b => c.bit pat locked b) c

end Sys2Proof.Machine
end

