-- ==== Sys2Proof/Machine/Dsp.lean ====
section
/-! DEFINITION. Arithmetic of the receiver on one token, as pure functions: FFE, reading of the transmit histories, the
rotator, DFE and slicer, decibels (R89 to R97, R143 to R152). Signals after the FFE count in 2^-15 ADC code. -/

namespace Sys2Proof.Machine

/-- Σ of products of two lists. -/
def dot (xs ys : List Int) : Int := (List.zipWith (· * ·) xs ys).foldl (· + ·) 0

/-- n products of a kernel with a list, each one place further on. -/
def slide (k : List Int) : Nat → List Int → List Int
  | 0, _ => []
  | n + 1, s => dot k s :: slide k n s.tail

/-- Sum of the squares of a list. -/
def power (xs : List Int) : Nat := (dot xs xs).natAbs

/-- Sum of two lists, place by place. -/
def plus (xs ys : List Int) : List Int := List.zipWith (· + ·) xs ys

/-- Difference of two lists, place by place. -/
def minus (xs ys : List Int) : List Int := List.zipWith (· - ·) xs ys

/-- Sign of a number: -1, 0 or 1. -/
def sgn (x : Int) : Int := if 0 < x then 1 else if x < 0 then -1 else 0

/-! Decibels -/

/-- The largest k with 10^k ≤ n, at most the fuel. -/
def logTen : Nat → Nat → Nat
  | 0, _ => 0
  | f + 1, n => if n < 10 then 0 else 1 + logTen f (n / 10)

/-- 10·log10(num / den) in 0.1 dB, rounded down; 0 where the ratio is below 1, 0xFFFE at most and where den is 0. DESIGN
CHOICE, log entry 52. -/
def tenthDb (num den : Nat) : Nat :=
  if den = 0 then 0xFFFE else min 0xFFFE (logTen 20000 (num ^ 100 / den ^ 100))

/-! The FFE (R143) -/

/-- The code of a sample (R140). -/
def sampleCode (v : Fin 255) : Int := (v.val : Int) - 127

/-- FFE outputs of a token, oldest first: `past` the eight samples before it, newest first, `codes` its samples, `ahead` the
three look-ahead samples; the main tap is 1.0, the others are the ten upper bits of the taps held in 2^-13. -/
def ffeOut (taps past codes ahead : List Int) : List Int :=
  let p := (past ++ List.replicate 8 0).take 8
  let t : List Int := taps.map (· / 16)
  let k := (t.take 8 ++ [512] ++ t.drop 8).map (· * 64)
  slide k 68 (p.reverse ++ codes ++ ahead)

/-- One adaptation of the FFE by sign-sign LMS (R143): the error's sign against each sample's, summed over the token; a tap moves by
one step, in 2^-13, against it. DESIGN CHOICE, log entry 50. -/
def ffeStep (taps past codes ahead errs : List Int) (step : Int) : List Int :=
  let p := (past ++ List.replicate 8 0).take 8
  let s := (p.reverse ++ codes ++ ahead).map sgn
  let e := errs.map sgn
  taps.mapIdx (fun i c =>
    let g := sgn (dot e (s.drop (if i < 8 then i else i + 1)))
    clampInt (-8192) 8191 (c - step * g))

/-! The transmit histories (R89, R90) -/

/-- n symbols of a history, newest first, from the one launched at symbol time t on; outside the history: zero. -/
def histFrom (x : CancSt) (t : Int) (n : Nat) : List Int :=
  let skip := (x.histAt : Int) - 1 - t
  if skip < 0 then List.replicate (min n skip.natAbs) 0 ++ x.hist.take (n - skip.natAbs)
  else (x.hist.drop skip.toNat).take n

/-- Adds launched codes, oldest first, to a history: at symbol time t, or later where symbols are still going out; a gap holds
zeros. -/
def CancSt.push (x : CancSt) (t : Nat) (codes : List Int) : CancSt :=
  let at' := max t x.histAt
  { x with hist := (codes.reverse ++ List.replicate (min 4096 (at' - x.histAt)) 0 ++ x.hist).take 4096, histAt := at' + codes.length }

/-! The rotator (R91) -/

/-- The 16 coefficients of the interpolator at a phase. -/
def interpTaps (f : Nat) : List Int := (List.range 16).map (Config.interp f)

/-- From 83 values on the transmit grid, newest first, those of 68 samples that lie f / 64 symbol from the ninth on. Phase 0
is the grid itself. DEDUCED, log entry 49. -/
def rotate (f : Nat) (xs : List Int) : List Int :=
  if f = 0 then (xs.drop 8).take 68 else (slide (interpTaps f) 68 xs).map (· / 16384)

/-- The errors of a token, newest first, mapped back to the transmit grid by the inverse rotation (R96). -/
def unrotate (f : Nat) (es : List Int) : List Int :=
  if f = 0 then es else (slide (interpTaps (64 - f)) 68 (List.replicate 7 0 ++ es)).map (· / 16384)

/-- Whole symbols and 1/64 of a phase difference. -/
def phaseParts (dphi : Int) : Int × Nat := (dphi / 64, (dphi % 64).toNat)

/-! DFE and slicer (R144) -/

/-- The level that the slicer decides: thresholds 0 and ±2L. -/
def sliceLevel (l z : Int) : Int := if 2 * l ≤ z then 3 else if 0 ≤ z then 1 else if -2 * l ≤ z then -1 else -3

/-- DFE and slicer over a token, oldest first: h1 in 1/32, L, the last level decided before; the levels and the errors. -/
def sliceRun (h1 : Nat) (l : Int) : Int → List Int → List Int × List Int
  | _, [] => ([], [])
  | prev, y :: ys =>
    let z := y - (h1 : Int) * prev * l / 32
    let a := sliceLevel l z
    let r := sliceRun h1 l a ys
    (a :: r.1, (z - a * l) :: r.2)

/-- A SIMPLEX receive lane within a token (R121, R144): h1, L and the last level decided, the taps of its FEXT cancellers by aggressor
lane, the symbols still to slice, oldest first, the levels and errors so far, newest first. -/
structure StdLane where
  lane : Nat
  h1 : Nat
  l : Int
  prev : Int
  taps : List (Nat × List Int)
  input : List Int
  out : List (Int × Int) := []
  deriving DecidableEq, Repr

/-- The FEXT correction inside the DFE, from the decisions of the other lanes before this symbol, newest first: taps at delays 2 to
25 (R121). -/
def StdLane.correction (x : StdLane) (h : NMap (List Int)) : Int :=
  127 * ((x.taps.map (fun e => dot e.2 (((h.find e.1).getD []).drop 1))).foldl (· + ·) 0) / 3

/-- A lane slices its next symbol. -/
def StdLane.slice (x : StdLane) (h : NMap (List Int)) : StdLane × Int :=
  match x.input with
  | [] => (x, 0)
  | y :: ys =>
    let z := y - x.correction h - (x.h1 : Int) * x.prev * x.l / 32
    let a := sliceLevel x.l z
    ({ x with input := ys, prev := a, out := (a, z - a * x.l) :: x.out }, a)

/-- n symbols of the lanes of a cluster, side by side. -/
def stdRun : Nat → List StdLane → NMap (List Int) → List StdLane
  | 0, xs, _ => xs
  | n + 1, xs, h =>
    let r := xs.map (fun x => x.slice h)
    stdRun n (r.map (·.1)) (h.map (fun e => (e.1, ((r.find? (fun x => decide (x.1.lane = e.1))).map (·.2)).getD 0 :: e.2)))

/-- The Gray index of a level (R50). -/
def grayOfLevel (a : Int) : Nat := ((a + 3) / 2).toNat

/-- The Mueller and Müller detector over a token: Σ e(n)·a(n-1) - e(n-1)·a(n), by sign of the errors (R148). -/
def muellerSum (as es : List Int) : Int := dot (es.drop 1) as - dot es (as.drop 1)

/-! Energy (R152) -/

/-- A token's energy, a sum of n squares in 2^-30 code², lies below a threshold of thr / 2 dB under full scale: ±127 on every
sample. -/
def belowFs (sum n thr : Nat) : Bool := decide (sum ^ 20 * 10 ^ thr < (n * 2 ^ 30 * 16129) ^ 20)

/-- It lies above it. -/
def aboveFs (sum n thr : Nat) : Bool := decide ((n * 2 ^ 30 * 16129) ^ 20 < sum ^ 20 * 10 ^ thr)

end Sys2Proof.Machine
end

