-- ==== Sys2Proof/Machine/Attempt.lean ====
section
/-! DEFINITION. Shared operations of units: ports, the tap pool, attempts and their failure, and the runs of a cluster
that a unit's events end (R173 to R205, R228, R99 to R102, R257, R265, R457). -/

namespace Sys2Proof.Machine

/-! Ports -/

/-- A unit's transmitter counts as in data mode for R179; QUIET and its wake count as quiet (R232). -/
def Dev.txUp (d : Dev) (u : Nat) : Bool :=
  match (d.unit u).tx with
  | .data | .quietNotice | .quiet => true
  | .resume => !(d.is F.LU_LINE_FRAME_TX_HOLD u)
  | _ => false

/-- A unit is up (R179), a quiet receive direction counting as quiet; in SIMPLEX the standard link is up (R206, R233). -/
def Dev.unitUp (d : Dev) (u : Nat) : Bool :=
  if d.duplex (u / 8) then
    d.txUp u && (decide (d.get F.LU_LINE_FRAME_RX_FMT u = 2) || d.is F.LU_LINE_FRAME_RX_QUIET u)
  else decide (d.get F.LU_BU_STAT_STATE u = 10)

/-- The conditions of R228 for a unit of a port, with R235 and R251. -/
def Dev.unitOk (d : Dev) (u : Nat) : Bool :=
  d.is F.LU_BU_CTRL_EN u && d.unitUp u && d.is F.LU_HOST_STAT_AM_LOCK u && !(d.is F.LU_HOST_CFG_HTX_SQUELCH u) &&
    decide (d.get F.LU_PAT_CTRL_GEN_PT u = 0) && decide (d.get F.LU_PAT_CTRL_CHK_PT u = 0)

/-- The line-side deskew of port p is set and not refused (R224); a port of one unit has none. -/
def Dev.lineSet (d : Dev) (p : Nat) : Bool :=
  decide (d.width p = 1) ||
    ((d.cluster (p / 8)).lineDsk.contains (p % 8) &&
      (d.portUnits p).all (fun u => !((d.cluster (p / 8)).lineBad.contains (u % 8))))

/-- The HOST_RX deskew of port p is set (R223); a port of one unit has none. -/
def Dev.hostSet (d : Dev) (p : Nat) : Bool := decide (d.width p = 1) || (d.cluster (p / 8)).hrxDsk.contains (p % 8)

/-- Port p meets the conditions of R228; without its HOST_RX deskew it stays down (R223). -/
def Dev.portOk (d : Dev) (p : Nat) : Bool := (d.portUnits p).all d.unitOk && d.hostSet p && d.lineSet p

/-- Port p is up (R240). -/
def Dev.portUp (d : Dev) (p : Nat) : Bool := d.bit F.CL_PORT_STAT_UP (p / 8) (p % 8)

/-- Writes DSK_SET of port p (R240); a port of one unit has no deskew and reads 0. DESIGN CHOICE, log entry 76. -/
def Dev.showDsk (d : Dev) (p : Nat) : Dev :=
  d.putBit F.CL_PORT_STAT_DSK_SET (p / 8) (p % 8) (decide (1 < d.width p) && d.hostSet p && d.lineSet p)

/-- The deskew of a unit's port is shown, where the unit is in a port. -/
def Dev.showDskOf (d : Dev) (u : Nat) : Dev := if d.inPort u then d.showDsk (d.portOf u) else d

/-- A unit has lost its line, or its EN: the line-side deskew of its port is no longer set (R224, R229, R240). -/
def Dev.lineGone (d : Dev) (u : Nat) : Dev :=
  let b := d.base u
  (d.onCluster (u / 8) (fun x => { x with lineDsk := x.lineDsk.filter (· ≠ b) })).showDskOf u

/-- The port of unit u goes down, with one class C event located at u (R228). -/
def Dev.portFail (d : Dev) (u : Nat) : Dev :=
  if d.inPort u && d.portUp (d.portOf u) then
    (d.putBit F.CL_PORT_STAT_UP (u / 8) (d.base u) false).unitEvent F.LU_HOST_EVT_PORT_DOWN u 0x25 0 0
  else d

/-- The source that R225 selects for a unit's HOST_TX lane. -/
def Dev.htxWanted (d : Dev) (u : Nat) : Nat :=
  if !(d.mapped u) || !(d.inPort u) || !(d.is F.LU_BU_CTRL_EN u) || (d.region (u / 32)).inReset then 0
  else if (d.unit u).host.fill then 2
  else if d.is F.LU_LINE_FRAME_RX_QUIET u then 0
  else if d.portUp (d.portOf u) then 3
  else 1

/-- Tokens by which SPLIT delays the line-bound stream, N_TX of SPLIT less that of DIRECT (R159), and the stream to HOST_TX, the
91,730 ps of R158 as a whole number of tokens. DESIGN CHOICE, log entry 51. -/
def splitTx : Nat := 147
def splitRx : Nat := 144

/-- A unit's port runs SPLIT. -/
def Dev.split (d : Dev) (u : Nat) : Bool := d.inPort u && d.splitMode u

/-- Bit time at HOST_TX of the marker that the receive direction expects next: after the deskew of R224 and the delay of
SPLIT; none: no marker is known. -/
def Dev.htxMark (d : Dev) (u : Nat) : Option Nat :=
  (d.unit u).rx.mark.map (fun m => m + d.get F.LU_HOST_STAT_LINE_DLY u + (if d.split u then 136 * splitRx else 0))

/-- Bit time of a marker of the HOST_TX grid of a unit's port: that of the last payload, else the port's own (R226). -/
def Dev.grid (d : Dev) (u : Nat) : Nat := ((d.cluster (u / 8)).grids.find (d.base u)).getD (Config.ownGrid (d.portOf u))

/-- Port p takes the grid of its payload: that of its lanes after deskew (R226). -/
def Dev.takeGrid (d : Dev) (p : Nat) : Dev :=
  match (d.portUnits p).findSome? d.htxMark with
  | some m => d.onCluster (p / 8) (fun x => { x with grids := x.grids.insert (p % 8) (m % amPeriod) })
  | none => d

/-- Changes a lane's HOST_TX source and FAULT_TX of its port (R225, R240). -/
def Dev.setHtx (d : Dev) (u src : Nat) : Dev :=
  let d := d.put F.LU_HOST_STAT_HTX_SRC u src
  if d.inPort u then
    d.putBit F.CL_PORT_STAT_FAULT_TX (u / 8) (d.base u)
      ((d.portUnits (d.portOf u)).any (fun v => decide (d.get F.LU_HOST_STAT_HTX_SRC v = 1)))
  else d

/-! The tap pool -/

/-- Allocation parameters of a cluster (R98, R129) and T of R99. -/
def Dev.dense (d : Dev) (c : Nat) : Nat := 16 * d.get F.CL_RB_ALLOC_DENSE_TAPS c
def Dev.wins (d : Dev) (c : Nat) : Nat := d.get F.CL_RB_ALLOC_WIN_COUNT c
def Dev.nexts (d : Dev) (c : Nat) : Nat := d.get F.CL_RB_ALLOC_NEXT_TAPS c
def Dev.slotsT (d : Dev) (c : Nat) : Nat := d.dense c + 48 * d.wins c + 7 * d.nexts c

/-! Windows have keys: base window w has key w, the j-th extra block that the unit holds has key 8 + j, a probe key 12
(R128). -/

/-- First slot of a window (R99). -/
def Dev.winSlot (d : Dev) (u key : Nat) : Option Nat :=
  let c := u / 8
  if key < 8 then
    (if key < d.wins c then some (d.slotsT c * (u % 8) + d.dense c + 48 * key) else none)
  else ((d.unit u).canc.blocks[key - 8]?).map (fun b => 8 * d.slotsT c + 48 * b)

/-- A window's report in the format of LU_RB_WIN; windows 0 to 3 and the extra ones stand in the registers (R128). -/
def Dev.winWord (d : Dev) (u key : Nat) : Word :=
  if key < 4 then d.word ((F.LU_RB_WIN_STATE key).addr u)
  else if key < 8 ∨ 12 ≤ key then ((d.unit u).canc.more.find key).getD 0xFFF
  else d.word ((F.LU_RB_WIN_STATE (key - 4)).addr u)

/-- Writes a window's report, and WIN_ACTIVE of a base window (R125, R128). -/
def Dev.setWinWord (d : Dev) (u key : Nat) (w : Word) : Dev :=
  if key < 4 then
    (d.setWord ((F.LU_RB_WIN_STATE key).addr u) w).putBit F.LU_RB_STAT_WIN_ACTIVE u key (decide (2 ≤ bitsOf w 31 30))
  else if key < 8 ∨ 12 ≤ key then d.onUnit u (fun x => { x with canc := { x.canc with more := x.canc.more.insert key w } })
  else d.setWord ((F.LU_RB_WIN_STATE (key - 4)).addr u) w

/-- The report of a parked window. -/
def parkedWord : Word := 0xFFF

/-- Zeroes n pool slots from a first one: valid words again, and no gradient formed before reaches them (R25, R97). -/
def Dev.zeroSlots (d : Dev) (c first n : Nat) : Dev :=
  let d := (d.mendSlots c first n).onCluster c (fun x =>
    { x with pool := x.pool.filter (fun e => decide (e.1 < first) || decide (first + n ≤ e.1)) })
  d.each ((unitsOf c).filter (fun u => !((d.unit u).canc.grads.isEmpty))) (fun d u => d.onUnit u (fun x => { x with
    canc := { x.canc with grads := x.canc.grads.filter (fun g => decide (g.2.1 < first ∨ first + n ≤ g.2.1)) } }))

/-- State of a window: 0 PARKED, 1 SURVEY, 2 PLACED, 3 LOCKED. -/
def Dev.winState (d : Dev) (u key : Nat) : Nat := bitsOf (d.winWord u key) 31 30

/-- Start of a window. -/
def Dev.winStart (d : Dev) (u key : Nat) : Nat := bitsOf (d.winWord u key) 23 12

/-- Peak delay of a window (R112). -/
def Dev.winPeak (d : Dev) (u key : Nat) : Nat := d.winStart u key + bitsOf (d.winWord u key) 29 24

/-- The keys of the windows a unit has: base windows and the extra blocks it holds. -/
def Dev.winKeys (d : Dev) (u : Nat) : List Nat :=
  List.range (d.wins (u / 8)) ++ (List.range (d.unit u).canc.blocks.length).map (· + 8)

/-- The windows of a unit that are PLACED or LOCKED. -/
def Dev.placedKeys (d : Dev) (u : Nat) : List Nat := (d.winKeys u).filter (fun k => decide (2 ≤ d.winState u k))

/-- The codes of n pool slots from a first one. -/
def Dev.taps (d : Dev) (c first n : Nat) : List Int :=
  let p := (d.cluster c).pool.filter (fun e => decide (first ≤ e.1 ∧ e.1 < first + n))
  if p = [] then List.replicate n 0 else (List.range n).map (fun k => ((NMap.find p (first + k)).getD 0).toInt)

/-- The taps of a window; none where it has no slots. -/
def Dev.winTaps (d : Dev) (u key : Nat) : List Int :=
  match d.winSlot u key with
  | some s => d.taps (u / 8) s 48
  | none => []

/-- What a unit's echo sections and survey records show (R258, R259). -/
def Dev.sections (d : Dev) (u : Nat) : List Section :=
  let c := u / 8
  let record (src : Nat) (r : SurveyRec) : Section := { src := src, start := r.delay, taps := [], energy := r.energy }
  { src := 0, start := 0, taps := d.taps c (d.slotsT c * (u % 8)) (d.dense c) } ::
    ((d.placedKeys u).map (fun k => { src := if k < 8 then 1 else 2, start := d.winStart u k, taps := d.winTaps u k }) ++
      (d.unit u).canc.parkedRecs.map (record 3) ++ (d.unit u).canc.denied.map (record 4))

/-- A map without one window's entry; later extra windows move up one place. -/
def dropKey {α : Type} (m : NMap α) (key : Nat) : NMap α :=
  (m.filter (fun e => e.1 ≠ key)).map (fun e => if key < e.1 ∧ 8 ≤ key then (e.1 - 1, e.2) else e)

/-- Returns an extra block: its slots are zeroed, the return is noted with its REFA count; later extra windows move up one
place (R102, R128). -/
def Dev.returnBlock (d : Dev) (u b : Nat) : Dev :=
  let c := u / 8
  let j := (d.unit u).canc.blocks.findIdx (· = b)
  let d := d.each (List.range (3 - j)) (fun d i => d.setWinWord u (8 + j + i) (d.winWord u (9 + j + i)))
  let d := d.setWinWord u 11 parkedWord
  let d := d.onUnit u (fun x => { x with canc := { x.canc with
    blocks := x.canc.blocks.filter (· ≠ b), outRuns := dropKey x.canc.outRuns (8 + j)
    lowRuns := dropKey x.canc.lowRuns (8 + j), fresh := dropKey x.canc.fresh (8 + j)
    winAt := dropKey x.canc.winAt (8 + j), winRec := dropKey x.canc.winRec (8 + j) } })
  let now := d.refa
  let d := d.onCluster c (fun x => { x with returned := x.returned.insert b now })
  let d := d.zeroSlots c (8 * d.slotsT c + 48 * b) 48
  let d := d.put F.CL_RB_POOL_BLOCKS_HELD c (d.get F.CL_RB_POOL_BLOCKS_HELD c - 1)
  d.put F.LU_RB_STAT_EXTRA_HELD u (d.unit u).canc.blocks.length

/-- The probe is given back (R114). -/
def Dev.probeOff (d : Dev) (u : Nat) : Dev :=
  match (d.unit u).canc.probe with
  | none => d
  | some b =>
    let d := d.zeroSlots (u / 8) (8 * d.slotsT (u / 8) + 48 * b) 48
    d.onUnit u (fun x => { x with canc := { x.canc with
      probe := none, more := x.canc.more.erase 12, winAt := x.canc.winAt.erase 12 } })

/-- A unit whose rescan runs leaves G4: its rescan ends and nothing is placed; the next lane's turn may come (R114). DESIGN
CHOICE, log entry 53. -/
def Dev.rescanLost (d : Dev) (u : Nat) : Dev :=
  if (d.cluster (u / 8)).rescan = some (u % 8) then
    ((d.probeOff u).onUnit u (fun x => { x with canc := { x.canc with probeRecs := [] } })).onCluster (u / 8)
      (fun x => { x with rescan := none })
  else d

/-- Zeroes a unit's echo sections, returns its blocks and parks its windows; gear G0; FFE, DFE, level and the timing loop start
from zero, at the reference phase (R91, R102, R116, R143, R144). DESIGN CHOICE, log entry 50, for the level and the loop. -/
def Dev.zeroEcho (d : Dev) (u : Nat) : Dev :=
  let c := u / 8
  let d := (d.probeOff u).zeroSlots c (d.slotsT c * (u % 8)) (d.dense c + 48 * d.wins c)
  let d := d.each (d.unit u).canc.blocks (fun d b => d.returnBlock u b)
  let d := d.each (List.range 12) (fun d n => d.setWinWord u n parkedWord)
  let d := (d.put F.LU_RB_STAT_GEAR u 0).put F.LU_RB_STAT_WARM u 0
  let d := (d.put F.LU_RX_STAT_DFE_H1 u 0).put F.LU_RX_STAT_FREQ_OFF u 0
  let now := d.refa
  d.onUnit u (fun x => { x with
    rx := { x.rx with
      ffe := [0, 0, 0, 0, 0, 0, 0, 0, 0, 0, 0], h1Low := 0, coarse := 262144, level := 1048576, steps := [], integ := 0, accum := 0 }
    canc := { x.canc with
      survey := [], probeRecs := [], denied := [], parkedRecs := [], outRuns := [], lowRuns := [], fresh := [], more := []
      winAt := [], winRec := [], noSurvey := false, g2Done := false, gearAt := now, shortG3 := false, phiRef := x.canc.phase } })

/-- Zeroes the NEXT cancellers with unit u as victim (R99, R116). -/
def Dev.zeroNext (d : Dev) (u : Nat) : Dev :=
  let c := u / 8
  d.zeroSlots c (d.slotsT c * (u % 8) + d.dense c + 48 * d.wins c) (7 * d.nexts c)

/-! Transmit FIR presets -/

/-- The taps of a preset as LU_TX_FIR holds them (R162). -/
def presetWord (p : Nat) : Word :=
  let mk (m2 m1 c0 p1 p2 : Int) : Word :=
    BitVec.ofNat 32 (code p2 6 * 2 ^ 25 + code p1 6 * 2 ^ 19 + code c0 7 * 2 ^ 12 + code m1 6 * 2 ^ 6 + code m2 6)
  if p = 1 then mk 0 0 64 0 0 else if p = 2 then mk 0 (-4) 56 (-4) 0 else if p = 3 then mk 0 (-6) 50 (-8) 0
  else if p = 4 then mk 2 (-10) 44 (-8) 0 else mk 0 (-4) 52 (-8) 0

/-- Loads a preset and discards any buffered LU_TX_FIR value (R169, R175). -/
def Dev.loadPreset (d : Dev) (u p : Nat) : Dev :=
  let a := F.LU_TX_FIR_C0.addr u
  { (d.report a (presetWord p)) with
    buffered := d.buffered.erase a
    hub := { d.hub with xw := d.hub.xw.map (fun l => l.filter (fun e => e.1 ≠ a)) } }

/-! Runs of a cluster that a unit's events end -/

/-- A unit's receive direction is in data mode and not quiet (R255). -/
def Dev.rxData (d : Dev) (u : Nat) : Bool :=
  decide (d.get F.LU_LINE_FRAME_RX_FMT u = 2) && !(d.is F.LU_LINE_FRAME_RX_QUIET u)

/-- Result of a multi-unit operation from the lanes that gave none (R379). -/
def multiResult (failed all : Nat) : Nat := if failed = 0 then 0 else if failed < all then 5 else 1

/-- A bit mask of lanes. -/
def laneMask (ls : List Nat) : Nat := (ls.eraseDups).foldl (fun n l => n + 2 ^ l) 0

/-- Ends a run's operation over lanes: DETAIL as R377 gives it for DIAG and MSCAN, CANCELLED or TIMEOUT where a cancel
or the limit waits (R378, R381). -/
def Dev.endMulti (d : Dev) (slot lanes : Nat) : Dev :=
  match d.entry slot with
  | none => d
  | some e => d.complete slot (if e.late then 4 else if e.cancel then 2 else multiResult e.failed.eraseDups.length lanes)
      (BitVec.ofNat 32 (laneMask (e.failed ++ e.odd) * 256 + laneMask e.noted))

/-- Lanes an operation's target covers. -/
def targetLanes (t : Target) : List Nat :=
  match t with
  | .unit u => [u.val % 8]
  | .port p => [p.val % 8]
  | _ => List.range 8

/-- Writes LU_MS_STAT at the end of a unit's scan, with MS_DONE (R257, R271). -/
def Dev.scanStat (d : Dev) (u : Nat) (s : ScanSt) (reason : Nat) : Dev :=
  let d := (d.put F.LU_MS_STAT_TARGET u s.target).put F.LU_MS_STAT_REASON u reason
  let d := (d.put F.LU_MS_STAT_MODE u s.mode).put F.LU_MS_STAT_DW u s.dw
  (d.wrap F.LU_MS_STAT_SEQ u 1).put F.LU_MON_EVT_MS_DONE u 1

/-- Why a scan cannot run on a unit (R255, R257): 0 when it can. -/
def Dev.scanRefusal (d : Dev) (u : Nat) : Nat :=
  if d.tst .lu u || d.off .lu u 0 || d.bit F.RG_PWR_STAT_CL_DOZE (u / 32) (u / 8 % 4) then 4
  else if d.is F.LU_LINE_FRAME_RX_QUIET u then 2
  else if d.get F.LU_LINE_FRAME_RX_FMT u ≠ 2 then 1 else 0

/-- A multi-unit operation shows its share done: lanes still to do of those it covers (R378, R383). -/
def Dev.showLeft (d : Dev) (slot left : Nat) : Dev :=
  d.onEntry slot (fun e =>
    let n := (targetLanes e.target).length
    { e with progress := min 255 (256 * (n - left) / n) })

/-- A cancel waits for the unit of an entry in progress (R381). -/
def Dev.cut (d : Dev) (slot : Nat) : Bool := ((d.entry slot).map (·.cancel)).getD false

/-- The spare receive channel serves unit u: it copies the unit's CTLE peaking, VGA gain and receive phase (R440). -/
def Dev.spareServes (d : Dev) (u : Nat) : Dev :=
  let x := d.unit u
  let gain := d.get F.LU_RX_STAT_VGA u
  d.onCluster (u / 8) (fun y => { y with spCtle := x.ctle, spVga := gain, spPhase := x.canc.phase })

/-- Takes the first lane of a scan that can be scanned; one that cannot ends at once with its reason. With none left, or cancelled,
the scan's operation ends (R256, R257). -/
def Dev.scanTake (d : Dev) (c : Nat) (s : ScanSt) : List Nat → Dev
  | [] => d.endMulti s.slot (((d.entry s.slot).map (fun e => (targetLanes e.target).length)).getD 8)
  | l :: ls =>
    let u := 8 * c + l
    if d.cut s.slot then d.endMulti s.slot (((d.entry s.slot).map (fun e => (targetLanes e.target).length)).getD 8)
    else if d.scanRefusal u = 0 then
      ((d.onCluster c (fun x => { x with scan := some { s with lane := l, todo := ls, pts := [] } })).onEntry s.slot
        (fun e => { e with stepNo := l })).spareServes u
    else
      Dev.scanTake (((d.scanStat u s (d.scanRefusal u)).onEntry s.slot (fun e => { e with failed := e.failed ++ [l] })).showLeft
        s.slot ls.length) c s ls

/-- The first of the waiting scans that has a lane to scan takes the spare receive channel; those before it end. -/
def Dev.scanQueue (d : Dev) (c : Nat) : List ScanSt → Dev
  | [] => d.onCluster c (fun x => { x with scanWait := [] })
  | s :: q =>
    let d := (d.onCluster c (fun x => { x with scanWait := q })).scanTake c s s.todo
    if (d.cluster c).scan.isSome then d else Dev.scanQueue d c q

/-- The spare receive channel has voted READY in an open DOZE transaction: it refuses new runs (R412). -/
def Dev.spareStopped (d : Dev) (c : Nat) : Bool :=
  (d.cluster c).txn.any (fun t => t.votes.any (fun e => decide (e = (.spare, .ready))))

/-- The spare receive channel is free: a calibration run that waits goes ahead, else the scan that has waited longest (R256). DESIGN
CHOICE, log entry 71, for the order. -/
def Dev.channelFree (d : Dev) (c : Nat) : Dev :=
  if d.spareStopped c then d
  else match (d.cluster c).cal with
  | some r =>
    if r.waiting then
      let now := d.refa
      ((d.onCluster c (fun x => { x with cal := some { r with waiting := false, startAt := now } })).put
        F.CL_CAL_STAT_STATE c 1).spareServes (8 * c + (r.todo.head?).getD 0)
    else d
  | none => d.scanQueue c (d.cluster c).scanWait

/-- The unit of a scan in progress is done: its scan waits for the channel with the lanes that are left (R256). -/
def Dev.scanNext (d : Dev) (c : Nat) (s : ScanSt) : Dev :=
  ((d.showLeft s.slot s.todo.length).onCluster c (fun x => { x with
    scan := none, scanWait := x.scanWait ++ [{ s with pts := [] }] })).channelFree c

/-- Ends the scan of unit u with a reason, when it is the unit being scanned; the next unit goes ahead (R257). -/
def Dev.scanEnd (d : Dev) (u reason : Nat) : Dev :=
  match (d.cluster (u / 8)).scan with
  | none => d
  | some s =>
    if s.lane = u % 8 then
      ((d.scanStat u s reason).onEntry s.slot (fun e => { e with failed := e.failed ++ [u % 8] })).scanNext (u / 8) s
    else d

/-- Writes MODE, REASON and SEQ of a unit's diagnostic result (R265, R274). -/
def Dev.diagStat (d : Dev) (u mode reason : Nat) : Dev :=
  let c := u / 8
  let l := u % 8
  ((d.put (F.CL_DIAG_U_MODE l) c mode).put (F.CL_DIAG_U_REASON l) c reason).wrap (F.CL_DIAG_U_SEQ l) c 1

/-- Abandons a cluster's diagnostic run at a cluster start (R265, reason 4). -/
def Dev.diagAbandon (d : Dev) (c : Nat) : Dev :=
  match (d.cluster c).diag with
  | none => d
  | some r =>
    let ls := (if r.mode = 4 then r.todo else r.lane :: r.todo)
    let d := d.each ls (fun d l => (d.diagStat (8 * c + l) r.mode 4).onEntry r.slot
      (fun e => { e with failed := e.failed ++ [l] }))
    let n := ((d.entry r.slot).map (fun e => (targetLanes e.target).length)).getD 8
    (d.onCluster c (fun x => { x with diag := none })).endMulti r.slot n

/-- Writes LU_CAL_STAT of the units that took no part: SKIPPED (R469). -/
def Dev.calSkipped (d : Dev) (c : Nat) : Dev :=
  d.each (unitsOf c) (fun d u =>
    if bitOf (d.get F.CL_CAL_STAT_PART c) (u % 8) then d
    else d.report (F.LU_CAL_STAT_SKIPPED.addr u) 0xFFFF0001)

/-- LU_CAL_STAT of the unit in turn (R455, R469). -/
def CalRun.turnWord (r : CalRun) (verifyFail : Bool) : Word :=
  BitVec.ofNat 32 (min r.skewRms 255 * 2 ^ 24 + min r.ofsRms 255 * 2 ^ 16 + min r.passes 15 * 2 ^ 12 +
    b2n verifyFail * 16 + b2n r.limit * 4 + b2n r.noConv * 2)

/-- Abandons the run of cluster c with a reason (R457, R458): trims restored, the unit handed back, nothing stored. Of the
units listed, the one in turn is reported as far as its turn went, those after it as without a turn (R469). -/
def Dev.calAbandon (d : Dev) (c reason : Nat) : Dev :=
  match (d.cluster c).cal with
  | none => d
  | some r =>
    let now := d.time
    let d := match r.todo with
      | l :: ls =>
        let w := if r.stage < 2 then (0xFFFF0000 : Word) else r.turnWord false
        let d := (d.put F.LU_RB_STAT_ALLEY (8 * c + l) 0).report (F.LU_CAL_STAT_SKIPPED.addr (8 * c + l)) w
        d.each ls (fun d m => d.report (F.LU_CAL_STAT_SKIPPED.addr (8 * c + m)) 0xFFFF0000)
      | [] => d
    let d := d.onCluster c (fun x => { x with cal := none, trims := r.start, retry := true, held := true, lastEnd := now })
    let d := { d with hub := { d.hub with commits := d.hub.commits.filter (· ≠ c) } }
    let d := (d.put F.CL_CAL_STAT_REASON c reason).put F.CL_CAL_STAT_STATE c 4
    let d := (d.bump F.CL_CAL_RUNS_ABANDONED c 1).calSkipped c
    let d := d.put F.CAL_STAT_RUNNING 0 (d.get F.CAL_STAT_RUNNING 0 - 1)
    let d := d.each (r.slot.toList ++ r.followers)
      (fun d s => d.complete s (if reason = 9 then 2 else 1) (BitVec.ofNat 32 reason))
    (d.channelFree c).raise ⟨0x68, .package 0, 256, 0⟩

/-- Ends the scans of a cluster in a reset: the unit being scanned with reason 3, the lanes that wait as lanes that are off (R257). -/
def Dev.scansOver (d : Dev) (c : Nat) : Dev :=
  let d := match (d.cluster c).scan with
    | none => d
    | some s => d.scanEnd (8 * c + s.lane) 3
  d.scanQueue c (d.cluster c).scanWait

/-- A unit's receive direction has left data mode or gone quiet: its scan ends. A calibration run that has handed it over loses its
signal at once, also after the handback; one whose turn it is and that has not, at the end of its check (R257, R450, R458, R460). -/
def Dev.rxGone (d : Dev) (u scanReason : Nat) : Dev :=
  let d := d.scanEnd u scanReason
  match (d.cluster (u / 8)).cal with
  | some r =>
    let listed := bitOf (d.get F.CL_CAL_STAT_PART (u / 8)) (u % 8)
    if r.away && decide (r.todo.head? = some (u % 8)) || listed && !(r.todo.contains (u % 8)) then d.calAbandon (u / 8) 7
    else if r.todo.head? ≠ some (u % 8) then d
    else d.onCluster (u / 8) (fun x => { x with cal := some { r with acc := { r.acc with live := false } } })
  | none => d

/-! Attempts -/

/-- Sets the count of free draws. -/
def Dev.setDraws (d : Dev) (n : Nat) : Dev := { d with draws := n }

/-- What starts an attempt, as R175 groups the causes. -/
inductive Cause where
  /-- EN set to 1; a cluster start. -/
  | fresh
  /-- Loss of lock, RETRAIN during an attempt or in data mode, an accepted announcement. -/
  | relock
  /-- The end of a backoff, RETRAIN during BACKOFF or DOWN, CLR_FAIL in DOWN. -/
  | comeback
  deriving DecidableEq, Repr

/-- The start preset (R175). -/
def Dev.startPreset (d : Dev) (u : Nat) : Nat :=
  if 3 ≤ d.get F.LU_BU_STAT_FAIL_CNT u then 5 else d.get F.LU_BU_CFG_START_PRESET u

/-- The transmitter is in data mode, QUIET or hold, so a retrain is announced first (R197). -/
def announces (t : TxMode) : Bool :=
  match t with
  | .data | .quietNotice | .quiet | .holdNotice | .hold | .resume => true
  | _ => false

/-- The random source's next 58-bit state; the all-zero state is rejected (R62). -/
def freshScr (n : Nat) : BitVec 58 := if Config.randomState n = 0 then 1 else Config.randomState n

/-- Enters a bring-up state (R176); until an announcement has been sent STATE goes on reading RETRAIN (R197). -/
def Dev.enter (d : Dev) (u st : Nat) : Dev :=
  let now := d.refa
  (if d.get F.LU_BU_STAT_STATE u = 14 then d else d.put F.LU_BU_STAT_STATE u st).onUnit u
    (fun x => { x with reached := st, stateAt := now, waited := 0 })

/-- The transmitter sends without precoding (R51). -/
def Dev.plainTx (d : Dev) (u : Nat) : Dev := (d.put F.LU_LINE_FRAME_TX_PRECODE u 0).onUnit u (fun x => { x with txPrev := 0 })

/-- The announcement has been sent: training frames follow, not precoded, with a fresh scrambler state; STATE reads the state reached
(R51, R62, R197). -/
def Dev.announced (d : Dev) (u : Nat) : Dev :=
  let n := d.draws
  let d := (d.plainTx u).put F.LU_BU_STAT_STATE u (d.unit u).reached
  (d.onUnit u (fun x => { x with tx := .training, txBlock := 0, scr := freshScr n })).setDraws (n + 1)

/-- A unit loses lock during its SWEEP: the sweep ends there, the probe is given back, and the sections are kept as they stand for
the result (R265, reason 3). -/
def Dev.sweepLost (d : Dev) (u : Nat) : Dev :=
  match (d.cluster (u / 8)).diag with
  | none => d
  | some r =>
    if r.mode = 3 ∧ r.lane = u % 8 ∧ r.reason = 0 then
      let now := d.sections u
      (d.probeOff u).onCluster (u / 8)
        (fun x => { x with diag := some { r with reason := 3, taken := r.taken.insert (u % 8) now } })
    else d

/-- What the receiver holds of a lock, of the frames and of the markers, at the loss of header lock (R67, R180 to R183). -/
def RxSt.unlocked (x : RxSt) : RxSt :=
  { x with
    hdrRun := 0, ctl := (0, 0), descrOk := false, badBlocks := 0, fromZero := false, frameAt := none, plain4 := 0, coded4 := 0
    bodies := [], notice := (0, 0, 0), dataAt := none, resume := none, mark := none, markBits := [], marks := [], place := none }

/-- Ends what a unit knows of the far end and every exchange: at the start and the end of each attempt (R173, R186). The precoding of
its transmitter stays for the announcement (R51). -/
def Dev.forgetFar (d : Dev) (u : Nat) : Dev :=
  let d := (((d.rescanLost u).sweepLost u).lineGone u).put F.LU_BU_STAT_FAR_READY u 0
  let d := d.put F.LU_BU_STAT_RX_READY u 0
  let d := (d.put F.LU_BU_STAT_SEARCH_DONE u 0).put F.LU_LINE_FRAME_HDR_LOCK u 0
  let d := (d.put F.LU_LINE_FRAME_DESCR_LOCK u 0).put F.LU_LINE_FRAME_RX_FMT u 0
  let d := (d.put F.LU_LINE_FRAME_PORT_MISMATCH u 0).put F.LU_LINE_FRAME_FAR_PRECODE u 0
  let d := ((d.put F.LU_LINE_FRAME_RX_QUIET u 0).put F.LU_LINE_FRAME_TX_QUIET u 0).put F.LU_LINE_FRAME_TX_HOLD u 0
  let d := ((d.put F.LU_RX_STAT_TR_LOCK u 0).put F.LU_RX_STAT_LOOP_TIMED u 0).put F.LU_RX_LQI_LQI u 0xFFFF
  (d.put F.LU_RX_LAT_LAT u 0).onUnit u (fun x => { x with
    far := {}, co := {}, srch := {}, srchWas := {}, hdrOffset := 0, hdrWin := [], lostHold := false, rehunt := false
    resumed := false, rx := { x.rx.unlocked with varLow := 0, varHigh := 0, trSeen := false }
    host := { x.host with fill := false } })

/-- Starts an attempt of a DUPLEX unit (R173, R175, R197). `whole`: the start is a cluster start. A transmitter in data mode
goes on with its payload until the announcement does not meet a marker. A warm start that falls in G1 leaves its windows in SURVEY, as
they stand. DESIGN CHOICE, log entry 81. -/
def Dev.attempt (d : Dev) (u : Nat) (why : Cause) (whole : Bool) : Dev :=
  let ann := announces (d.unit u).tx
  let many := decide (3 ≤ d.get F.LU_BU_STAT_FAIL_CNT u)
  let cold := decide (why ≠ .relock) || d.is F.LU_RB_CTRL_FORCE_COLD u || many
  let d := (d.rxGone u (if whole then 3 else 1)).portFail u
  let d := (d.forgetFar u).wrap F.LU_BU_STAT_ATTEMPTS u 1
  let d := if ann then d else d.plainTx u
  let d := (d.put F.LU_RB_CTRL_FORCE_COLD u 0).put F.LU_RX_STAT_PRECODE_WANT u 0
  let d := if decide (why ≠ .relock) || many then d.loadPreset u (d.startPreset u) else d
  let d := if cold then
      let d := (d.zeroEcho u).put F.LU_LINE_FRAME_RX_INV u 0
      let d := (d.put F.LU_RX_STAT_VGA_HELD u 0).put F.LU_RX_STAT_TR_ACQ u 0
      let pk := d.get F.LU_RX_CFG_CTLE_PEAK u
      d.onUnit u (fun x => { x with ctle := pk })
    else
      let now := d.refa
      let d := d.onUnit u (fun x => { x with
        rx := { x.rx with coarse := 0 }, canc := { x.canc with g2Done := false, shortG3 := false, gearAt := now } })
      ((d.put F.LU_RB_STAT_GEAR u 2).put F.LU_RB_STAT_WARM u 1).put F.LU_RX_STAT_TR_ACQ u 1
  let st := if cold then 1 else 2
  let n := d.draws
  let now := d.refa
  let shed := d.is F.RG_PACE_STAT_SHED (u / 32)
  let d := d.onUnit u (fun x => { x with
    cold := cold, reached := st, attemptAt := now, stateAt := now, waited := 0, double := shed, mute := false
    tx := if ann then (if x.tx = .data then .data else .announce) else .training
    txWant := if ann = true ∧ x.tx = .data then some .announce else none
    txLeft := 24, txBlock := 0, scr := if ann then x.scr else freshScr n
    canc := { x.canc with nextUntilLock := !whole, slow := shed } })
  (d.put F.LU_BU_STAT_STATE u (if ann then 14 else st)).setDraws (n + 1)

/-- Starts an attempt of a unit, by the standard's training in SIMPLEX (R206). -/
def Dev.startUnit (d : Dev) (u : Nat) (why : Cause) (whole : Bool) : Dev :=
  if d.duplex (u / 8) then d.attempt u why whole
  else if u % 8 < 4 then
    let d := (d.rxGone u (if whole then 3 else 1)).portFail u
    let d := (((d.forgetFar u).plainTx u).wrap F.LU_BU_STAT_ATTEMPTS u 1).put F.LU_RB_CTRL_FORCE_COLD u 0
    let now := d.refa
    (d.put F.LU_BU_STAT_STATE u 11).onUnit u (fun x => { x with attemptAt := now, stateAt := now, mute := false })
  else d

/-- A warm attempt as a write of RETRAIN starts it (R205, R207): from BACKOFF or DOWN a cold one. -/
def Dev.retrainUnit (d : Dev) (u : Nat) : Dev :=
  let st := d.get F.LU_BU_STAT_STATE u
  if !(d.is F.LU_BU_CTRL_EN u) then d
  else if st = 17 ∨ st = 18 then d.startUnit u .comeback false
  else d.startUnit u .relock false

/-- A cluster start of R116: everything zeroed, every unit in G0, each enabled unit starts cold (R205). The first rescan is due one
period later (R114). DEDUCED, log entry 53. -/
def Dev.clusterStart (d : Dev) (c : Nat) : Dev :=
  let d := d.diagAbandon c
  let next := d.seconds + d.get F.CL_RB_CFG_RESCAN_PERIOD c
  let d := d.onCluster c (fun x => { x with silent := [], rescan := none, rescanTodo := [], rescanDue := next })
  let d := if d.duplex c then d.each (unitsOf c) (fun d u => (d.zeroEcho u).zeroNext u) else d
  d.each (unitsOf c) (fun d u => if d.is F.LU_BU_CTRL_EN u then d.startUnit u .fresh true else d)

/-- The backoff in µs after a failure: B + J (R202). -/
def backoffUs (base fails draw : Nat) : Nat :=
  let b := base * 2 ^ min (fails - 1) 10
  b * 1000 + Config.jitter draw % max 1 (250 * b)

/-- The first rule of R261: the port does not match, and the far unit names another unit of the same port. -/
def Dev.pairSwap (d : Dev) (u : Nat) : Bool :=
  let chk := (d.unit u).far.chk
  d.is F.LU_LINE_FRAME_PORT_MISMATCH u && d.inPort u && decide (chk % 4 = d.portNibble u % 4) &&
    decide (chk / 32 % 8 < d.width u ∧ chk / 32 % 8 ≠ u % 8 - d.base u)

/-- An attempt has failed (R201, R204): the echo sections are kept as they stand for the classification (R263), the backoff
or DOWN begins. Until the next attempt the unit's cancellers adapt on. DESIGN CHOICE, log entry 82. -/
def Dev.attemptFail (d : Dev) (u reason : Nat) : Dev :=
  let d := (d.rxGone u 1).portFail u
  let d := d.put F.LU_BU_STAT_LAST_REASON u reason
  let d := d.bump F.LU_BU_STAT_FAIL_CNT u 1
  let d := d.unitEvent F.LU_BU_EVT_TRAIN_FAIL u 0x38 0 (BitVec.ofNat 32 reason)
  let swap := d.pairSwap u
  let map := if d.duplex (u / 8) then d.sections u else []
  let d := (d.forgetFar u).plainTx u
  let d := d.onUnit u (fun x => { x with
    tx := .zero, txWant := none, lineOut := none, swapped := swap, canc := { x.canc with copy := some map }
    farFails := if reason = 1 ∨ reason = 9 then x.farFails else x.farFails + 1 })
  let n := d.get F.LU_BU_STAT_FAIL_CNT u
  let lim := d.get F.LU_BU_CFG_FAIL_LIMIT u
  if lim ≠ 0 ∧ lim ≤ n then
    (d.put F.LU_BU_STAT_STATE u 18).unitEvent F.LU_BU_EVT_UNIT_DOWN u 0x24 0 0
  else
    let us := backoffUs (d.get F.LU_BU_CFG_BO_BASE u) n d.draws
    let now := d.time
    let d := d.put F.LU_BU_STAT_STATE u 17
    let d := d.onUnit u (fun x => { x with
      lostHold := decide (reason = 9), boEnd := now + (us * 3125 + 7) / 8, holdEnd := now + 390625 })
    d.setDraws (d.draws + 1)

/-- Loss of lock in data mode: LOL, its count and its event (R86, R182, R247); the line-side deskew waits for the next switch
(R229). -/
def Dev.lossOfLock (d : Dev) (u : Nat) : Dev :=
  (((d.sweepLost u).lineGone u).addUnitCount u 0x450 1).unitEvent F.LU_LINE_EVT_LOL u 0x20 1 0

/-! HOST_RX locks -/

/-- The transmitter enters hold: HOST_RX lost its lock in data mode; the notice waits for a marker, a retrain goes ahead (R69, R71,
R230, R234). -/
def Dev.enterHold (d : Dev) (u : Nat) : Dev :=
  (d.put F.LU_LINE_FRAME_TX_HOLD u 1).onUnit u (fun x =>
    if x.txWant = some .announce then x else { x with txWant := some .holdNotice })

/-- A lane no longer holds AM lock in the sense of R68 and R71: hold from data mode, the port down (R230). -/
def Dev.amDrop (d : Dev) (u : Nat) : Dev :=
  let d := if (d.unit u).tx = .data then d.enterHold u else d
  d.portFail u

/-- A lane's unit is disabled or in reset: the HOST_RX deskew of its port is no longer set, and its other lanes hold no lock for R68
and R71 (R219, R223). -/
def Dev.laneGone (d : Dev) (u : Nat) : Dev :=
  let b := d.base u
  let was := d.inPort u && (d.cluster (u / 8)).hrxDsk.contains b
  let d := (d.onCluster (u / 8) (fun x => { x with hrxDsk := x.hrxDsk.filter (· ≠ b), hrxLate := x.hrxLate.erase b })).showDskOf u
  if was then d.each ((d.portUnits (d.portOf u)).filter (fun v => decide (v ≠ u))) Dev.amDrop else d

/-- EN becomes 0 (R174): the attempt ends uncounted, the transmitter drives zero, STATE reads DISABLED. GEAR stays, in SIMPLEX too.
DESIGN CHOICE, log entry 83. -/
def Dev.disableUnit (d : Dev) (u : Nat) : Dev :=
  let d := (d.rxGone u 1).portFail u
  let d := (((d.forgetFar u).plainTx u).put F.LU_BU_CTRL_EN u 0).put F.LU_BU_STAT_STATE u 0
  let now := d.refa
  let d := d.onUnit u (fun x => { x with
    tx := .zero, txWant := none, lineOut := none, quietAt := now
    host := { x.host with laneAm := false, firstAm := [], badAm := 0 } })
  let d := ((d.put F.LU_HOST_STAT_HRX_STATE u 0).put F.LU_HOST_STAT_AM_LOCK u 0).put F.LU_BU_STAT_HOST_AM u 0
  let d := (d.put F.LU_HOST_STAT_CDR_LOCK u 0).onCluster (u / 8) (fun x => { x with silent := x.silent.filter (· ≠ u % 8) })
  d.laneGone u

/-- Clears FAIL_CNT; LAST_REASON then reads 0, none since the last clear (R201, R204). DEDUCED, log entry 20. -/
def Dev.clearFails (d : Dev) (u : Nat) : Dev := (d.put F.LU_BU_STAT_FAIL_CNT u 0).put F.LU_BU_STAT_LAST_REASON u 0

/-- EN of a unit is being set: where no other unit of its port has EN = 1, the port runs its own grid until its first payload (R226).
DESIGN CHOICE, log entry 77. -/
def Dev.ownGrid (d : Dev) (u : Nat) : Dev :=
  let b := d.base u
  if (d.portUnits (d.portOf u)).any (fun v => decide (v ≠ u) && d.is F.LU_BU_CTRL_EN v) then d
  else d.onCluster (u / 8) (fun x => { x with grids := x.grids.erase b })

/-- EN goes from 0 to 1 (R174, R204, R218, R540): FAIL_CNT clears, an attempt starts, HOST_RX waits for its signal, HOST_TX runs the
port's own grid until its first payload (R226). -/
def Dev.enableUnit (d : Dev) (u : Nat) : Dev :=
  let d := (d.put F.LU_BU_CTRL_EN u 1).clearFails u
  let d := d.ownGrid u
  let d := if d.mapped u then
      let now := d.refa
      (d.put F.LU_HOST_STAT_HRX_STATE u (if d.is F.LU_HOST_STAT_SIGDET u then 2 else 1)).onHost u (fun x => { x with hrxAt := now })
    else d
  let d := if (d.start.heldUnits).contains u then
      { (d.putBit (F.SEC_BL_UNITS_BITS (u / 32)) 0 (u % 32) false) with
          start := { d.start with heldUnits := d.start.heldUnits.filter (· ≠ u) } }
    else d
  if d.tst .lu u then (d.put F.LU_BU_STAT_STATE u 19).onUnit u (fun x => { x with testKept := false })
  else d.startUnit u .fresh false

end Sys2Proof.Machine
end

