-- ==== Sys2Proof/Machine/Cancel.lean ====
section
/-! DEFINITION. The cancellers: freezing, adaptation, gears, windows, blocks, surveys and rescans (R88 to R133). -/

namespace Sys2Proof.Machine

/-! Freezing (R95, R116, R118) -/

/-- The rules of R118 and R202 freeze the cancellers for aggressor m: it is quiet, in backoff, under test, in reset, or has not
trained since its reset. -/
def Dev.silentAggressor (d : Dev) (m : Nat) : Bool :=
  decide ((d.unit m).tx = .quiet) || decide (d.get F.LU_BU_STAT_STATE m = 17) || d.tst .lu m || (d.unit m).inReset ||
    (d.unit m).mute

/-- The echo sections of a unit are frozen by R118. -/
def Dev.echoFrozen (d : Dev) (u : Nat) : Bool := d.tst .lu u

/-- AUTO_FRZ_NEXT (R125): some NEXT canceller with unit u as victim is frozen by R116 or R118. -/
def Dev.nextFrozen (d : Dev) (u : Nat) : Bool :=
  d.duplex (u / 8) &&
    ((d.unit u).canc.nextUntilLock || (unitsOf (u / 8)).any (fun m => decide (m ≠ u) && d.silentAggressor m))

/-- The j-th other lane of a cluster, in ascending order (R99). -/
def otherLane (l j : Nat) : Nat := if j < l then j else j + 1

/-- A unit's echo cancellers, and the NEXT cancellers of a cluster, that have stopped for a sleep transaction: their member has voted
READY (R412). -/
def Dev.stoodDown (d : Dev) (u : Nat) : Bool :=
  (d.cluster (u / 8)).txn.any (fun t => t.votes.contains (.unit (Fin.ofNat 256 u), .ready))
def Dev.nextDown (d : Dev) (c : Nat) : Bool := (d.cluster c).txn.any (fun t => t.votes.contains (.crosstalk, .ready))

/-- Whether a pool slot belongs to a canceller that is not frozen (R49, R95). -/
def Dev.slotAdapts (d : Dev) (c s : Nat) : Bool :=
  if d.duplex c then
    let t := d.slotsT c
    let dense := d.dense c
    let base := dense + 48 * d.wins c
    if t = 0 then false
    else if s < 8 * t then
      let u := 8 * c + s / t
      let r := s % t
      if r < dense then !(d.is F.LU_RB_CTRL_FREEZE_DENSE u) && !(d.echoFrozen u) && !(d.stoodDown u)
      else if r < base then
        decide (d.winState u ((r - dense) / 48) ≠ 0) && !(d.is F.LU_RB_CTRL_FREEZE_WIN u) && !(d.echoFrozen u) && !(d.stoodDown u)
      else
        let m := 8 * c + otherLane (s / t) ((r - base) / d.nexts c)
        !(d.is F.LU_RB_CTRL_FREEZE_NEXT u) && !((d.unit u).canc.nextUntilLock) && !(d.silentAggressor m) && !(d.nextDown c)
    else
      let b := (s - 8 * t) / 48
      (unitsOf c).any (fun u =>
        (decide ((d.unit u).canc.probe = some b) || (d.unit u).canc.blocks.contains b) &&
          !(d.is F.LU_RB_CTRL_FREEZE_WIN u) && !(d.echoFrozen u) && !(d.stoodDown u))
  else
    decide (s < 288) && decide (d.get F.LU_BU_STAT_STATE (8 * c + otherLane (s / 72) (s % 72 / 24)) = 10)

/-! Estimates (R89 to R92) -/

/-- An active canceller: its first slot and taps, the unit whose history it reads, its first delay, its class of R103 (0 dense,
1 window, 2 NEXT) and the key of a window. -/
structure Path where
  first : Nat
  n : Nat
  agg : Nat
  delay : Nat
  cls : Nat := 0
  key : Nat := 0
  deriving DecidableEq, Repr

/-- The unit whose history a unit's probe reads: in a SWEEP against an aggressor that aggressor, else the unit (R264). -/
def Dev.probeAgg (d : Dev) (u : Nat) : Nat :=
  match (d.cluster (u / 8)).diag with
  | some r => if r.mode = 3 ∧ r.lane = u % 8 ∧ r.against ≠ 0 then 8 * (u / 8) + otherLane (u % 8) (r.against - 1) else u
  | none => u

/-- The windows of a unit that are not parked, and its probe. -/
def Dev.winPaths (d : Dev) (u : Nat) : List Path :=
  let base := ((d.winKeys u).filter (fun k => decide (d.winState u k ≠ 0))).filterMap (fun k =>
    (d.winSlot u k).map (fun s => { first := s, n := 48, agg := u, delay := d.winStart u k, cls := 1, key := k }))
  match (d.unit u).canc.probe with
  | none => base
  | some b =>
    { first := 8 * d.slotsT (u / 8) + 48 * b, n := 48, agg := d.probeAgg u, delay := d.winStart u 12, cls := 1, key := 12 } :: base

/-- The active cancellers of a DUPLEX unit (R88, R95). -/
def Dev.paths (d : Dev) (u : Nat) : List Path :=
  let c := u / 8
  if d.dense c = 0 then []
  else
    let t := d.slotsT c * (u % 8)
    let next := (List.range 7).map (fun j =>
      { first := t + d.dense c + 48 * d.wins c + d.nexts c * j, n := d.nexts c, agg := 8 * c + otherLane (u % 8) j
        delay := d.get F.CL_RB_ALLOC_NX_OFF c, cls := 2 })
    { first := t, n := d.dense c, agg := u, delay := 0 } :: (d.winPaths u ++ next)

/-- Symbol time of the launch that returns at the site plane with the newest sample of a token: one loop delay earlier (R89),
moved by the whole symbols of the receive phase (R91). `route`: the fused part, in 1/8 symbol. DEDUCED, log entry 49. -/
def Dev.newestRef (d : Dev) (u tag route : Nat) : Int :=
  let x := (d.unit u).canc
  68 * (tag : Int) + 67 - (Config.sampleLag : Int) - (((d.cluster (u / 8)).loopDie + route) / 8 : Nat) +
    (phaseParts (x.phase - x.phiRef)).1

/-- One canceller's part of an estimate, on the transmit grid, newest first, for a newest reference (R89). -/
def Dev.pathOut (d : Dev) (c : Nat) (p : Path) (t : Int) : Option (List Int) :=
  let w := d.taps c p.first p.n
  if w.all (fun x => decide (x = 0)) then none
  else some (slide w 83 (histFrom (d.unit p.agg).canc (t - p.delay) (83 + p.n)))

/-- The estimate of echo and NEXT for the token of a tag, oldest sample first, in 2^-15 code: the sum of the active cancellers,
rotated to the receive phase (R91). -/
def Dev.estimate (d : Dev) (u tag route : Nat) : List Int :=
  let t := d.newestRef u tag route + 8
  let x := (d.unit u).canc
  let outs := (d.paths u).filterMap (fun p => d.pathOut (u / 8) p t)
  if outs.isEmpty then List.replicate 68 0
  else (rotate (phaseParts (x.phase - x.phiRef)).2 (outs.foldl plus (List.replicate 83 0))).reverse

/-! Adaptation (R94, R96, R97, R103) -/

/-- The exponents of the step sizes of R103: dense section, windows, NEXT cancellers. -/
def muDense (g : Nat) : Nat := ([6, 8, 10, 12, 15][g]?).getD 15
def muWin (g : Nat) : Nat := ([8, 8, 10, 12, 14][g]?).getD 14
def muNext (g : Nat) : Nat := ([6, 7, 9, 11, 14][g]?).getD 14

/-- One coefficient's update: gradient sum `num` over `den`, rounded by a free bit, clamped (R94, R96): the new code and
whether it clamped. -/
def coefStep (old : BitVec 16) (num den : Int) (up : Bool) : BitVec 16 × Bool :=
  let x := old.toInt + num / den + (if num % den ≠ 0 ∧ up = true then 1 else 0)
  (BitVec.ofInt 16 (clampInt (-32768) 32767 x), decide (x < -32768 ∨ 32767 < x))

/-- Updates the slots of one canceller from a first one by their gradient sums (R96); whether a coefficient clamped. -/
def Dev.adapt (d : Dev) (c first : Nat) (den : Int) : List Int → Bool × Dev
  | [] => (false, d)
  | g :: gs =>
    let st := coefStep (((d.cluster c).pool.find first).getD 0) g den (Config.roundUp d.draws)
    let d := (d.onCluster c (fun x => { x with pool := x.pool.setD first 0 st.1 })).setDraws (d.draws + 1)
    let r := Dev.adapt d c (first + 1) den gs
    (st.2 || r.1, r.2)

/-- Gradients reach the coefficients four tokens after the token that formed them (R97), those of a canceller frozen meanwhile too.
DESIGN CHOICE, log entry 79. A word written whole is poisoned no more (R490), a clamp sets SAT (R94). -/
def Dev.applyGrads (d : Dev) (u tag : Nat) : Dev :=
  let gs := (d.unit u).canc.grads
  if gs.isEmpty then d
  else
    let d := d.onUnit u (fun x => { x with canc := { x.canc with grads := gs.filter (fun g => decide (tag < g.1 + 4)) } })
    (gs.filter (fun g => decide (g.1 + 4 ≤ tag))).foldl (fun d g =>
      let r := d.adapt (u / 8) g.2.1 g.2.2.1 g.2.2.2
      let d := r.2.mendSlots (u / 8) g.2.1 g.2.2.2.length
      if r.1 then d.unitEvent F.LU_RB_EVT_SAT u 0x32 5 0 else d) d

/-- A gradient of one canceller is formed from a token: errors newest first, its reference history from its first delay on, the
step 2^-mu, `scale` the codes of a unit error times a unit reference (R96). DEDUCED, log entry 21. -/
def Dev.formGrad (d : Dev) (u tag first n mu : Nat) (scale : Int) (errs hist : List Int) : Dev :=
  d.onUnit u (fun x => { x with canc := { x.canc with
    grads := x.canc.grads ++ [(tag, first, 2 ^ mu * 68 * scale, slide errs n hist)] } })

/-- A canceller of a unit is frozen by software, by R116 and R118, or for a sleep transaction (R95, R412). -/
def Dev.pathFrozen (d : Dev) (u : Nat) (p : Path) : Bool :=
  if p.cls = 2 then d.is F.LU_RB_CTRL_FREEZE_NEXT u || (d.unit u).canc.nextUntilLock || d.silentAggressor p.agg || d.nextDown (u / 8)
  else (if p.cls = 1 then d.is F.LU_RB_CTRL_FREEZE_WIN u else d.is F.LU_RB_CTRL_FREEZE_DENSE u) || d.echoFrozen u || d.stoodDown u

/-- The step of a canceller in a gear: a probe outside G1, and a window that a rescan has just placed, step as in G3 (R103,
R114, R115). -/
def Dev.pathMu (d : Dev) (u g : Nat) (p : Path) : Nat :=
  if p.cls = 2 then muNext g
  else if p.cls = 0 then muDense g
  else if (p.key = 12 ∧ g ≠ 1) ∨ 0 < ((d.unit u).canc.fresh.find p.key).getD 0 then muWin 3 else muWin g

/-- Adaptation runs on a token of a tag: while SHED is set on even tags only (R154). -/
def Dev.adapts (d : Dev) (u tag : Nat) : Bool :=
  decide (d.get F.LU_RB_STAT_GEAR u ≤ 4) && !(d.is F.RG_PACE_STAT_SHED (u / 32) && decide (tag % 2 = 1))

/-- A token of a window that a rescan has placed has passed (R115). -/
def CancSt.age (x : CancSt) : CancSt :=
  { x with fresh := (x.fresh.map (fun e => (e.1, e.2 - 1))).filter (fun e => decide (0 < e.2)) }

/-- Every canceller of a DUPLEX unit that is not frozen forms its gradient from a token's errors, oldest first (R95 to R97, R103). -/
def Dev.formGrads (d : Dev) (u tag route : Nat) (errs : List Int) : Dev :=
  if !(d.adapts u tag) then d
  else
    let x := (d.unit u).canc
    let g := d.get F.LU_RB_STAT_GEAR u
    let t := d.newestRef u tag route
    let es := unrotate (phaseParts (x.phase - x.phiRef)).2 errs.reverse
    (d.paths u).foldl (fun d p => if d.pathFrozen u p then d
      else d.formGrad u tag p.first p.n (d.pathMu u g p) 16129 es (histFrom (d.unit p.agg).canc (t - p.delay) (68 + p.n))) d

/-- The cancellers of a DUPLEX unit adapt on a token's errors; the run of a window that a rescan has placed goes on (R115). -/
def Dev.adaptUnit (d : Dev) (u tag route : Nat) (errs : List Int) : Dev :=
  let d := d.formGrads u tag route errs
  if (d.unit u).canc.fresh.isEmpty then d else d.onCanc u CancSt.age

/-- The sums from which RESID_MARGIN is estimated take a token (R126): the slicer errors, mapped back, against the reference of every
tap of the active cancellers, and the power 5·L² of the far signal at the slicer. DESIGN CHOICE, log entry 78. -/
def Dev.noteResid (d : Dev) (u tag route : Nat) (errs : List Int) : Dev :=
  let x := (d.unit u).canc
  let l := (d.unit u).rx.level
  let t := d.newestRef u tag route
  let es := unrotate (phaseParts (x.phase - x.phiRef)).2 errs.reverse
  let sums := (d.paths u).foldl (fun m p =>
    let h := histFrom (d.unit p.agg).canc (t - p.delay) (68 + p.n)
    let old := (NMap.find m p.first).getD (List.replicate p.n 0, 0)
    m.insert p.first (plus old.1 (slide es p.n h), old.2 + power (h.take 68))) x.resid
  d.onCanc u (fun x => { x with resid := sums, farPower := x.farPower + 68 * 5 * l * l })

/-- Power of the residual echo and NEXT by these sums, the reference taken as white: for each tap the square of its sum over the
power of its reference (R126). -/
def residPower (m : NMap (List Int × Nat)) : Nat := (m.map (fun e => power e.2.1 / max 1 e.2.2)).foldl (· + ·) 0

/-- Symbol time of the newest sample of a token, where decided levels are kept (R121). -/
def newestSym (tag : Nat) : Int := 68 * (tag : Int) + 67

/-- The FEXT cancellers of a SIMPLEX lane whose aggressor lane is locked, by that lane (R121, R123). -/
def Dev.fextTaps (d : Dev) (u : Nat) : List (Nat × List Int) :=
  (List.range 3).filterMap (fun j =>
    let m := otherLane (u % 8) j
    let w := d.taps (u / 8) (72 * (u % 8) + 24 * j) 24
    if d.get F.LU_BU_STAT_STATE (8 * (u / 8) + m) ≠ 10 ∨ w.all (fun x => decide (x = 0)) = true then none else some (m, w))

/-- The FEXT cancellers of a SIMPLEX lane form their gradients; the histories hold decided levels in thirds (R121 to R123,
R154). -/
def Dev.adaptFext (d : Dev) (u tag : Nat) (errs : List Int) : Dev :=
  let c := u / 8
  if !(d.adapts u tag) || decide (4 ≤ u % 8) then d
  else d.each (List.range 3) (fun d j =>
    let m := 8 * c + otherLane (u % 8) j
    if d.get F.LU_BU_STAT_STATE m ≠ 10 then d
    else d.formGrad u tag (72 * (u % 8) + 24 * j) 24 (muNext (d.get F.LU_RB_STAT_GEAR u)) 381 errs.reverse
      (histFrom (d.unit m).canc (newestSym tag - 2) 92))

/-! Blocks and placement (R100, R101, R110) -/

/-- A block of the free pool that no unit holds and no probe uses, and whose return lies a whole token boundary back: at a
boundary `now` (R102, R132). -/
def Dev.freeBlock (d : Dev) (c now : Nat) : Option Nat :=
  (List.range (d.get F.CL_RB_POOL_BLOCKS c)).find? (fun b =>
    (unitsOf c).all (fun u => !((d.unit u).canc.blocks.contains b) && decide ((d.unit u).canc.probe ≠ some b)) &&
      (((d.cluster c).returned.find b).map (fun r => decide (r + 2 ≤ now))).getD true)

/-- Starts of a unit's windows in place. -/
def Dev.starts (d : Dev) (u : Nat) : List Nat :=
  (d.placedKeys u).map (d.winStart u)

/-- A start within the range of R107, off the dense section and off the windows in place. -/
def startFree (dense : Nat) (placed : List Nat) (s : Nat) : Bool :=
  decide (128 ≤ s ∧ dense ≤ s ∧ s ≤ 3024) && placed.all (fun p => decide (p + 48 ≤ s ∨ s + 48 ≤ p))

/-- Distance of two numbers. -/
def apart (a b : Nat) : Nat := if a ≤ b then b - a else a - b

/-- The start of a window for a peak delay (R110): a - 16, or the nearest start that abuts an earlier window or the dense section and
reaches the peak, that is, whose 48 taps hold it. DESIGN CHOICE, log entry 54. -/
def startFor (dense : Nat) (placed : List Nat) (a : Nat) : Option Nat :=
  let want := max 128 (min 3024 (a - 16))
  if startFree dense placed want then some want
  else
    let cands := (dense :: placed.flatMap (fun p => [p - 48, p + 48])).filter
      (fun s => startFree dense placed s && decide (s ≤ a ∧ a < s + 48))
    cands.foldl (fun best s => match best with
      | none => some s
      | some b => if apart s want < apart b want then some s else some b) none

/-- Merges candidates (R110): strongest first, each that lies 48 symbols or more from those kept. -/
def mergeCands (cs : List SurveyRec) : List SurveyRec :=
  (cs.mergeSort (fun a b => decide (a.energy ≤ b.energy))).foldl
    (fun kept r => if kept.any (fun k => decide (apart k.delay r.delay < 48)) then kept else kept ++ [r]) []

/-- Zeroes the slots of a window that starts at a boundary. -/
def Dev.freshWin (d : Dev) (u key now : Nat) : Dev :=
  let d := match d.winSlot u key with
    | none => d
    | some f => d.zeroSlots (u / 8) f 48
  d.onUnit u (fun x => { x with canc := { x.canc with
    outRuns := x.canc.outRuns.erase key, lowRuns := x.canc.lowRuns.erase key, fresh := x.canc.fresh.erase key
    winAt := x.canc.winAt.insert key now, winRec := x.canc.winRec.erase key } })

/-- The records that a placed candidate's own does not replace: those it does not merge with (R110, R259). -/
def others (r : SurveyRec) (rs : List SurveyRec) : List SurveyRec := rs.filter (fun q => decide (48 ≤ apart q.delay r.delay))

/-- Puts a window on a start for a candidate: its slots are zeroed and it is PLACED; PEAK names the candidate's peak, and ENERGY reads
no value, until the first check. DESIGN CHOICE, log entry 54. The candidate is parked or uncancelled no more (R259). -/
def Dev.placeWin (d : Dev) (u key s : Nat) (r : SurveyRec) (now : Nat) : Dev :=
  let d := (d.freshWin u key now).onCanc u (fun x => { x with
    winRec := x.winRec.insert key r, denied := others r x.denied, parkedRecs := others r x.parkedRecs })
  d.setWinWord u key (BitVec.ofNat 32 (2 * 2 ^ 30 + (r.delay - s) % 64 * 2 ^ 24 + s * 2 ^ 12 + 0xFFF))

/-- The lowest-numbered parked base window. -/
def Dev.parkedBase (d : Dev) (u : Nat) : Option Nat :=
  (List.range (d.wins (u / 8))).find? (fun k => decide (d.winState u k = 0))

/-- A candidate is left uncancelled (R101). -/
def Dev.deny (d : Dev) (u : Nat) (r : SurveyRec) : Dev :=
  (d.onUnit u (fun x => { x with canc := { x.canc with denied := x.canc.denied ++ [r] } })).unitEvent
    F.LU_RB_EVT_WIN_DENIED u 0x33 5 0

/-- Grants a free block to a unit and places a window on a candidate; none: refused. -/
def Dev.grant (d : Dev) (u now : Nat) (r : SurveyRec) : Option Dev :=
  if d.get F.LU_RB_CTRL_EXTRA_WIN_MAX u ≤ (d.unit u).canc.blocks.length ∨ 4 ≤ (d.unit u).canc.blocks.length then none
  else match d.freeBlock (u / 8) now, startFor (d.dense (u / 8)) (d.starts u) r.delay with
    | some b, some s =>
      let key := 8 + (d.unit u).canc.blocks.length
      let d := d.onUnit u (fun x => { x with canc := { x.canc with blocks := x.canc.blocks ++ [b] } })
      let d := d.put F.CL_RB_POOL_BLOCKS_HELD (u / 8) (d.get F.CL_RB_POOL_BLOCKS_HELD (u / 8) + 1)
      some ((d.put F.LU_RB_STAT_EXTRA_HELD u (d.unit u).canc.blocks.length).placeWin u key s r now)
    | _, _ => none

/-- One round of grants over the requests, in ascending lane; the candidates still unmet (R100). -/
def Dev.grantRound (d : Dev) (c now : Nat) : List (Nat × List SurveyRec) → List (Nat × List SurveyRec) × Dev
  | [] => ([], d)
  | (l, []) :: r =>
    let x := Dev.grantRound d c now r
    ((l, []) :: x.1, x.2)
  | (l, cand :: cs) :: r =>
    let d := match d.grant (8 * c + l) now cand with
      | some d' => d'
      | none => d.deny (8 * c + l) cand
    let x := Dev.grantRound d c now r
    ((l, cs) :: x.1, x.2)

/-- Rounds until every candidate is met or denied. -/
def Dev.grantRounds (d : Dev) (c now : Nat) (asks : List (Nat × List SurveyRec)) : Nat → Dev
  | 0 => d
  | n + 1 =>
    let x := d.grantRound c now asks
    if x.1.all (fun a => a.2.isEmpty) then x.2 else Dev.grantRounds x.2 c now x.1 n

/-- Takes back what a request of this same token boundary was granted before; nothing has run since. -/
def Dev.unask (d : Dev) (c : Nat) (a : Nat × Nat × List SurveyRec) : Dev :=
  let u := 8 * c + a.1
  let bs := (d.unit u).canc.blocks.drop a.2.1
  let d := bs.foldl (fun d b => d.returnBlock u b) d
  let d := d.onCluster c (fun x => { x with returned := bs.foldl (fun m b => m.erase b) x.returned })
  d.onUnit u (fun x => { x with canc := { x.canc with denied := x.canc.denied.filter (fun r => !(a.2.2.contains r)) } })

/-- A unit requests blocks for candidates at a token boundary (R100). Requests of one boundary are served together: those made
there before are served again with the new one, in rounds; a request of a later boundary finds what is left. -/
def Dev.ask (d : Dev) (u now : Nat) (cs : List SurveyRec) : Dev :=
  if cs = [] then d
  else
    let c := u / 8
    let x := d.cluster c
    let old := if x.askAt = now then x.asks.filter (fun a => a.1 ≠ u % 8) else []
    let asks := ((u % 8, (d.unit u).canc.blocks.length, cs) :: old).mergeSort (fun a b => decide (a.1 ≤ b.1))
    let d := d.onCluster c (fun x => { x with askAt := now, asks := asks })
    (asks.foldl (fun d a => d.unask c a) d).grantRounds c now (asks.map (fun a => (a.1, a.2.2))) 64

/-- Places candidates in descending energy: into parked base windows, then into blocks (R110). -/
def Dev.placeAll (d : Dev) (u now : Nat) : List SurveyRec → Dev
  | [] => d
  | r :: rs =>
    match d.parkedBase u with
    | none => d.ask u now (r :: rs)
    | some key =>
      match startFor (d.dense (u / 8)) (d.starts u) r.delay with
      | some s => Dev.placeAll (d.placeWin u key s r now) u now rs
      | none => Dev.placeAll (d.deny u r) u now rs

/-- The candidates among records: at or above the threshold in force, merged (R110). -/
def Dev.candidates (d : Dev) (u : Nat) (rs : List SurveyRec) : List SurveyRec :=
  mergeCands (rs.filter (fun r => decide (r.energy ≤ (d.cluster (u / 8)).winThr)))

/-- A survey or rescan decision takes WIN_THR into use (R131). -/
def Dev.latchThr (d : Dev) (c : Nat) : Dev :=
  let t := d.get F.CL_RB_CFG_WIN_THR c
  d.onCluster c (fun x => { x with winThr := t })

/-- Index of the tap of largest magnitude, the first of equals (R108). -/
def peakTap (w : List Int) : Nat :=
  ((w.zipIdx).foldl (fun (b : Nat × Nat) e => if b.1 < e.1.natAbs then (e.1.natAbs, e.2) else b) (0, 0)).2

/-- Energy of taps in 0.1 dB below a unit tap weight: the sum of their squares (R108, R128). -/
def tapEnergy (w : List Int) : Nat := min 0xFFF (tenthDb (2 ^ 30) (power w))

/-- What a dwell of a window or probe records of its position (R108). -/
def Dev.dwellRec (d : Dev) (u key first : Nat) : SurveyRec :=
  let w := d.taps (u / 8) first 48
  let s := d.winStart u key
  ⟨(s - 81) / 48, tapEnergy w, s + peakTap w⟩

/-- Tokens of a dwell (R108, R154), and whether the dwell of a window has run. -/
def Dev.dwellLen (d : Dev) (u : Nat) : Nat := if (d.unit u).canc.slow then 8192 else 4096
def Dev.dwelt (d : Dev) (u key len : Nat) : Bool := d.due (((d.unit u).canc.winAt.find key).getD 0 + len)

/-! Surveys -/

/-- Start of survey position p (R108). -/
def surveyStart (p : Nat) : Nat := min (128 + 48 * p) 3024

/-- Puts window key on survey position p at a boundary: zeroed and in state SURVEY, or parked when no position is left. Every
position is surveyed, one that overlaps a long dense section too; ENERGY reads 0xFFF meanwhile. DESIGN CHOICE, log entry 54. -/
def Dev.surveyAt (d : Dev) (u key p now : Nat) : Dev :=
  if p < 62 then
    (d.freshWin u key now).setWinWord u key (BitVec.ofNat 32 (2 ^ 30 + surveyStart p * 2 ^ 12 + 0xFFF))
  else d.setWinWord u key parkedWord

/-- A block is borrowed as a probe and put on a start; key 12 keeps the probe's place. -/
def Dev.probeAt (d : Dev) (u b s now : Nat) : Dev :=
  let d := d.zeroSlots (u / 8) (8 * d.slotsT (u / 8) + 48 * b) 48
  d.onUnit u (fun x => { x with canc := { x.canc with
    probe := some b, more := x.canc.more.insert 12 (BitVec.ofNat 32 (2 ^ 30 + s * 2 ^ 12 + 0xFFF))
    winAt := x.canc.winAt.insert 12 now } })

/-- The survey of a cold start begins with G1 (R108, R109). -/
def Dev.surveyStartAll (d : Dev) (u now : Nat) : Dev :=
  let d := d.onUnit u (fun x => { x with canc := { x.canc with survey := [] } })
  if d.wins (u / 8) = 0 then
    match d.freeBlock (u / 8) now with
    | some b => d.probeAt u b (surveyStart 0) now
    | none => (d.onCanc u (fun x => { x with noSurvey := true })).unitEvent F.LU_RB_EVT_WIN_DENIED u 0x33 5 0
  else d.each (List.range (d.wins (u / 8))) (fun d w => d.surveyAt u w w now)

/-! Gears -/

/-- An exchange that is outstanding and a preset not yet sent are abandoned, and no further trial is made (R186). -/
def Dev.dropExchanges (d : Dev) (u : Nat) : Dev :=
  let searching := decide ((d.unit u).srch.phase ≠ .off)
  let d := if searching then d.put F.LU_BU_STAT_SEARCH_DONE u 1 else d
  d.onUnit u (fun x => { x with
    srch := { x.srch with phase := if x.srch.phase = .off then .off else .done, want := none }
    co := { x.co with req := none, holding := false, presetDue := none, abandoned := 0, counted := false } })

/-- The search of an attempt begins with its baseline (R190): the first four full windows of G3. One that has ended in this
attempt makes no further trial (R186). -/
def Dev.searchStart (d : Dev) (u : Nat) : Dev :=
  if (d.unit u).srch.enabled && decide ((d.unit u).srch.phase = .off) && !(d.is F.LU_BU_STAT_SEARCH_DONE u) then
    let skip := if (d.unit u).canc.gearAt % 1024 = 0 then 0 else 1
    (d.put F.LU_BU_NEG_TRIALS u 0).onUnit u (fun x => { x with srch := { phase := .baseline, skip := skip, enabled := true } })
  else d

/-- The search ends. -/
def Dev.searchEnd (d : Dev) (u : Nat) : Dev :=
  if (d.unit u).srch.phase = .off ∨ (d.unit u).srch.phase = .done then d
  else (d.put F.LU_BU_STAT_SEARCH_DONE u 1).onUnit u (fun x => { x with srch := { x.srch with phase := .done, want := none } })

/-- The bring-up state a unit has reached, whatever STATE reads during an announcement. -/
def Dev.phaseOf (d : Dev) (u : Nat) : Nat :=
  if d.get F.LU_BU_STAT_STATE u = 14 then (d.unit u).reached else d.get F.LU_BU_STAT_STATE u

/-- From CONVERGE on, a gear that has been reached takes the unit on (R176): G3 to ADAPT, G4 to QUALIFY. -/
def Dev.follow (d : Dev) (u : Nat) : Dev :=
  let d := if d.phaseOf u = 5 ∧ 3 ≤ d.get F.LU_RB_STAT_GEAR u ∧ d.get F.LU_RB_STAT_GEAR u ≤ 4 then
      (d.enter u 6).searchStart u else d
  if d.phaseOf u = 6 ∧ d.get F.LU_RB_STAT_GEAR u = 4 then (d.searchEnd u).enter u 7 else d

/-- G3 is entered at a REFA count: the precoding decision of R192, SEARCH_EN is taken (R207), and CONVERGE ends (R104, R176). -/
def Dev.enterG3 (d : Dev) (u now : Nat) : Dev :=
  let d := (d.put F.LU_RB_STAT_GEAR u 3).onUnit u (fun x => { x with canc := { x.canc with gearAt := now } })
  let want := d.is F.LU_RX_STAT_PRECODE_WANT u && d.is F.LU_BU_CTRL_PRECODE_EN u && (d.unit u).far.seen &&
    d.bit F.LU_BU_NEG_FAR_CAP u 2
  let d := if 1 ≤ d.phaseOf u ∧ d.phaseOf u ≤ 9 then
      d.onUnit u (fun x => { x with co := { x.co with precReq := want } }) else d
  let search := d.is F.LU_BU_CTRL_SEARCH_EN u
  (d.onUnit u (fun x => { x with srch := { x.srch with enabled := search } })).follow u

/-- Dwells of a survey, N of R109. -/
def Dev.surveyN (d : Dev) (c : Nat) : Nat := if d.wins c = 0 then 62 else (61 + d.wins c) / d.wins c

/-- The extension E of R109 in tokens; 0 where no survey runs. -/
def Dev.extension (d : Dev) (u : Nat) : Nat :=
  if (d.unit u).canc.noSurvey then 0 else (max (d.surveyN (u / 8)) 16 - 16) * 4096

/-- Tokens that a unit's present gear lasts (R103, R109, R116, R118, R154). -/
def Dev.gearLen (d : Dev) (u : Nat) : Nat :=
  let x := (d.unit u).canc
  let g := d.get F.LU_RB_STAT_GEAR u
  if d.duplex (u / 8) = true ∧ g = 3 ∧ x.shortG3 = true then 32768
  else (if g = 0 then 16384 else if g = 1 then 65536 + d.extension u else if g = 2 then 262144 else 1048576) *
    (if x.slow then 2 else 1)

/-- A COLD run takes its map of a lane from the survey (R264): the dense section, and the record of each candidate under the
window that it got, or as uncancelled. -/
def Dev.coldTaken (d : Dev) (u : Nat) (cs : List SurveyRec) : Dev :=
  match (d.cluster (u / 8)).diag with
  | none => d
  | some r =>
    if r.mode = 4 ∧ (r.todo.contains (u % 8) ∨ r.lane = u % 8) then
      let src (c : SurveyRec) : Nat := match (d.placedKeys u).find? (fun k => decide (d.winPeak u k = c.delay)) with
        | some k => if k < 8 then 1 else 2
        | none => 4
      let secs := ((d.sections u).filter (fun s => decide (s.src = 0))) ++
        cs.map (fun c => { src := src c, start := c.delay, taps := [], energy := c.energy })
      d.onCluster (u / 8) (fun x => { x with diag := some { r with taken := r.taken.insert (u % 8) secs } })
    else d

/-- GEAR_CHANGE: the present gear's duration has run (R103, R104, R110, R145, R176). The boundary is the scheduled one. -/
def Dev.gearChange (d : Dev) (u : Nat) : Dev :=
  let g := d.get F.LU_RB_STAT_GEAR u
  let now := (d.unit u).canc.gearAt + d.gearLen u
  let next (d : Dev) (n : Nat) : Dev :=
    (d.put F.LU_RB_STAT_GEAR u n).onUnit u (fun x => { x with canc := { x.canc with gearAt := now } })
  if !(d.due now) then d
  else if g = 0 then
    let d := ((next d 1).put F.LU_RX_STAT_TR_ACQ u 1).surveyStartAll u now
    if d.phaseOf u = 1 then d.enter u 2 else d
  else if g = 1 then
    let d := ((next d 2).probeOff u).latchThr (u / 8)
    let d := d.each (List.range (d.wins (u / 8))) (fun d w => d.setWinWord u w parkedWord)
    let cs := d.candidates u (d.unit u).canc.survey
    (d.placeAll u now cs).coldTaken u cs
  else if g = 2 ∧ (d.unit u).canc.g2Done = false then
    let d := if 1 ≤ d.phaseOf u ∧ d.phaseOf u ≤ 9 ∧ 15 ≤ d.get F.LU_RX_STAT_DFE_H1 u then
        d.put F.LU_RX_STAT_PRECODE_WANT u 1 else d
    let d := d.onUnit u (fun x => { x with canc := { x.canc with g2Done := true } })
    let lqi := d.get F.LU_RX_LQI_LQI u
    if 140 ≤ lqi ∧ lqi ≠ 0xFFFF then d.enterG3 u now else d.put F.LU_RB_EVT_GEAR_STALL u 1
  else if g = 3 then (next d 4).follow u
  else d

def execGearChange (u : UnitId) (s : State) : Host.Outcome State Fault Refusal :=
  s.act (fun d => if d.live u && d.duplex (u / 8) then d.gearChange u
    else if d.live u && decide (d.get F.LU_RB_STAT_GEAR u = 3) && d.due ((d.unit u).canc.gearAt + d.gearLen u) then
      d.put F.LU_RB_STAT_GEAR u 4
    else d)

/-- SURVEY_DWELL_END: the dwell of 4,096 tokens on position p has run: its record is taken from the coefficients, and the window
moves to its next position (R108, R109). -/
def execSurveyDwellEnd (u : UnitId) (p : Fin 62) (s : State) : Host.Outcome State Fault Refusal :=
  s.act (fun d =>
    let n := d.wins (u / 8)
    let key := if n = 0 then 12 else p % n
    let first := if n = 0 then (d.unit u).canc.probe.map (fun b => 8 * d.slotsT (u / 8) + 48 * b) else d.winSlot u key
    let now := ((d.unit u).canc.winAt.find key).getD 0 + d.dwellLen u
    match first with
    | none => d
    | some f =>
      if !(d.live u && d.duplex (u / 8) && decide (d.get F.LU_RB_STAT_GEAR u = 1) && decide (d.winState u key = 1) &&
          decide (d.winStart u key = surveyStart p) && d.dwelt u key (d.dwellLen u)) then d
      else
        let r := d.dwellRec u key f
        let d := d.onUnit u (fun x => { x with canc := { x.canc with survey := x.canc.survey ++ [r] } })
        match (d.unit u).canc.probe with
        | some b => if p.val + 1 < 62 then d.probeAt u b (surveyStart (p + 1)) now else d.probeOff u
        | none => d.surveyAt u key (p + n) now)

/-! Window checks (R111 to R113) -/

/-- A window is parked, and the survey record of its candidate is kept (R259); a block held for it returns to the pool (R112,
R113). -/
def Dev.parkWin (d : Dev) (u key : Nat) : Dev :=
  let r := ((d.unit u).canc.winRec.find key).getD ⟨0, bitsOf (d.winWord u key) 11 0, d.winPeak u key⟩
  let d := d.put F.LU_RB_EVT_WIN_PARKED u 1
  let d := d.onUnit u (fun x => { x with canc := { x.canc with parkedRecs := x.canc.parkedRecs ++ [r] } })
  if key < 8 then
    (d.setWinWord u key parkedWord).onUnit u (fun x => { x with canc := { x.canc with
      outRuns := x.canc.outRuns.erase key, lowRuns := x.canc.lowRuns.erase key, fresh := x.canc.fresh.erase key
      winRec := x.canc.winRec.erase key } })
  else match (d.unit u).canc.blocks[key - 8]? with
    | some b => d.returnBlock u b
    | none => d

/-- A check of a window: peak and energy of its coefficients, and its runs; a PLACED window with its peak in taps 8 to 39
locks (R111, R113). -/
def Dev.checkWin (d : Dev) (u key : Nat) : Dev :=
  let w := d.winWord u key
  let taps := d.winTaps u key
  let peak := peakTap taps
  let energy := tapEnergy taps
  let mid := decide (8 ≤ peak ∧ peak ≤ 39)
  let st := if mid then 3 else bitsOf w 31 30
  let low := decide ((d.cluster (u / 8)).winThr + 60 < energy)
  let d := d.setWinWord u key
    (BitVec.ofNat 32 (st * 2 ^ 30 + peak % 64 * 2 ^ 24 + bitsOf w 23 12 * 2 ^ 12 + energy))
  d.onUnit u (fun x => { x with canc := { x.canc with
    winAt := x.canc.winAt.insert key ((x.canc.winAt.find key).getD 0 + 4096)
    outRuns := x.canc.outRuns.setD key 0 (if mid then 0 else (x.canc.outRuns.find key).getD 0 + 1)
    lowRuns := x.canc.lowRuns.setD key 0 (if low then (x.canc.lowRuns.find key).getD 0 + 1 else 0) } })

/-- Slides a window toward its peak, as far as its neighbours and the range let it; the coefficients and their peak shift
with it (R111). ENERGY stays that of the last check. DESIGN CHOICE, log entry 54. -/
def Dev.slideWin (d : Dev) (u key : Nat) : Dev :=
  let w := d.winWord u key
  let start := bitsOf w 23 12
  let want := max 128 (min 3024 (start + bitsOf w 29 24 - 16))
  let others := (d.starts u).filter (· ≠ start)
  let lo := others.foldl (fun m p => if p < start then max m (p + 48) else m) (max 128 (d.dense (u / 8)))
  let hi := others.foldl (fun m p => if start < p then min m (p - 48) else m) 3024
  let s := max lo (min hi want)
  let d := match d.winSlot u key with
    | none => d
    | some f =>
      let old := (List.range 48).map (fun k => ((d.cluster (u / 8)).pool.find (f + k)).getD 0)
      let new := (List.range 48).map (fun k => if start ≤ k + s then (old[k + s - start]?).getD 0 else 0)
      (d.zeroSlots (u / 8) f 48).onCluster (u / 8) (fun x => { x with
        pool := (List.range 48).foldl (fun p k => p.setD (f + k) 0 ((new[k]?).getD 0)) x.pool })
  let d := d.setWinWord u key
    (BitVec.ofNat 32 (2 * 2 ^ 30 + (bitsOf w 29 24 + start - s) % 64 * 2 ^ 24 + s * 2 ^ 12 + bitsOf w 11 0))
  (d.put F.LU_RB_EVT_WIN_SLID u 1).onUnit u (fun x => { x with canc := { x.canc with outRuns := x.canc.outRuns.erase key } })

/-- Of windows checked together, the weaker one of the first pair with peak delays less than 48 symbols apart (R112); of equals, the
later one. -/
def Dev.clash (d : Dev) (u : Nat) : List Nat → Option Nat
  | [] => none
  | k :: ks =>
    match ks.find? (fun j => decide (apart (d.winPeak u k) (d.winPeak u j) < 48)) with
    | some j => some (if bitsOf (d.winWord u k) 11 0 ≤ bitsOf (d.winWord u j) 11 0 then j else k)
    | none => Dev.clash d u ks

/-- The keys of windows once one of them is parked: the block of an extra one has gone, and later ones move up. -/
def keysWithout (k : Nat) (ks : List Nat) : List Nat :=
  (ks.filter (fun j => decide (j ≠ k))).map (fun j => if 8 ≤ k ∧ k < j then j - 1 else j)

/-- Parks overlapping windows, of those checked together, until none is left. -/
def Dev.unclash (d : Dev) (u : Nat) : Nat → List Nat → Dev
  | 0, _ => d
  | n + 1, ks =>
    match d.clash u ks with
    | some k => Dev.unclash (d.parkWin u k) u n (keysWithout k ks)
    | none => d

/-- Parks faded windows (R113). -/
def Dev.fade (d : Dev) (u : Nat) : Nat → Dev
  | 0 => d
  | n + 1 =>
    match (d.placedKeys u).find? (fun k => decide (16 ≤ ((d.unit u).canc.lowRuns.find k).getD 0)) with
    | some k => Dev.fade (d.parkWin u k) u n
    | none => d

/-- WINDOW_CHECK: the placed windows whose 4,096 tokens since placement or the last check have run are checked (R111 to
R113). While sliding is not allowed the runs of checks go on. DESIGN CHOICE, log entry 54. -/
def execWindowCheck (u : UnitId) (s : State) : Host.Outcome State Fault Refusal :=
  s.act (fun d =>
    let ks := (d.placedKeys u).filter (fun k => d.dwelt u k 4096)
    if !(d.live u && d.duplex (u / 8)) || ks.isEmpty then d
    else
      let d := ks.foldl (fun d k => d.checkWin u k) d
      let d := (d.unclash u 12 ks).fade u 12
      if d.is F.LU_RB_CTRL_SLIDE_EN u && !(d.is F.LU_RB_CTRL_FREEZE_WIN u) && !(d.echoFrozen u) then
        d.each (d.placedKeys u) (fun d k => if 4 ≤ ((d.unit u).canc.outRuns.find k).getD 0 then d.slideWin u k else d)
      else d)

/-! Rescans (R114, R115) -/

/-- The next position from p on that overlaps neither the dense section nor a window in place. -/
def Dev.nextPos (d : Dev) (u p : Nat) : Option Nat :=
  ((List.range 62).filter (fun n => decide (p ≤ n))).find?
    (fun n => startFree (d.dense (u / 8)) (d.starts u) (surveyStart n))

/-- A diagnostic sweep holds the cluster's probe (R265). -/
def Dev.sweeping (d : Dev) (c : Nat) : Bool := decide ((d.cluster c).diag.map (·.mode) = some 3)

/-- A unit takes part in a rescan (R114). -/
def Dev.rescans (d : Dev) (u : Nat) : Bool :=
  d.live u && decide (d.get F.LU_RB_STAT_GEAR u = 4) && d.is F.LU_RB_CTRL_RESCAN_EN u

/-- Lanes whose turn is still to come: when none of them takes part and RESCAN_PERIOD has run, a rescan of the cluster starts with all
(R114). The time at which the next one is due stays while RESCAN_PERIOD is 0. DESIGN CHOICE, log entry 53. -/
def Dev.rescanLanes (d : Dev) (c : Nat) : List Nat × Dev :=
  let x := d.cluster c
  let period := d.get F.CL_RB_CFG_RESCAN_PERIOD c
  if !(x.rescanTodo.any (fun l => d.rescans (8 * c + l))) && decide (period ≠ 0 ∧ x.rescanDue ≤ d.seconds) then
    let next := d.seconds + period
    (List.range 8, d.onCluster c (fun x => { x with rescanDue := next }))
  else (x.rescanTodo, d)

/-- RESCAN: the unit's turn begins, in ascending lane; the rescan of the cluster is skipped when no block is free or a sweep holds
the probe (R114, R265). -/
def execRescan (u : UnitId) (s : State) : Host.Outcome State Fault Refusal :=
  s.act (fun d =>
    let c := u.val / 8
    if !(d.duplex c && d.rescans u && decide ((d.cluster c).rescan = none)) then d
    else
      let r := d.rescanLanes c
      let later := r.1.filter (fun l => decide (u.val % 8 < l))
      if !(r.1.contains (u.val % 8)) || r.1.any (fun l => decide (l < u.val % 8) && d.rescans (8 * c + l)) then d
      else
        let d := r.2.onCluster c (fun x => { x with rescanTodo := later })
        let skip := d.onCluster c (fun x => { x with rescanTodo := [] })
        if d.sweeping c then skip
        else match d.freeBlock c d.refa with
          | none => skip
          | some b => match d.nextPos u 0 with
            | none => d
            | some p =>
              let d := (d.probeAt u b (surveyStart p) d.refa).onUnit u (fun x => { x with canc := { x.canc with probeRecs := [] } })
              d.onCluster c (fun x => { x with rescan := some (u.val % 8) }))

/-- The unit's rescan has examined its last position: candidates that merge with no placed window are placed, in descending
energy (R100, R115), by WIN_THR as it is now (R131). DEDUCED, log entry 53. -/
def Dev.rescanPlace (d : Dev) (u now : Nat) : Dev :=
  let rs := (d.unit u).canc.probeRecs
  let d := (d.probeOff u).onUnit u (fun x => { x with canc := { x.canc with probeRecs := [] } })
  let d := (d.onCluster (u / 8) (fun x => { x with rescan := none })).latchThr (u / 8)
  let before := d.placedKeys u
  let cs := (d.candidates u rs).filter (fun r => !(before.any (fun k => decide (apart (d.winPeak u k) r.delay < 48))))
  let d := d.placeAll u now cs
  d.each ((d.placedKeys u).filter (fun k => !(before.contains k))) (fun d k =>
    (d.put F.LU_RB_EVT_WIN_PLACED u 1).onUnit u (fun x => { x with canc := { x.canc with fresh := x.canc.fresh.insert k 65536 } }))

/-- RESCAN_DWELL_END: the probe's 4,096 tokens on a position have run: it is recorded, and the probe moves on or the rescan of
the unit ends (R114, R115). -/
def execRescanDwellEnd (u : UnitId) (s : State) : Host.Outcome State Fault Refusal :=
  s.act (fun d =>
    let c := u / 8
    let now := ((d.unit u).canc.winAt.find 12).getD 0 + 4096
    match (d.unit u).canc.probe with
    | none => d
    | some b =>
      if !(d.live u && decide ((d.cluster c).rescan = some (u % 8)) && d.dwelt u 12 4096) then d
      else
        let r := d.dwellRec u 12 (8 * d.slotsT c + 48 * b)
        let d := d.onUnit u (fun x => { x with canc := { x.canc with probeRecs := x.canc.probeRecs ++ [r] } })
        match d.nextPos u (r.pos + 1) with
        | some n => d.probeAt u b (surveyStart n) now
        | none => d.rescanPlace u now)

/-! Software access -/

/-- CL_RB_RELEASE: the block's holder gives it back; a block that no unit holds: no effect (R132). -/
def Dev.releaseBlock (d : Dev) (c b : Nat) : Dev :=
  match (unitsOf c).find? (fun u => (d.unit u).canc.blocks.contains b) with
  | some u => d.returnBlock u b
  | none => d

def execClRbRelease (c : ClusterId) (b : Fin 32) (s : State) : Host.Outcome State Fault Refusal :=
  s.act (fun d =>
    if d.off .cl c 0 then { d with port := { d.port with perr := true } }
    else if d.tst .cl c then d else d.releaseBlock c b)

/-- A software write of tap pool word i (R49, R96, R361, R362): the slots that no adapting canceller owns take their
values; whether it is refused in part or whole (PERR). -/
def Dev.writePool (d : Dev) (c i : Nat) (w : Word) : Bool × Dev :=
  if d.flt.poison.contains (poolWordCode c (2 * i)) then (true, d.addCount (F.FLT_ECC_POISON_LO_LO.addr 0) 1)
  else
    let a := d.slotAdapts c (2 * i)
    let b := d.slotAdapts c (2 * i + 1)
    (a || b, d.onCluster c (fun x => { x with
      pool :=
        let p := if a then x.pool else x.pool.setD (2 * i) 0 (w.setWidth 16)
        if b then p else p.setD (2 * i + 1) 0 ((w >>> 16).setWidth 16) }))

end Sys2Proof.Machine
end

