-- ==== Sys2Proof/Machine/Coef.lean ====
section
/-! DEFINITION. Coefficient requests and responses and the LQI-driven search (R186 to R191). -/

namespace Sys2Proof.Machine

/-- Changes a unit's search. -/
def Dev.onSrch (d : Dev) (u : Nat) (f : SearchSt → SearchSt) : Dev := d.onUnit u (fun x => { x with srch := f x.srch })

/-- Changes a unit's exchanges. -/
def Dev.onCo (d : Dev) (u : Nat) (f : CoefSt → CoefSt) : Dev := d.onUnit u (fun x => { x with co := f x.co })

/-- The tap of the search's t-th place: C_P1, C_M1, C_P2, C_M2 (R55, R190). -/
def searchTap (t : Nat) : Nat := ([3, 1, 4, 0][t]?).getD 3

/-- ACTION of a direction; true is increment. -/
def stepAct (up : Bool) : Nat := if up then 1 else 2

/-- The search's request for its present tap in a direction. -/
def SearchSt.ask (s : SearchSt) (ph : SearchPhase) (tap : Nat) (up : Bool) : SearchSt :=
  { s with phase := ph, want := some ⟨tap, stepAct up, 0⟩ }

/-- Begins the next tap of the search, or ends it: 64 trials, four idle taps (R190). `trials`: trials made. -/
def SearchSt.nextTap (s : SearchSt) (trials : Nat) : SearchSt :=
  if 64 ≤ trials ∨ 4 ≤ s.idle then { s with phase := .done, want := none }
  else
    let up := (s.first[s.t]?).getD false
    { s with n := 0, dir := up, helped := false }.ask .step (searchTap s.t) up

/-- The present direction has accepted no step: the other one, or the next tap. -/
def SearchSt.nextTry (s : SearchSt) (trials : Nat) : SearchSt :=
  if s.n = 0 ∧ trials < 64 then
    { s with n := 1, dir := !s.dir, helped := false }.ask .step (searchTap s.t) (!s.dir)
  else { s with idle := s.idle + 1, t := (s.t + 1) % 4 }.nextTap trials

/-- An exchange of the search has been answered with a STATUS; 0: it was abandoned, which counts as refused (R189, R190).
The flag: a trial begins. -/
def SearchSt.answered (s : SearchSt) (status trials : Nat) : SearchSt × Bool :=
  let trial : SearchSt := { s with phase := .measure, skip := 2, lqis := [], want := none }
  match s.phase with
  | .step =>
    if status = 1 then (trial, true)
    else if status = 2 ∨ status = 3 then (s.ask .helper 2 false, false)
    else (s.nextTry trials, false)
  | .helper =>
    if status = 1 then ({ s with helped := true }.ask .retry (searchTap s.t) s.dir, false)
    else (s.nextTry trials, false)
  | .retry => if status = 1 then (trial, true) else (s.ask .helperUndo 2 true, false)
  | .helperUndo => (s.nextTry trials, false)
  | .undo => if s.helped then (s.ask .undoHelper 2 true, false) else (s.nextTry trials, false)
  | .undoHelper => (s.nextTry trials, false)
  | _ => (s, false)

/-- A window of the search has ended with an LQI (R190): four windows make a baseline or a trial's result. -/
def SearchSt.window (s : SearchSt) (lqi trials : Nat) : SearchSt :=
  if s.phase = .baseline ∨ s.phase = .measure then
    if 0 < s.skip then { s with skip := s.skip - 1 }
    else
      let ls := s.lqis ++ [lqi]
      if ls.length < 4 then { s with lqis := ls }
      else
        let m := ls.foldl (· + ·) 0
        if s.phase = .baseline then { s with base := m, lqis := [] }.nextTap trials
        else if s.base + 8 ≤ m then
          { s with base := m, lqis := [], first := s.first.set s.t s.dir, idle := 0, t := (s.t + 1) % 4 }.nextTap trials
        else { s with lqis := [] }.ask .undo (searchTap s.t) (!s.dir)
  else s

/-- Shows in SEARCH_DONE that the search has ended. -/
def Dev.showSearch (d : Dev) (u : Nat) : Dev :=
  if (d.unit u).srch.phase = .done then d.put F.LU_BU_STAT_SEARCH_DONE u 1 else d

/-- A hold has been answered or nothing is outstanding: the preset that software asked for is sent, else the search's next
request (R186, R191). -/
def Dev.sendNext (d : Dev) (u : Nat) : Dev :=
  let x := d.unit u
  if x.co.req.isSome then d
  else match x.co.presetDue with
    | some p => d.onCo u (fun c => { c with req := some ⟨0, 0, p⟩, presetDue := none, holding := false, frames := 0 })
    | none =>
      match x.srch.want with
      | some r =>
        if d.phaseOf u = 6 then
          (d.onCo u (fun c => { c with req := some r, holding := false, frames := 0 })).onSrch u (fun s => { s with want := none })
        else d
      | none => d

/-- The outstanding request has been answered (R186): the search goes on, a preset gives it a new baseline (R191). -/
def Dev.reqAnswered (d : Dev) (u : Nat) (r : CoefReq) (status : Nat) : Dev :=
  let d := (d.onCo u (fun c => { c with holding := true, frames := 0 })).onUnit u (fun x => { x with srchWas := x.srch })
  if r.preset ≠ 0 then
    if status = 4 ∧ d.phaseOf u = 6 ∧ (d.unit u).srch.phase ≠ .off ∧ (d.unit u).srch.phase ≠ .done then
      d.onSrch u (fun s => { s with phase := .baseline, skip := 1, lqis := [], want := none })
    else d
  else
    let a := (d.unit u).srch.answered status (d.get F.LU_BU_NEG_TRIALS u)
    let d := d.onSrch u (fun _ => a.1)
    (if a.2 then d.bump F.LU_BU_NEG_TRIALS u 1 else d).showSearch u

/-- A hold has been answered with STATUS 0: the exchange is over; one that was not abandoned ends a row of those that were (R186,
R189). -/
def CoefSt.held (c : CoefSt) : CoefSt :=
  { c with req := none, holding := false, abandoned := if c.counted then c.abandoned else 0, counted := false }

/-- A far COEF_RSP has been accepted (R186, R212). -/
def Dev.rspIn (d : Dev) (u tap status : Nat) : Dev :=
  let d := if status = 0 then d
    else (d.put F.LU_BU_NEG_LAST_TAP u tap).put F.LU_BU_NEG_LAST_STATUS u status
  match (d.unit u).co.req with
  | none => d.sendNext u
  | some r =>
    if (d.unit u).co.holding then
      if status = 0 then (d.onCo u CoefSt.held).sendNext u else d
    else if status ≠ 0 ∧ (r.preset ≠ 0 ∨ r.tap = tap) then d.reqAnswered u r status
    else d

/-- A far COEF_REQ has been accepted (R187): taken when STATUS is 0, a hold ends the answer at the next eligible frame. -/
def Dev.reqIn (d : Dev) (u tap action preset : Nat) : Dev :=
  let now := d.refa
  d.onCo u (fun c =>
    if action = 0 ∧ preset = 0 then (if c.rspStatus = 0 ∨ c.holdSeen = true then c else { c with holdSeen := true, heardAt := now })
    else if c.rspStatus = 0 ∧ c.pend = none then { c with pend := some ⟨tap, action, preset⟩, heardAt := now }
    else c)

/-- A LU_TX_FIR word with one tap (R55's numbering) moved by one step. -/
def firStep (w : Word) (tap : Nat) (up : Bool) : Word :=
  let f (hi lo n : Nat) : Word := putBits w hi lo ((bitsOf w hi lo + (if up then 1 else 2 ^ n - 1)) % 2 ^ n)
  if tap = 0 then f 5 0 6 else if tap = 1 then f 11 6 6 else if tap = 2 then f 18 12 7
  else if tap = 3 then f 24 19 6 else f 30 25 6

/-- The decision of R188: the STATUS and the taps after. -/
def firDecide (w : Word) (r : CoefReq) : Nat × Word :=
  if r.preset ≠ 0 then (if r.preset ≤ 5 then (4, presetWord r.preset) else (5, w))
  else if 5 ≤ r.tap ∨ r.action = 3 ∨ r.action = 0 then (5, w)
  else
    let up := decide (r.action = 1)
    let w' := firStep w r.tap up
    if firOk w' then (1, w') else (if up then 3 else 2, w)

/-- The responder decides a pending request, or returns to STATUS 0 after a hold (R187, R188). On a token at which LU_TX_FIR takes
a crosswalk value or a PRESET_GO the request stays pending (R168, R169, R189). -/
def Dev.coefApply (d : Dev) (u : Nat) : Dev :=
  let c := (d.unit u).co
  if c.holdSeen then d.onCo u (fun c => { c with holdSeen := false, rspStatus := 0, rspTap := 0 })
  else match c.pend with
    | none => d
    | some r =>
      if c.firNew then d
      else
        let a := F.LU_TX_FIR_C0.addr u
        let st := firDecide (d.word a) r
        let d := if r.preset ≠ 0 ∧ st.1 = 4 then d.loadPreset u r.preset else d.setWord a st.2
        d.onCo u (fun c => { c with pend := none, rspStatus := st.1, rspTap := r.tap })

/-- COEF_APPLY: block 0 of a training frame follows, 8 tokens or more after the acceptance (R187). -/
def execCoefApply (u : UnitId) (s : State) : Host.Outcome State Fault Refusal :=
  s.act (fun d =>
    if d.live u && d.duplex (u / 8) && decide ((d.unit u).tx = .training ∨ (d.unit u).tx = .countdown) &&
        decide ((d.unit u).txBlock = 0) && d.due ((d.unit u).co.heardAt + 8) then d.coefApply u
    else d)

/-- The search takes the exchange of a request as refused (R189, R190). -/
def Dev.refused (d : Dev) (u : Nat) (r : CoefReq) : Dev :=
  if r.preset ≠ 0 then d
  else
    let a := (d.unit u).srch.answered 0 (d.get F.LU_BU_NEG_TRIALS u)
    (d.onSrch u (fun _ => a.1)).showSearch u

/-- The answer that a hold should have ended did not count: the search stands where it was before it (R189). -/
def Dev.unanswered (d : Dev) (u : Nat) : Dev :=
  d.onUnit u (fun x => if x.srch.phase = .off ∨ x.srch.phase = .done then x else { x with srch := x.srchWas })

/-- An exchange is abandoned (R189): it counts as refused, whether its request or its hold saw no answer; the request's hold is
sent, a hold ends. It counts once among those in a row; four end the search. -/
def Dev.coefTmo (d : Dev) (u : Nat) : Dev :=
  match (d.unit u).co.req with
  | none => d
  | some r =>
    let c := (d.unit u).co
    let n := if c.counted then c.abandoned else c.abandoned + 1
    let d := d.put F.LU_BU_EVT_COEF_TMO u 1
    if c.holding then
      let d := d.onCo u (fun c => { c with req := none, holding := false, abandoned := n, counted := false })
      if 4 ≤ n then d.searchEnd u
      else (if c.counted then d else (d.unanswered u).refused u r).sendNext u
    else
      let d := d.onCo u (fun c => { c with holding := true, frames := 0, abandoned := n, counted := true })
      if 4 ≤ n then d.searchEnd u else d.refused u r

/-- 64 of the unit's own frames have passed since the first that carried its request, or its hold (R189). -/
def Dev.coefOld (d : Dev) (u : Nat) : Bool :=
  decide (64 < (d.unit u).co.frames) || decide ((d.unit u).co.frames = 64 ∧ (d.unit u).txBlock = 0)

/-- COEF_TMO: 64 own frames have carried the request, or its hold, without an answer (R189). -/
def execCoefTmo (u : UnitId) (s : State) : Host.Outcome State Fault Refusal :=
  s.act (fun d => if d.live u && d.coefOld u then d.coefTmo u else d)

/-- REQ_PRESET_GO (R191): whether the write is refused (PERR), and the request noted. -/
def Dev.reqPresetGo (d : Dev) (u p : Nat) : Bool × Dev :=
  let st := d.phaseOf u
  if d.duplex (u / 8) && decide (4 ≤ st ∧ st ≤ 8) then
    (false, (d.onCo u (fun c => { c with presetDue := some p })).sendNext u)
  else (true, d)

/-- REQ_PRESET_GO with the preset number; a number other than 1 to 5 does not act and sets PERR (R207), as a write to a unit that is
off; one to a unit under test is dropped (R18). -/
def execReqPresetGo (u : UnitId) (preset : Fin 8) (s : State) : Host.Outcome State Fault Refusal :=
  s.act (fun d =>
    let refused : Dev := { d with port := { d.port with perr := true } }
    if d.off .lu u 0 then refused
    else if d.tst .lu u then d
    else if 1 ≤ preset.val ∧ preset.val ≤ 5 then
      let r := (d.put F.LU_BU_CTRL_REQ_PRESET u preset).reqPresetGo u preset
      { r.2 with port := { r.2.port with perr := r.2.port.perr || r.1 } }
    else refused)

end Sys2Proof.Machine
end

