-- ==== Sys2Proof/Machine/Sleep.lean ====
section
/-! DEFINITION. Power states as shared operations: tolerances and allowances, the QUIET decision, wakes, transactions
(R407 to R422). -/

namespace Sys2Proof.Machine

/-- The latency tolerance of port p in ns; none: no limit (R409). -/
def Dev.tolerance (d : Dev) (p : Nat) : Option Nat :=
  let s := d.get (F.PWR_LTR_SCALE p) 0
  let v := d.get (F.PWR_LTR_VALUE p) 0
  if s = 0 then some v else if s = 1 then some (1000 * v) else if s = 2 then some (1000000 * v) else none

/-- The port of a unit tolerates a wake time in ns; a unit in no port imposes no limit (R409). -/
def Dev.tolerates (d : Dev) (u ns : Nat) : Bool :=
  if d.inPort u then
    match d.tolerance (d.portOf u) with
    | some t => decide (ns ≤ t)
    | none => true
  else true

/-- An idle unit in the sense of R411: EN = 0, or DOWN. -/
def Dev.idleUnit (d : Dev) (u : Nat) : Bool := !(d.is F.LU_BU_CTRL_EN u) || decide (d.get F.LU_BU_STAT_STATE u = 18)

/-- The image's PWR rule and the software enable allow a state (0 QUIET, 1 DOZE, 2 DEEP) in region q (R285, R410). -/
def Dev.ruled (d : Dev) (q st : Nat) : Bool :=
  let en := if st = 0 then F.PWR_CFG_QUIET_EN else if st = 1 then F.PWR_CFG_DOZE_EN else F.PWR_CFG_DEEP_EN
  bitOf (((d.img.pwrWords[1 + q]?).getD 0).toNat) st && bitOf (d.getV en 0) q

/-- R410 for DOZE or DEEP over the units of the domain. -/
def Dev.allowed (d : Dev) (q st : Nat) (us : List Nat) : Bool :=
  d.ruled q st && !(d.is F.RG_PWR_CTRL_STAY_AWAKE q) &&
    (bitOf (d.getV F.PWR_CFG_DOZE_FAR 0) q || us.all (fun u => !(d.duplex (u / 8) && d.is F.LU_BU_CTRL_EN u)))

/-- DOZE is allowed in cluster c, or DEEP in region q, by R409 and R410. -/
def Dev.mayDoze (d : Dev) (c : Nat) : Bool :=
  d.allowed (c / 4) 1 (unitsOf c) && (unitsOf c).all (fun u => d.tolerates u 14000)
def Dev.mayDeep (d : Dev) (q : Nat) : Bool :=
  d.allowed q 2 (unitsOfRegion q) && (unitsOfRegion q).all (fun u => d.tolerates u 1800000)

/-- The QUIET decision for a unit's line-bound direction (R231, R411); a retrain or a hold that is under way goes ahead (R234).
`stood`: the standing conditions have held for the hysteresis time. -/
def Dev.mayQuiet (d : Dev) (u : Nat) (stood : Bool) : Bool :=
  d.duplex (u / 8) && decide ((d.unit u).tx = .data ∧ (d.unit u).txWant = none) && d.bit F.LU_BU_NEG_FAR_CAP u 3 &&
    decide (d.get F.LU_PAT_CTRL_GEN_PT u = 0) && !(d.tst .lu u) && d.tolerates u 600 && d.ruled (u / 32) 0 && stood

/-- Shows whether a cluster has a transaction open (R436). -/
def Dev.showTxn (d : Dev) (c : Nat) : Dev :=
  d.putBit F.RG_PWR_STAT_CL_TXN (c / 4) (c % 4) (d.cluster c).txn.isSome

/-- A member's vote enters a transaction; a later refusal replaces a READY, and a refusal stands (R412, R425). -/
def TxnSt.add (t : TxnSt) (m : Member) (v : Vote) : TxnSt :=
  match t.votes.find? (fun e => decide (e.1 = m)) with
  | none => { t with votes := t.votes ++ [(m, v)] }
  | some e => if e.2 = .ready then { t with votes := t.votes.filter (fun e => decide (e.1 ≠ m)) ++ [(m, v)] } else t

/-- A wake trigger reaches cluster c: a member of an open transaction refuses late with a reason, WAKE or LTR, an entry wakes when it
completes, a dozing cluster wakes (R416, R420, R425). -/
def Dev.wakeCluster (d : Dev) (c : Nat) (m : Member) (r : Fin 12 := 6) : Dev :=
  d.onCluster c (fun x =>
    if x.power = 0 then { x with txn := x.txn.map (fun t => t.add m (.refuse r)) }
    else if x.power = 1 then { x with wakeDue := true }
    else { x with power := 3 })

/-- A wake trigger reaches region q, for the clusters that wake with it (R416, R418, R425). -/
def Dev.wakeRegion (d : Dev) (q : Nat) (cs : List (Nat × Member)) (r : Fin 12 := 6) : Dev :=
  let st := d.get F.RG_PWR_STAT_STATE q
  if st = 0 then
    let d := cs.foldl (fun d e => if (d.cluster e.1).power = 0 then d else
      d.onRegion q (fun x => { x with txn := x.txn.map (fun t => t.add (.cluster (Fin.ofNat 4 e.1)) (.refuse r)) })) d
    cs.foldl (fun d e => d.wakeCluster e.1 e.2 r) d
  else
    let d := d.onRegion q (fun x => { x with
      wakeDue := x.wakeDue || decide (st = 1), wakes := (x.wakes ++ cs.map (·.1)).eraseDups })
    if st = 2 then d.put F.RG_PWR_STAT_STATE q 3 else d

/-- A wake trigger of unit u reaches its domain. -/
def Dev.wakeUnit (d : Dev) (u : Nat) : Dev := d.wakeRegion (u / 32) [(u / 8, .unit (Fin.ofNat 256 u))]

/-- A wake trigger of a whole cluster, and of a region with all its clusters (R416). -/
def Dev.wakeWhole (d : Dev) (c : Nat) : Dev := d.wakeRegion (c / 4) [(c, .crosstalk)]
def Dev.wakeAll (d : Dev) (q : Nat) (r : Fin 12 := 6) : Dev := d.wakeRegion q ((clustersOf q).map (fun c => (c, .crosstalk))) r

/-- A cluster is entering DOZE, in it or waking. -/
def Dev.dozing (d : Dev) (c : Nat) : Bool := d.bit F.RG_PWR_STAT_CL_DOZE (c / 4) (c % 4)

/-- A line-bound direction is QUIET, or its notice is due or being sent. -/
def Dev.quieting (d : Dev) (u : Nat) : Bool :=
  let x := d.unit u
  decide (x.tx = .quiet ∨ x.tx = .quietNotice ∨ (x.tx = .data ∧ x.txWant = some .quietNotice))

/-- R420: domains whose state is no longer allowed wake at once; a region without a section sleeps by R295, not by R410. A QUIET
direction wakes by its resume sequence. DESIGN CHOICE, log entry 74. -/
def Dev.powerCheck (d : Dev) : Dev :=
  let d := d.each ((List.range 256).filter (fun u => d.quieting u && !(d.tolerates u 600 && d.ruled (u / 32) 0)))
    (fun d u => d.onUnit u (fun x => { x with rouse := true }))
  let d := d.each (List.range 8) (fun d q =>
    if d.bit F.HUB_TOPO_REGION_LIVE 0 q && decide (d.get F.RG_PWR_STAT_STATE q ≠ 0) && !(d.mayDeep q) then d.wakeRegion q []
    else d)
  d.each (List.range 32) (fun d c =>
    if d.bit F.HUB_TOPO_REGION_LIVE 0 (c / 4) && decide ((d.cluster c).power ≠ 0) && !(d.mayDoze c) then d.wakeWhole c
    else d)

end Sys2Proof.Machine
end

