-- ==== Sys2Proof/Machine/HostTx.lean ====
section
/-! DEFINITION. Codewords and their counts, the pattern checker, and what leaves on HOST_TX (R41, R213, R217, R221, R224 to R227, R245
to R252). -/

namespace Sys2Proof.Machine

/-- A DUPLEX unit that can act. -/
def Dev.lineLive (d : Dev) (u : Nat) : Bool := d.live u && d.duplex (u / 8)

/-- A unit whose line and host path is in use: any unit of a DUPLEX cluster, lanes 0 to 3 of a SIMPLEX one (R3, R42). -/
def Dev.pathLive (d : Dev) (u : Nat) : Bool := d.live u && (d.duplex (u / 8) || decide (u % 8 < 4))

/-- The front ends, converters and drivers of a unit's cluster are on: it is not in DOZE or on the way out of it (R408, R417). -/
def Dev.frontOn (d : Dev) (u : Nat) : Bool := decide ((d.cluster (u / 8)).power < 2)

/-- A unit's place in its port: POS of R215. -/
def Dev.pos (d : Dev) (u : Nat) : Nat := u % 8 - d.base u

/-! Codewords (R215, R245) -/

/-- A token of a codeword stream meets the bits collected before it: a codeword that is whole, with the bit time of its start; what
stays collected, and the bit time of its start. Bits that follow a gap wait for the next boundary. -/
def cwFeed (buf : List Bool) (at' grid tag : Nat) (bs : List Bool) : Option (Nat × List Bool) × List Bool × Nat :=
  let t := 136 * tag
  let cut := toCw grid t
  let buf := if at' + buf.length = t then buf else []
  if cut < 136 then
    let full := buf ++ bs.take cut
    (if full.length = cwBits then some (t + cut - cwBits, full) else none, bs.drop cut, t + cut)
  else if buf.isEmpty then (none, [], 0) else (none, buf ++ bs, at')

/-- Counts something in the monitor interval that holds a tag (R242). What comes after its interval has been recorded counts in the
one in progress. DESIGN CHOICE, log entry 56. -/
def Dev.tally (d : Dev) (u tag : Nat) (f : IntSt → IntSt) : Dev :=
  d.onMon u (fun x => if tag < x.stop then { x with acc := f x.acc } else { x with next := f x.next })

/-- A unit is released or woken: the monitor interval that holds the present token begins with its counts at zero (R242). -/
def Dev.monStart (d : Dev) (u : Nat) : Dev :=
  let exp := d.get F.CL_MON_CFG_MON_EXP (u / 8)
  let n := 1024 * 2 ^ exp
  let k := d.refa / n
  d.onMon u (fun x => { x with exp := exp, start := k * n, stop := (k + 1) * n, acc := {}, next := {} })

/-- Counts a decoded codeword, whose first token has a tag, in the counters from an offset on; the line's also in its histogram and in
its interval (R242, R245, R247). -/
def Dev.countCw (d : Dev) (u off : Nat) (line : Bool) (tag : Nat) (errs : Option Nat) : Dev :=
  let d := d.addUnitCount u off 1
  let lost (d : Dev) : Dev :=
    let d := d.addUnitCount u (off + 16) 1
    if line then d.tally u tag (fun x => { x with uncorr := x.uncorr + 1 }) else d
  match errs with
  | none => lost d
  | some k =>
    if 15 < k then lost d
    else
      let d := if line then (d.addUnitCount u (0x480 + 8 * k) 1).tally u tag (fun x => { x with symErr := x.symErr + k }) else d
      if k = 0 then d else (d.addUnitCount u (off + 8) 1).addUnitCount u (off + 24) k

/-- The codeword that SPLIT sends on, in transmission order (R41). -/
def regenerated (cw : List Bool) : List Bool := (List.range cwBits).map (Config.rsRegenerate cw).getLsbD

/-- A token of the line's codeword stream, whose boundaries lie on a grid (R41, R245); in SPLIT the regenerated codeword waits to be
sent on. -/
def Dev.lineCw (d : Dev) (u tag grid : Nat) (bs : List Bool) : Dev :=
  let m := (d.unit u).mon
  let r := cwFeed m.lineCw m.lineCwAt grid tag bs
  let d := d.onMon u (fun x => { x with lineCw := r.2.1, lineCwAt := r.2.2 })
  match r.1 with
  | none => d
  | some (start, cw) =>
    let d := d.countCw u 0x400 true (start / 136) (Config.rsErrors cw)
    if !(d.split u) then d
    else d.onMon u (fun x =>
      let go := decide (x.lineOutAt + x.lineOut.length = start)
      { x with lineOut := (if go then x.lineOut else []) ++ regenerated cw, lineOutAt := if go then x.lineOutAt else start })

/-- The line-bound direction is in data mode: the codewords of HOST_RX are counted (R245). DEDUCED, log entry 47. -/
def Dev.txCounts (d : Dev) (u : Nat) : Bool :=
  if d.duplex (u / 8) then decide ((d.unit u).tx = .data) else decide (d.get F.LU_BU_STAT_STATE u = 10)

/-- A token of the HOST_RX codeword stream after deskew. -/
def Dev.hostCw (d : Dev) (u tag grid : Nat) (bs : List Bool) : Dev :=
  let m := (d.unit u).mon
  let r := cwFeed m.hostCw m.hostCwAt grid tag bs
  let d := d.onMon u (fun x => { x with hostCw := r.2.1, hostCwAt := r.2.2 })
  match r.1 with
  | none => d
  | some (start, cw) =>
    let d := if d.txCounts u then d.countCw u 0x420 false (start / 136) (Config.rsErrors cw) else d
    if !(d.split u) then d
    else d.onMon u (fun x =>
      let go := decide (x.hostOutAt + x.hostOut.length = start)
      { x with hostOut := (if go then x.hostOut else []) ++ regenerated cw, hostOutAt := if go then x.hostOutAt else start })

/-- The 136 bits of a queue from a bit time on; none: they are not all there. -/
def fromQueue (q : List Bool) (at' t : Nat) : Option (List Bool) :=
  if at' ≤ t then
    let bs := (q.drop (t - at')).take 136
    if bs.length = 136 then some bs else none
  else none

/-- A token that SPLIT sends on before it holds a whole codeword: free bits. DESIGN CHOICE, log entry 51. -/
def Dev.freeToken (d : Dev) : List Bool × Dev :=
  ((List.range 136).map (fun i => decide (Config.freeNat (d.draws + i) % 2 = 1)), d.setDraws (d.draws + 136))

/-! The pattern checker (R250) -/

/-- The pattern checker compares bits of a point; it counts while it is locked. -/
def Dev.patFeed (d : Dev) (u point : Nat) (bs : List Bool) : Dev :=
  if d.get F.LU_PAT_CTRL_CHK_PT u ≠ point then d
  else
    let m := (d.unit u).mon
    let c : ChkSt := { bits := m.chkBits, run := m.chkRun, win := m.chkWin }
    let c := c.bitsIn (d.get F.LU_PAT_CTRL_CHK_PAT u) (d.is F.LU_PAT_CTRL_PAT_LOCK u) bs
    let d := d.onMon u (fun x => { x with chkBits := c.bits, chkRun := c.run, chkWin := c.win })
    if c.compared = 0 then d else (d.addUnitCount u 0x458 c.compared).addUnitCount u 0x460 c.errs

/-! HOST_TX (R213, R217, R221, R225 to R227, R235, R241, R249, R252) -/

/-- What R225, R235 and R249 ask of a HOST_TX lane now. -/
def Dev.muxWanted (d : Dev) (u : Nat) : MuxSt :=
  let m := (d.unit u).mon
  { src := d.get F.LU_HOST_STAT_HTX_SRC u
    squelch := d.is F.LU_HOST_CFG_HTX_SQUELCH u
    gen := if m.genPt = 2 then some m.genPat else none }

/-- A bit of the ordered-set generator on a lane's grid at a bit time (R226). -/
def Dev.orderedBit (d : Dev) (u kind t : Nat) : Bool :=
  let k := (t + amPeriod - d.grid u % amPeriod) % amPeriod
  (Config.orderedSet kind (d.width u) (d.pos u) (k / cwBits)).getLsbD (k % cwBits)

/-- The bits of a token that HOST_TX carries by a setting; none: electrical idle. `genPos`: the pattern position of each bit. A lane
of no port is idle whatever is asked (R217). -/
def Dev.muxBits (d : Dev) (u tag : Nat) (m : MuxSt) (genPos : Nat → Nat) (payload : List Bool) : List (Option Bool) :=
  if m.squelch || !(d.mapped u && d.inPort u) then List.replicate 136 none
  else match m.gen with
  | some p => (List.range 136).map (fun i => some (patBit p (genPos i)))
  | none =>
    if m.src = 0 then List.replicate 136 none
    else if m.src = 3 then payload.map some
    else (List.range 136).map (fun i => some (d.orderedBit u m.src (136 * tag + i)))

/-- Gray indices of a token's bits; none: an idle symbol. -/
def symsOf : List (Option Bool) → List (Option Nat)
  | some m :: some l :: r => some (grayOf m l) :: symsOf r
  | _ :: _ :: r => none :: symsOf r
  | _ => []

/-- Precoding over symbols of which some are idle; after an idle one it starts from 0 (R51, R213). -/
def precodeIdle (prev : Nat) : List (Option Nat) → List (Option Nat) × Nat
  | [] => ([], prev)
  | none :: r =>
    let x := precodeIdle 0 r
    (none :: x.1, x.2)
  | some g :: r =>
    let p := (g + 4 - prev) % 4
    let x := precodeIdle p r
    (some p :: x.1, x.2)

/-- Drives symbols onto the pins of the unit's HOST_TX lane: polarity, FIR (R39, R216, R221, R241). -/
def Dev.htxPins (d : Dev) (u : Nat) (gs : List (Option Nat)) : Dev :=
  let inv := d.is (F.DIE_XBAR_U_HTX_INV (u % 64)) (u / 64)
  let levels := gs.map (fun g => match g with
    | some g => levelOf (if inv then 3 - g else g)
    | none => 0)
  let old := ((d.unit u).host.levels ++ [0, 0, 0]).take 3
  let outs := htxFirRun (htxFirTaps (d.word (F.LU_HTX_FIR_C0.addr u))) (old.reverse ++ levels)
  (d.onHost u (fun x => { x with levels := (levels.reverse ++ old).take 3 })).driveHtx u
    (if outs.all (fun v => decide (v = 0)) then none else some outs)

/-- Drives one token onto the HOST_TX pins, for a payload token in case the source is PAYLOAD. A change of source, squelch or
pattern takes place at the codeword boundary of the port's grid (R227, R235, R249). -/
def Dev.htxSend (d : Dev) (u tag : Nat) (payload : List Bool) : Dev :=
  let x := d.unit u
  let want := d.muxWanted u
  let cut := toCw (d.grid u) (136 * tag)
  let old := d.muxBits u tag x.host.mux (fun i => x.mon.htxN + i) payload
  let same := decide (want.gen = x.host.mux.gen)
  let turn := decide (cut < 136) && decide (want ≠ x.host.mux)
  let new := d.muxBits u tag want (fun i => if same then x.mon.htxN + i else i - cut) payload
  let bits := if turn then old.take cut ++ new.drop cut else old
  let mux := if turn then want else x.host.mux
  let bits := match (if x.mon.hitHost then x.mon.hit else none) with
    | some (start, syms) => bits.mapIdx (fun i b => b.map (fun b => b ^^ hitBit start syms (136 * tag + i)))
    | none => bits
  let gs := symsOf bits
  let r := if d.is F.LU_HOST_CFG_HTX_PRECODE u then precodeIdle x.host.txPrev gs else (gs, 0)
  let d := d.onUnit u (fun x => { x with
    host := { x.host with mux := mux, txPrev := r.2 }
    mon := { x.mon with
      htxN := if mux.gen.isSome then (if turn && !same then 136 - cut else x.mon.htxN + 136) else x.mon.htxN
      hit := if x.mon.hitHost && (x.mon.hit.map (fun h => decide (h.1 + cwBits ≤ 136 * (tag + 1)))).getD false then none
        else x.mon.hit } })
  d.htxPins u r.1

/-- Steps 9 to 11 of R39: the bits of a receive token pass RS decoding in SPLIT, and the deskew of R224, on their way to HOST_TX. -/
def Dev.toHost (d : Dev) (u tag : Nat) (bs : List Bool) : Dev :=
  let m := (d.unit u).mon
  let r := if !(d.split u) then (bs, d)
    else match (if splitRx ≤ tag then fromQueue m.lineOut m.lineOutAt (136 * (tag - splitRx)) else none) with
      | some q => (q, d.onMon u (fun x => { x with
          lineOut := x.lineOut.drop (136 * (tag - splitRx) + 136 - x.lineOutAt), lineOutAt := 136 * (tag - splitRx) + 136 }))
      | none => d.freeToken
  let d := r.2
  let out := delayBits (d.unit u).host.outBuf r.1 (d.get F.LU_HOST_STAT_LINE_DLY u)
  ((d.onHost u (fun x => { x with outBuf := keepBits 512 x.outBuf r.1 })).mendBits u (136 * tag) r.1.length true).htxSend u tag out

end Sys2Proof.Machine
end

