-- ==== Sys2Proof/Machine/Receive.lean ====
section
/-! DEFINITION. LINE_TOKEN: a token of samples passes FFE, cancellers, DFE and slicer, the timing loop, the aligner, and by RX_FMT the
header hunt, the training blocks or the payload, to HOST_TX (R39, R50 to R65, R140 to R154, R180 to R183, R192). -/

namespace Sys2Proof.Machine

/-! Steps 4 to 7 of R39 -/

/-- What the equaliser makes of a token, oldest first, in 2^-15 code: the signal entering step 5 and leaving step 6, the decided
levels, the slicer's error, and that error with the sign of the received signal (R183). -/
structure EqOut where
  input : List Int
  resid : List Int
  levels : List Int
  errs : List Int
  plain : List Int
  deriving DecidableEq, Repr

/-- What the FFE makes of a token (R143). -/
def Dev.ffeToken (d : Dev) (u : Nat) (t : RxToken) : List Int :=
  let x := (d.unit u).rx
  ffeOut x.ffe x.past (t.codes.toList.map sampleCode) (t.ahead.toList.map sampleCode)

/-- The level of the last symbol decided. -/
def Dev.lastLevel (d : Dev) (u : Nat) : Int := (((d.unit u).rx.syms.getLast?).map levelOf).getD 0

/-- FFE, subtraction of the estimate, inversion, DFE and slicer of a DUPLEX unit (R39, R143, R144, R183). -/
def Dev.equalise (d : Dev) (u tag route : Nat) (t : RxToken) : EqOut :=
  let y := d.ffeToken u t
  let z := minus y (d.estimate u tag route)
  let inv := d.is F.LU_LINE_FRAME_RX_INV u
  let r := sliceRun (d.get F.LU_RX_STAT_DFE_H1 u) (d.unit u).rx.level (d.lastLevel u) (if inv then z.map (- ·) else z)
  { input := y, resid := z, levels := r.1, errs := r.2, plain := if inv then r.2.map (- ·) else r.2 }

/-- FFE, DFE with the FEXT corrections, and slicer of the SIMPLEX lanes of a cluster whose tokens have one tag (R39, R42, R121, R123,
R143, R144). -/
def Dev.equaliseStd (d : Dev) (c tag : Nat) (ts : List (Nat × RxToken)) : List (Nat × RxToken × EqOut) :=
  let lanes := ts.map (fun e => ({
    lane := e.1, h1 := d.get F.LU_RX_STAT_DFE_H1 (8 * c + e.1), l := (d.unit (8 * c + e.1)).rx.level
    prev := d.lastLevel (8 * c + e.1), taps := d.fextTaps (8 * c + e.1), input := d.ffeToken (8 * c + e.1) e.2 } : StdLane))
  let h := (List.range 4).map (fun m => (m, histFrom (d.unit (8 * c + m)).canc (68 * (tag : Int) - 1) 26))
  List.zipWith (fun (e : Nat × RxToken) (x : StdLane) =>
    let y := d.ffeToken (8 * c + e.1) e.2
    let out := x.out.reverse
    (e.1, e.2, { input := y, resid := y, levels := out.map (·.1), errs := out.map (·.2), plain := out.map (·.2) })) ts
    (stdRun 68 lanes h)

/-- A quiet direction whose energy has not come back: what depends on the far signal is held (R73, R150). -/
def Dev.rxHeld (d : Dev) (u : Nat) : Bool :=
  d.is F.LU_LINE_FRAME_RX_QUIET u && decide (d.get F.LU_LINE_FRAME_RX_FMT u = 2)

/-! Statistics -/

/-- Energy of a token against the thresholds of R152, and the powers of R126. -/
def Dev.noteEnergy (d : Dev) (u : Nat) (e : EqOut) : Dev :=
  let p := power e.resid
  let quiet := belowFs p 68 (d.get F.LU_RX_CFG_ED_SIL_THR u)
  let loud := aboveFs p 68 (d.get F.LU_RX_CFG_ED_WAKE_THR u)
  d.onUnit u (fun x => { x with
    rx := { x.rx with
      energies := (p :: x.rx.energies).take 1024
      silent := if quiet then x.rx.silent + 1 else 0
      energetic := if loud then x.rx.energetic + 1 else 0 }
    canc := { x.canc with powerIn := x.canc.powerIn + power e.input, powerOut := x.canc.powerOut + p } })

/-- Sums of the LQI window (R142, R146, R243). The far-signal statistics of a quiet direction are held (R73). The end of a window is
commanded ahead of the next window's tokens. DESIGN CHOICE, log entry 56. -/
def Dev.noteLqi (d : Dev) (u tag : Nat) (t : RxToken) (e : EqOut) : Dev :=
  if d.is F.LU_LINE_FRAME_RX_QUIET u then d
  else
    let held := d.is F.LU_RX_STAT_VGA_HELD u
    let data := decide (d.get F.LU_LINE_FRAME_RX_FMT u = 2)
    d.onRx u (fun x =>
      let q : LqiSt := if x.lqi.win = tag / 1024 then x.lqi else { due := x.lqi.due, win := tag / 1024 }
      { x with lqi := { q with
        n := q.n + 1
        mse := q.mse + power e.errs * 2 ^ 20 / (x.level * x.level)
        clips := q.clips + (if held then (t.codes.toList.filter (fun c => decide ((sampleCode c).natAbs = 127))).length else 0)
        data := q.data + b2n data } })

/-- Sums of the servo window (R157, R158), and the longest cycle time of the pace window (R153). -/
def Dev.noteServo (d : Dev) (u tag : Nat) (t : RxToken) : Dev :=
  let res := if d.split u then t.hold else t.residence
  let quiet := d.is F.LU_LINE_FRAME_RX_QUIET u
  d.onRx u (fun x =>
    let q : ServoSt := if x.servo.win = tag / 1024 then x.servo else { due := x.servo.due, win := tag / 1024 }
    { x with
      slowRx := if quiet then x.slowRx else max x.slowRx t.cycle
      servo := { q with
        n := q.n + 1, sum := q.sum + res, out := q.out || decide (t.residence < 4800 ∨ 8000 < t.residence) } })

/-! The input check of a calibration run (R450) -/

/-- Adds a token to an input check: `live` the direction is in data mode and not quiet, the decided levels and the samples, oldest
first. -/
def CheckAcc.add (x : CheckAcc) (live : Bool) (levels samples : List Int) : CheckAcc :=
  let idx := levels.map grayOfLevel
  let of (i : Nat) : List Int := (List.zip idx samples).filterMap (fun e => if e.1 = i then some e.2 else none)
  let newest := levels.reverse ++ x.last
  { n := x.n + 1
    live := x.live && live
    counts := x.counts.mapIdx (fun i n => n + (of i).length)
    mags := x.mags.mapIdx (fun i m => m + (of i).foldl (fun a z => a + z.natAbs) 0)
    corr := x.corr.mapIdx (fun i r => r + dot levels.reverse (newest.drop (i + 1)))
    last := newest.take 16 }

/-- A check takes its tokens: in the first check of a run, over the passes of the self-trim and of the unit in turn, and over a first
match iteration (R450, R451). -/
def Dev.noteCheck (d : Dev) (u tag : Nat) (e : EqOut) : Dev :=
  match (d.cluster (u / 8)).cal with
  | none => d
  | some r =>
    if r.waiting || decide (r.todo.head? ≠ some (u % 8)) || !(decide (r.stage = 0 ∨ r.stage = 1 ∨ r.stage = 3 ∨
        (r.stage = 2 ∧ r.iter = 0))) || decide (65536 ≤ r.acc.n) || decide (tag < r.startAt + 65536 * r.checks) then d
    else
      let l := (d.unit u).rx.level
      let live := d.rxData u
      let zs := plus e.errs (e.levels.map (· * l))
      d.onCluster (u / 8) (fun x => { x with cal := some { r with acc := r.acc.add live e.levels zs } })

/-! Timing recovery (R147 to R151) -/

/-- Timing recovery runs: on the decision-free detector, or from header lock on, and on through a return to HUNT (R148, R182). -/
def Dev.timing (d : Dev) (u : Nat) : Bool :=
  d.is F.LU_RX_STAT_TR_ACQ u || d.is F.LU_LINE_FRAME_HDR_LOCK u ||
    (d.duplex (u / 8) && decide (3 ≤ d.phaseOf u ∧ d.phaseOf u ≤ 10))

/-- The loop's step at a token, announced two tokens ahead; a quiet direction goes on at the held offset (R147, R150). -/
def RxSt.loop (x : RxSt) (quiet : Bool) (prop int : Int) : RxSt :=
  let integ := if quiet then x.integ else clampInt (-1000000) 1000000 (x.integ + int)
  let acc := x.accum + integ + (if quiet then 0 else prop)
  let step : Int := if 1000000 ≤ acc then 1 else if acc ≤ -1000000 then -1 else 0
  { x with
    integ := integ, accum := acc - 1000000 * step, steps := (x.steps ++ [step])
    stepRun := if step = 0 then 0 else x.stepRun + 1 }

/-- Timing recovery at a token: the step announced two tokens before takes effect, on the HOST_TX interpolator too while it follows
(R91, R135, R147, R148). In a quiet direction the loop goes on with the first energetic token, which a resume sequence begins with
(R150). DEDUCED, log entry 50. -/
def Dev.track (d : Dev) (u : Nat) (t : RxToken) (e : EqOut) : Dev :=
  if !(d.timing u) then d
  else
    let quiet := d.rxHeld u && decide ((d.unit u).rx.energetic = 0)
    let free := d.is F.LU_RX_STAT_TR_ACQ u
    let out := if free then Config.decisionFree d.draws else muellerSum e.levels e.errs
    let timed := d.is F.LU_RX_STAT_LOOP_TIMED u
    let d := (d.setDraws (d.draws + 1)).onUnit u (fun x =>
      let r := x.rx.loop quiet (Config.loopProp (!free) out) (Config.loopInt (!free) out)
      let now := if r.steps.length < 2 then 0 else (r.steps.head?).getD 0
      { x with
        rx := { r with
          steps := if r.steps.length < 2 then r.steps else r.steps.tail
          varLow := if quiet then r.varLow else if t.phaseVar < 256 then r.varLow + 1 else 0
          varHigh := if quiet then r.varHigh else if 1024 < t.phaseVar then r.varHigh + 1 else 0 }
        canc := { x.canc with phase := x.canc.phase + now }
        host := { x.host with htxPhase := if timed then x.host.htxPhase + now else x.host.htxPhase } })
    let x := d.unit u
    let d := d.put F.LU_RX_STAT_PHASE u (x.canc.phase % 64).toNat
    d.put F.LU_RX_STAT_FREQ_OFF u (code (clampInt (-512) 511 (x.rx.integ / 4352)) 10)

/-! Adaptation -/

/-- The level tracker (R144): L moves toward the error, by a free step. DESIGN CHOICE, log entry 50. -/
def Dev.trackLevel (d : Dev) (u : Nat) (e : EqOut) : Dev :=
  if !(d.timing u) || d.rxHeld u then d
  else
    let g := sgn (dot e.errs (e.levels.map sgn))
    let n := Config.levelStep d.draws
    (d.setDraws (d.draws + 1)).onRx u (fun x => { x with level := (max 1 ((x.level : Int) + g * n)).toNat })

/-- FFE and DFE adapt by sign-sign LMS from header lock on, by steps of 2^-9 and then 2^-13 (R143, R144); a quiet direction holds them
(R73). DESIGN CHOICE, log entry 50. -/
def Dev.adaptEq (d : Dev) (u : Nat) (t : RxToken) (e : EqOut) : Dev :=
  if !(d.is F.LU_LINE_FRAME_HDR_LOCK u) || d.rxHeld u then d
  else
    let x := (d.unit u).rx
    let step : Int := if 0 < x.coarse then 16 else 1
    let g := sgn (dot (e.errs.map sgn) ((d.lastLevel u :: e.levels).map sgn))
    let h := (clampInt 0 6144 ((256 * d.get F.LU_RX_STAT_DFE_H1 u + x.h1Low : Nat) + step * g)).toNat
    let taps := ffeStep x.ffe x.past (t.codes.toList.map sampleCode) (t.ahead.toList.map sampleCode) e.plain step
    (d.put F.LU_RX_STAT_DFE_H1 u (h / 256)).onRx u (fun x => { x with ffe := taps, h1Low := h % 256, coarse := x.coarse - 1 })

/-- The cancellers adapt: on the residual in G0 to G2 and in a quiet direction, on the slicer error else (R103, R105, R119, R123,
R126). -/
def Dev.adaptCanc (d : Dev) (u tag route : Nat) (e : EqOut) : Dev :=
  let g := d.get F.LU_RB_STAT_GEAR u
  if !(d.duplex (u / 8)) then d.adaptFext u tag e.plain
  else if g ≤ 2 ∨ d.is F.LU_LINE_FRAME_RX_QUIET u = true then d.adaptUnit u tag route e.resid
  else (if g ≤ 4 then d.noteResid u tag route e.plain else d).adaptUnit u tag route e.plain

/-! Step 8 of R39: alignment and headers -/

/-- The block that ends in a token, at a symbol offset, and the symbol before it (R180). -/
def RxSt.block (x : RxSt) (o : Nat) (syms : List Nat) : List Nat × Nat :=
  if o = 0 then (syms, (x.syms.getLast?).getD 0) else (x.syms.drop o ++ syms.take o, ((x.syms.drop (o - 1)).head?).getD 0)

/-- A header position of R181 is checked. -/
def Dev.checkHeader (d : Dev) (u tag : Nat) (ok : Bool) : Dev :=
  let d := if ok then d else (d.addUnitCount u 0x440 1).tally u tag (fun x => { x with hdrErr := x.hdrErr + 1 })
  d.onUnit u (fun x => { x with hdrWin := (ok :: x.hdrWin).take 64 })

/-- The hunt: an invalid header moves the candidate on by one symbol (R180). -/
def Dev.huntBlock (d : Dev) (u : Nat) (bs : List Bool) : Dev :=
  d.onUnit u (fun x =>
    if 64 ≤ x.rx.hdrRun then x
    else if hdrValid bs then { x with rx := { x.rx with hdrRun := x.rx.hdrRun + 1 } }
    else { x with hdrOffset := (x.hdrOffset + 1) % 68, rx := { x.rx with hdrRun := 0 } })

/-- Control headers among 80 header positions of a HUNT (R183); 60 of them wait for the inversion. -/
def RxSt.countCtl (x : RxSt) (control : Bool) : RxSt :=
  if x.ctl.1 = 80 ∧ 60 ≤ x.ctl.2 then x
  else
    let c := if x.ctl.1 = 80 then (0, 0) else x.ctl
    { x with ctl := (c.1 + 1, c.2 + b2n control) }

/-- A control body of one of the five types whose CRC checks, as a run of blocks counts it (R57, R69, R198). -/
def bodyOk (b : BitVec 134) : Bool := bodyCrcOk b && bodyTypeOk b

/-- A block continues the run of consecutive control blocks of one type, or ends it (R69, R198). -/
def RxSt.run (x : RxSt) (tag : Nat) (b : Option (BitVec 134)) : RxSt :=
  match b with
  | none => { x with notice := (0, 0, 0) }
  | some b =>
    let cf := bodyField b 3 0
    { x with notice := if x.notice.1 = cf ∧ x.notice.2.2 + 1 = tag then (cf, x.notice.2.1 + 1, tag) else (cf, 1, tag) }

/-- The control body in a block's plain bits (R52). -/
def bodyOf (bs : List Bool) : BitVec 134 := BitVec.ofNat 134 (bitsNat (((bs.drop 1).take 1) ++ bs.drop 3))

/-- The descrambler at a training-format block (R63): running, it finds mismatches in data blocks and reads control bodies; not
locked, it loads from a data block and checks 64 predicted bits. -/
def Dev.descramble (d : Dev) (u tag : Nat) (bs : List Bool) : Dev :=
  let x := d.unit u
  let locked := d.is F.LU_LINE_FRAME_DESCR_LOCK u
  if locked || x.rx.descrOk then
    let r := scramble hdrPos 0 x.descr bs
    let bad := ((r.1.drop 1).take 1 ++ r.1.drop 3).filter id
    let ctl := hdrValid bs && !(isDataHdr bs)
    let body := bodyOf r.1
    d.onUnit u (fun x => { x with
      descr := r.2
      rx :=
        let rx := { x.rx with badBlocks := if isDataHdr bs then (if 8 ≤ bad.length then x.rx.badBlocks + 1 else 0) else x.rx.badBlocks }
        let rx := if ctl && locked then { rx with bodies := rx.bodies ++ [(tag, body)] } else rx
        rx.run tag (if ctl && locked && bodyOk body then some body else none) })
  else if isDataHdr bs then
    let r := scramble (fun _ => false) 61 (scrLoad ((bs.drop 3).take 58)) (bs.drop 61)
    let ok := (r.1.take 64).all (fun b => !b)
    d.onUnit u (fun x => { x with descr := r.2, rx := { x.rx with descrOk := ok, badBlocks := 0 } })
  else d

/-- Both interpretations of the headers of blocks 1 to 4, while a request for precoding stands (R192): `raw` the symbols, `before` the
one before them. Block 1 follows P(n-1) = 0 or the true symbol. DEDUCED, log entry 57. -/
def Dev.precodeHunt (d : Dev) (u tag before : Nat) (raw : List Nat) (ctl : Bool) : Dev :=
  let x := d.unit u
  let k : Nat := match x.rx.frameAt with
    | some f => (tag - f) % 40
    | none => 0
  let d := if ctl then d.onRx u (fun x => { x with frameAt := some tag }) else d
  if !(x.co.precReq) || d.is F.LU_LINE_FRAME_FAR_PRECODE u || decide (k = 0 ∨ 4 < k) then d
  else
    let coded := hdrValid (bitsOfGrays (decodePre before raw).1) || (decide (k = 1) && hdrValid (bitsOfGrays (decodePre 0 raw).1))
    let plain := hdrValid (bitsOfGrays raw)
    d.onRx u (fun x => { x with
      plain4 := (if k = 1 then 0 else x.plain4) + b2n plain, coded4 := (if k = 1 then 0 else x.coded4) + b2n coded })

/-- A training-format block after header lock: header check, polarity count, descrambler, control body (R53, R57, R63, R181, R183,
R192). -/
def Dev.trainBlock (d : Dev) (u tag before : Nat) (raw : List Nat) (bs : List Bool) : Dev :=
  let ok := hdrValid bs
  let ctl := ok && !(isDataHdr bs)
  let d := d.checkHeader u tag ok
  let hunt := decide (d.phaseOf u = 3)
  let d := d.onRx u (fun x =>
    let x := if hunt then x.countCtl ctl else x
    { x with hdrRun := if 64 ≤ x.hdrRun then x.hdrRun else if ok then x.hdrRun + 1 else 0 })
  (d.precodeHunt u tag before raw ctl).descramble u tag bs

/-! Payload -/

/-- The bit of the marker expected at m that stands at a bit time; none: payload. -/
def markBit (m t : Nat) : Option Nat := if m ≤ t ∧ t < m + 240 then some (t - m) else none

/-- A marker expected before a token that holds none of its bits has passed: the expectation moves on by whole periods (R66). -/
def markAhead (m tag : Nat) : Nat :=
  if m + 240 ≤ 136 * tag then m + amPeriod * ((136 * tag - (m + 240)) / amPeriod + 1) else m

/-- The bits of a marker as far as a token holds them; one read whole is kept for its judgement, the next is expected a period
later (R64, R66, R67). -/
def RxSt.collect (x : RxSt) (m tag : Nat) (bs : List Bool) : RxSt :=
  let mine := (bs.mapIdx (fun i b => (136 * tag + i, b))).filter (fun e => (markBit m e.1).isSome)
  let got := (if m ≤ 136 * tag then x.markBits else []) ++ mine.map (·.2)
  if m + 240 ≤ 136 * (tag + 1) then
    { x with
      mark := some (m + amPeriod), markBits := []
      marks := if got.length = 240 then x.marks ++ [(m, BitVec.ofNat 240 (bitsNat got))] else x.marks }
  else { x with mark := some m, markBits := if mine.isEmpty then [] else got }

/-- A payload token of a DUPLEX direction: descrambling, the search for notices, marker write-back, pattern checker, codewords (R60,
R61, R64, R65, R69, R245, R250). The bits that go on to HOST_TX. -/
def Dev.rxPayload (d : Dev) (u tag : Nat) (bs : List Bool) : List Bool × Dev :=
  let x := d.unit u
  let m := x.rx.mark.map (fun m => markAhead m tag)
  let idx (i : Nat) : Option Nat := m.bind (fun m => markBit m (136 * tag + i))
  let r := scramble (fun i => ((idx i).map (fun k => decide (k < 2))).getD false) 0 x.descr bs
  let block := (scramble hdrPos 0 x.descr bs).1
  let ctl := hdrValid bs && !(isDataHdr bs) && bodyOk (bodyOf block)
  let am := Config.amBits (d.width u) (d.pos u)
  let out := r.1.mapIdx (fun i b => match idx i with
    | some k => am.getLsbD k
    | none => b)
  let d := d.onUnit u (fun x => { x with
    descr := r.2
    rx :=
      let rx := x.rx.run tag (if ctl then some (bodyOf block) else none)
      let rx := if ctl then { rx with bodies := rx.bodies ++ [(tag, bodyOf block)] } else rx
      match m with
      | some m => rx.collect m tag r.1
      | none => rx })
  let d := d.patFeed u 1 ((r.1.mapIdx (fun i b => (idx i, b))).filterMap (fun e => if e.1.isNone then some e.2 else none))
  (out, match m with
    | some m => d.lineCw u tag (m % amPeriod) out
    | none => d)

/-- The standard's stream is searched for a marker: the first run of 240 bits that differs from it in no more than 3; its place is
where the next one is expected (R219, R233). DEDUCED, log entry 57. -/
def Dev.findMark (d : Dev) (u tag : Nat) (bs : List Bool) : Dev :=
  let am := (List.range 240).map (Config.amBits (d.width u) (d.pos u)).getLsbD
  let buf := (d.unit u).rx.markBits ++ bs
  match (List.range (buf.length - 239)).find? (fun i => decide (bitDiff ((buf.drop i).take 240) am ≤ 3)) with
  | some i => d.onRx u (fun x => { x with mark := some (136 * (tag + 1) + i - buf.length + amPeriod), markBits := [] })
  | none => d.onRx u (fun x => { x with markBits := buf.drop (buf.length - 239) })

/-- A payload token of a SIMPLEX lane (R42, R233, R245): the stream passes as it comes; its markers are found and read for the deskew,
and its codewords counted from the place that two of them have shown. -/
def Dev.stdPayload (d : Dev) (u tag : Nat) (bs : List Bool) : Dev :=
  let d := d.patFeed u 1 bs
  match (d.unit u).rx.mark.map (fun m => markAhead m tag) with
  | none => d.findMark u tag bs
  | some m =>
    let d := d.onRx u (fun x => x.collect m tag bs)
    match (d.unit u).rx.place with
    | some p => d.lineCw u tag p bs
    | none => d

/-! LINE_TOKEN -/

/-- The receive direction is in data mode at a token: RX_FMT says so, or the announced switch point has come (R195). -/
def Dev.dataToken (d : Dev) (u tag : Nat) : Bool :=
  decide (d.get F.LU_LINE_FRAME_RX_FMT u = 2) ||
    (decide (d.get F.LU_LINE_FRAME_RX_FMT u = 1) && (((d.unit u).rx.dataAt.map (fun a => decide (a ≤ tag))).getD false))

/-- Step 8 of R39 in a DUPLEX unit, by RX_FMT: the bits that go on. A quiet direction checks nothing (R73). -/
def Dev.rxBlock (d : Dev) (u tag : Nat) (syms : List Nat) : List Bool × Dev :=
  let x := d.unit u
  let b := x.rx.block x.hdrOffset syms
  let first := if x.rx.fromZero then 0 else b.2
  let bs := bitsOfGrays (if d.is F.LU_LINE_FRAME_FAR_PRECODE u then (decodePre first b.1).1 else b.1)
  let fmt := d.get F.LU_LINE_FRAME_RX_FMT u
  if b.1.length ≠ 68 ∨ (fmt = 2 ∧ d.is F.LU_LINE_FRAME_RX_QUIET u = true) then (bitsOfGrays syms, d)
  else
    let d := d.onRx u (fun x => { x with fromZero := false })
    if d.dataToken u tag then d.rxPayload u tag bs
    else if fmt = 1 ∨ fmt = 3 then (bs, d.trainBlock u tag b.2 b.1 bs)
    else if d.phaseOf u = 3 ∧ d.is F.LU_RX_STAT_TR_LOCK u = true then (bs, d.huntBlock u bs)
    else (bs, d)

/-- What follows the slicer at a token of a tag: statistics, loops, adaptation, step 8 of R39, and the way to HOST_TX. -/
def Dev.sliced (d : Dev) (u tag route : Nat) (t : RxToken) (e : EqOut) : Dev :=
  let d := (((d.noteEnergy u e).noteLqi u tag t e).noteServo u tag t).noteCheck u tag e
  let d := (((d.adaptCanc u tag route e).track u t e).adaptEq u t e).trackLevel u e
  let syms := e.levels.map grayOfLevel
  let r := if d.duplex (u / 8) then d.rxBlock u tag syms
    else
      let prev := ((d.unit u).rx.syms.getLast?).getD 0
      let bs := bitsOfGrays (if d.is F.LU_LINE_FRAME_FAR_PRECODE u then (decodePre prev syms).1 else syms)
      (bs, if d.get F.LU_BU_STAT_STATE u = 10 then d.stdPayload u tag bs else d)
  let d := r.2.onRx u (fun x => { x with
    syms := syms, tag := tag + 1, past := (t.codes.toList.map sampleCode).reverse.take 8 })
  d.toHost u tag r.1

/-- LINE_TOKEN of a DUPLEX unit with EN = 1; `route`: the fused part of the pair's loop delay (R89). -/
def Dev.rxToken (d : Dev) (u route : Nat) (t : RxToken) : Dev :=
  let tag := d.refa + t.sub
  let d := d.applyGrads u tag
  d.sliced u tag route t (d.equalise u tag route t)

/-- Tokens of one tag of SIMPLEX lanes of a cluster: the decisions of a lane that is up are the reference of the others (R121,
R123). -/
def Dev.stdTokens (d : Dev) (c tag : Nat) (ts : List (Nat × RxToken)) : Dev :=
  let d := ts.foldl (fun d e => d.applyGrads (8 * c + e.1) tag) d
  let es := d.equaliseStd c tag ts
  let d := es.foldl (fun d e =>
    let u := 8 * c + e.1
    if d.get F.LU_BU_STAT_STATE u = 10 then
      (d.onCanc u (fun x => x.push (68 * tag) e.2.2.levels)).mendHist u (68 * tag) 68
    else d) d
  es.foldl (fun d e => d.sliced (8 * c + e.1) tag 0 e.2.1 e.2.2) d

/-- The tokens that wait in a SIMPLEX cluster are processed. -/
def Dev.stdFlush (d : Dev) (c : Nat) : Dev :=
  let ws := (d.cluster c).stdWait.filter (fun e => d.pathLive (8 * c + e.1) && d.is F.LU_BU_CTRL_EN (8 * c + e.1))
  let d := d.onCluster c (fun x => { x with stdWait := [] })
  match ws with
  | [] => d
  | w :: _ => d.stdTokens c w.2.1 (ws.map (fun e => (e.1, e.2.2)))

/-- LINE_TOKEN of a SIMPLEX lane with EN = 1. Lanes that are up decide the symbols of a token side by side (R121), so its effects
come with the last of their tokens of one tag; tokens of a former tag that still wait go ahead of a later one. DESIGN CHOICE, log
entry 55. -/
def Dev.stdRx (d : Dev) (u : Nat) (t : RxToken) : Dev :=
  let c := u / 8
  let tag := d.refa + t.sub
  let up (d : Dev) (l : Nat) : Bool := d.pathLive (8 * c + l) && decide (d.get F.LU_BU_STAT_STATE (8 * c + l) = 10)
  if !(up d (u % 8)) then d.stdTokens c tag [(u % 8, t)]
  else
    let d := if (d.cluster c).stdWait.any (fun e => decide (e.2.1 ≠ tag)) then d.stdFlush c else d
    let d := d.onCluster c (fun x => { x with stdWait := x.stdWait.insert (u % 8) (tag, t) })
    if (List.range 4).all (fun l => !(up d l) || ((d.cluster c).stdWait.find l).isSome) then d.stdFlush c else d

/-- LINE_TOKEN of a unit whose path is in use: a slip drops the token (R38); with EN = 0 the receiver rests, and the token shows the
direction's cycle time (R153). -/
def Dev.lineToken (d : Dev) (u route : Nat) (t : RxToken) : Dev :=
  if !(d.pathLive u && d.frontOn u) then d
  else if (d.unit u).dropRx then d.onUnit u (fun x => { x with dropRx := false })
  else if !(d.is F.LU_BU_CTRL_EN u) then
    (d.onRx u (fun x => { x with slowRx := max x.slowRx t.cycle })).htxSend u (d.refa + t.sub) (List.replicate 136 false)
  else if d.duplex (u / 8) then d.rxToken u route t
  else d.stdRx u t

def execLineToken (u : UnitId) (t : RxToken) (s : State) : Host.Outcome State Fault Refusal :=
  s.actK (fun k d => d.lineToken u ((k.fuses.routes.find u.val).getD 0) t)

end Sys2Proof.Machine
end

