-- ==== Sys2Proof/Machine/Receiver.lean ====
section
/-! DEFINITION. The receiver: VGA hold, LQI windows, timing recovery, the latency servo, the pace monitor, presets
(R134 to R172). -/

namespace Sys2Proof.Machine

/-- VGA_HOLD: 2,048 tokens of G0 of a cold start have run (R139). -/
def execVgaHold (u : UnitId) (gain : Fin 32) (s : State) : Host.Outcome State Fault Refusal :=
  s.act (fun d =>
    if d.live u && d.duplex (u / 8) && decide (d.get F.LU_RB_STAT_GEAR u = 0) && !(d.is F.LU_RX_STAT_VGA_HELD u) &&
        d.due ((d.unit u).canc.gearAt + 2048) then
      (d.put F.LU_RX_STAT_VGA u gain).put F.LU_RX_STAT_VGA_HELD u 1
    else d)

/-! Windows of 1,024 tokens begin at REFA counts that are multiples of 1,024 (R146, R153) -/

/-- Windows whose end lies within the present hub cycle or before it. -/
def Dev.windows (d : Dev) : Nat := (d.refa + 3) / 1024

/-- Writes LU_RB_DEPTH once in 64 windows, both fields together (R126). -/
def Dev.depthWindow (d : Dev) (u : Nat) : Dev :=
  let x := (d.unit u).canc
  if x.depth + 1 < 64 then d.onCanc u (fun x => { x with depth := x.depth + 1 })
  else
    let d := d.onCanc u (fun x => { x with depth := 0, powerIn := 0, powerOut := 0, resid := [], farPower := 0 })
    let g := d.get F.LU_RB_STAT_GEAR u
    let some' := decide (g = 3 ∨ g = 4) && !(d.is F.LU_LINE_FRAME_RX_QUIET u) && decide (x.farPower ≠ 0)
    let d := d.put F.LU_RB_DEPTH_ECHO_DEPTH u (tenthDb x.powerIn x.powerOut)
    d.put F.LU_RB_DEPTH_RESID_MARGIN u (if some' then tenthDb x.farPower (residPower x.resid) else 0xFFFF)

/-- A new LQI in a DUPLEX unit, at the end of a window: G3 when G2 has run (R104), the search (R190), READY (R193). -/
def Dev.lqiActs (d : Dev) (u stop : Nat) : Dev :=
  let v := d.get F.LU_RX_LQI_LQI u
  if v = 0xFFFF then d
  else
    let d := if d.get F.LU_RB_STAT_GEAR u = 2 ∧ (d.unit u).canc.g2Done = true ∧ 140 ≤ v then d.enterG3 u stop else
      if d.phaseOf u = 6 then
        let n := d.get F.LU_BU_NEG_TRIALS u
        ((d.onSrch u (fun s => s.window v n)).showSearch u).sendNext u
      else d
    if d.phaseOf u = 7 ∧ (d.unit u).rx.readyLqi ≤ v then (d.enter u 8).put F.LU_BU_STAT_RX_READY u 1 else d

/-- LQI of a window: 10·log10(5 / MSE) over its 68 × 1,024 symbols, in 0.1 dB (R146). -/
def LqiSt.value (q : LqiSt) : Nat := tenthDb (5 * 69632 * 2 ^ 20) q.mse

/-- The sums of a window make an estimate: every token of it is in, and TR_LOCK was set before it (R146). -/
def Dev.estimated (d : Dev) (u w : Nat) : Bool :=
  let x := (d.unit u).rx
  d.is F.LU_RX_STAT_TR_LOCK u && !(d.is F.LU_LINE_FRAME_RX_QUIET u) &&
    decide (x.lqi.win = w ∧ x.lqi.n = 1024 ∧ x.lockTag ≤ 1024 * w)

/-- An estimate enters the monitor interval of its window, when every token of it was in data mode (R243). -/
def Dev.tallyLqi (d : Dev) (u w v : Nat) : Dev :=
  if (d.unit u).rx.lqi.data = 1024 then
    d.tally u (1024 * w) (fun x => { x with est := x.est + 1, sum := x.sum + v, low := min x.low v, high := max x.high v })
  else d

/-- LQI_WINDOW: a window of 1,024 tokens has ended; the next one takes READY_LQI as it is now (R208). A quiet direction holds its
statistics (R73, R126, R142, R146, R165). -/
def execLqiWindow (u : UnitId) (s : State) : Host.Outcome State Fault Refusal :=
  s.act (fun d =>
    let n := d.windows
    let w := n - 1
    if !(d.live u && d.is F.LU_BU_CTRL_EN u) || decide (n ≤ (d.unit u).rx.lqi.due) then d
    else
      let q := (d.unit u).rx.lqi
      let d := d.onRx u (fun x => { x with lqi := { x.lqi with due := n } })
      let d := if q.win = w ∧ 69632 < q.clips * 1000000 then d.unitEvent F.LU_RX_EVT_ADC_CLIP u 0x34 1 0 else d
      let d := d.depthWindow u
      let d := if d.estimated u w then
          let d := (d.tallyLqi u w q.value).put F.LU_RX_LQI_LQI u q.value
          if d.duplex (u / 8) then d.lqiActs u (1024 * n) else d
        else d
      let ready := d.get F.LU_BU_CFG_READY_LQI u
      d.onRx u (fun x => { x with readyLqi := ready }))

/-- TR_LOCK: the phase error variance has stayed below 1/256 symbol² for 4,096 tokens: HOST_TX follows the receive clock, TIMING ends
and the hunt begins at offset 0 (R135, R148, R176, R180). -/
def execTrLock (u : UnitId) (s : State) : Host.Outcome State Fault Refusal :=
  s.act (fun d =>
    if d.pathLive u && d.timing u && !(d.rxHeld u) && !(d.is F.LU_RX_STAT_TR_LOCK u) && decide (4096 ≤ (d.unit u).rx.varLow) then
      let d := (d.put F.LU_RX_STAT_TR_LOCK u 1).put F.LU_RX_STAT_LOOP_TIMED u 1
      let d := d.onRx u (fun x => { x with lockTag := x.tag, silent := 0, trSeen := true })
      if d.phaseOf u = 2 then
        (d.enter u 3).onUnit u (fun x => { x with hdrOffset := 0, rx := { x.rx with hdrRun := 0 } })
      else d
    else d)

/-- TR_LOCK_LOSS: the variance has exceeded 1/64 symbol² for 4,096 tokens: no estimate and no latency any more (R135, R146, R148,
R166). -/
def execTrLockLoss (u : UnitId) (s : State) : Host.Outcome State Fault Refusal :=
  s.act (fun d =>
    if d.pathLive u && d.is F.LU_RX_STAT_TR_LOCK u && decide (4096 ≤ (d.unit u).rx.varHigh) then
      let d := (d.put F.LU_RX_STAT_TR_LOCK u 0).put F.LU_RX_STAT_LOOP_TIMED u 0
      (d.put F.LU_RX_LQI_LQI u 0xFFFF).put F.LU_RX_LAT_LAT u 0
    else d)

/-- TR_RANGE: one step per token for 1,024 tokens (R151); the next event takes 1,024 more. DESIGN CHOICE, log entry 80. -/
def execTrRange (u : UnitId) (s : State) : Host.Outcome State Fault Refusal :=
  s.act (fun d =>
    if d.pathLive u && decide (1024 ≤ (d.unit u).rx.stepRun) then
      (d.onRx u (fun x => { x with stepRun := 0 })).unitEvent F.LU_RX_EVT_TR_RANGE u 0x35 1 0
    else d)

/-- One servo step of the HOST_TX interpolator: n tokens with a sum of residences in 1/6400 token, against 0.98 and 1.02 tokens, or
in SPLIT a sum of holds against 7.84 and 8.16 (R157, R158). -/
def servoStep (split : Bool) (n sum : Nat) : Int :=
  if n * (if split then 52224 else 6528) < sum then 1 else if sum < n * (if split then 50176 else 6272) then -1 else 0

/-- SERVO_WINDOW: at most one step, while timing recovery is locked; LU_RX_LAT, from the latency measured in ps (R135, R157, R158,
R166). A residence that EXIT_RES cannot hold is a free value there, and SERVO_LIMIT is recorded here, at the end of the window. DESIGN
CHOICE, log entries 4 and 80. -/
def execServoWindow (u : UnitId) (latency : Nat) (s : State) : Host.Outcome State Fault Refusal :=
  s.act (fun d =>
    let n := d.windows
    let q := (d.unit u).rx.servo
    if !(d.pathLive u) || decide (n ≤ q.due) then d
    else
      let d := d.onRx u (fun x => { x with servo := { x.servo with due := n } })
      let locked := d.is F.LU_RX_STAT_TR_LOCK u
      let d := d.put F.LU_RX_LAT_LAT u (if locked then min (latency / 10) 0xFFFF else 0)
      if q.win + 1 ≠ n ∨ q.n = 0 then d
      else
        let step := if locked then servoStep (d.split u) q.n q.sum else 0
        let d := d.onHost u (fun x => { x with htxPhase := x.htxPhase + step })
        let res := q.sum / (100 * q.n)
        let d := if res < 256 then d.put F.LU_RX_LAT_EXIT_RES u res
          else (d.freeBelow 256).2.put F.LU_RX_LAT_EXIT_RES u (d.freeBelow 256).1
        if q.out then d.unitEvent F.LU_RX_EVT_SERVO_LIMIT u 0x36 4 0 else d)

/-! The pace monitor -/

/-- A flag of R154 and its count of clear windows, after a window's margin in 0.1 %. -/
def paceFlag (on : Bool) (run thr : Nat) (margin : Int) : Bool × Nat :=
  if margin < thr then (true, 0)
  else if on then
    if (thr : Int) + 20 ≤ margin then (if 63 ≤ run then (false, 0) else (true, run + 1)) else (true, 0)
  else (false, 0)

/-- A unit takes part in the pace measurement (R153). -/
def Dev.paces (d : Dev) (u : Nat) : Bool := d.pathLive u && !(d.bit F.RG_PWR_STAT_CL_DOZE (u / 32) (u / 8 % 4))

/-- The longest cycle time that a unit's directions have shown in the window; a quiet direction shows none (R153). -/
def Dev.slowest (d : Dev) (u : Nat) : Nat :=
  if d.paces u then max (d.unit u).rx.slowRx (d.unit u).rx.slowTx else 0

/-- The unit of a region with the longest cycle time, of equals the lowest, and that time; 0: no unit takes part. -/
def Dev.slowUnit (d : Dev) (q : Nat) : Nat × Nat :=
  (unitsOfRegion q).foldl (fun b u => if b.2 < d.slowest u then (u, d.slowest u) else b) (32 * q, 0)

/-- Margin of a cycle time t, 640 ps / t - 1, in 0.1 %: rounded to the nearest for LAST, and rounded down, which decides against a
threshold as the margin itself does (R153, R154, R159). DEDUCED, log entry 48. -/
def marginNear (t : Nat) : Int := roundDiv (640000 - 1000 * (t : Int)) t
def marginDown (t : Nat) : Int := (640000 - 1000 * (t : Int)) / t

/-- Acts on a window's margin by the thresholds of that window (R154, R172): flags, WARN's class D event at each setting, CRIT's
class B event. -/
def Dev.paceActs (d : Dev) (q : Nat) (m : Int) : Dev :=
  let x := d.region q
  let thr (f : Fld) : Nat := bitsOf x.paceCfg f.hi f.lo
  let crit := thr F.RG_PACE_CFG_CRIT_THR
  let w := paceFlag (d.is F.RG_PACE_STAT_WARN q) x.warnRun (thr F.RG_PACE_CFG_WARN_THR) m
  let h := paceFlag (d.is F.RG_PACE_STAT_SHED q) x.shedRun (thr F.RG_PACE_CFG_SHED_THR) m
  let c := if crit = 0 then (false, 0) else paceFlag (d.is F.RG_PACE_STAT_CRIT q) x.critRun crit m
  let warn := w.1 && !(d.is F.RG_PACE_STAT_WARN q)
  let hot := c.1 && !(d.is F.RG_PACE_STAT_CRIT q)
  let d := ((d.put F.RG_PACE_STAT_WARN q (b2n w.1)).put F.RG_PACE_STAT_SHED q (b2n h.1)).put F.RG_PACE_STAT_CRIT q (b2n c.1)
  let d := d.onRegion q (fun x => { x with warnRun := w.2, shedRun := h.2, critRun := c.2 })
  let d := if warn then d.raise ⟨0x3D, .region q 6, 0, d.tag⟩ else d
  if hot then d.raise ⟨0x10, .region q 6, 0, d.tag⟩ else d

/-- The next pace window uses RG_PACE_CFG as it is now (R172). -/
def Dev.latchPace (d : Dev) (q : Nat) : Dev :=
  let w := d.voted (F.RG_PACE_CFG_WARN_THR.addr q)
  d.onRegion q (fun x => { x with paceCfg := w })

/-- PACE_WINDOW: the lowest margin of the region's units and directions in the window that has ended (R153, R170, R171). LAST stops
at 0x3FE. DESIGN CHOICE, log entry 58. A window in which no unit takes part leaves the flags as they are. DEDUCED, log entry
22. -/
def execPaceWindow (q : RegionId) (s : State) : Host.Outcome State Fault Refusal :=
  s.act (fun d =>
    let n := d.windows
    if !(d.regionLive q) || decide (n ≤ (d.region q).paceDue) then d
    else
      let slow := d.slowUnit q
      let d := d.onRegion q (fun x => { x with paceDue := n })
      let d := d.each (unitsOfRegion q) (fun d u => d.onRx u (fun x => { x with slowRx := 0, slowTx := 0 }))
      if slow.2 = 0 then (d.put F.RG_PACE_STAT_LAST q 0x3FF).latchPace q
      else
        let v := (clampInt 0 0x3FE (marginNear slow.2)).toNat
        let d := (d.put F.RG_PACE_STAT_LAST q v).put F.RG_PACE_STAT_SLOW_UNIT q (slow.1 % 32)
        let d := d.put F.RG_PACE_MIN_MIN q (min v (d.get F.RG_PACE_MIN_MIN q))
        (d.paceActs q (marginDown slow.2)).latchPace q)

/-! Presets -/

/-- Sets PERR of the next status byte (R316). -/
def Dev.refuse (d : Dev) : Dev := { d with port := { d.port with perr := true } }

/-- A preset of 1 to 5 is loaded, discards a buffered LU_TX_FIR value and leaves a step of the same token pending (R162, R169,
R189). -/
def Dev.presetGo (d : Dev) (u p : Nat) : Dev := (d.loadPreset u p).onCo u (fun c => { c with firNew := true })

/-- PRESET_GO: another number than 1 to 5 is dropped whole and sets PERR, as a write to a unit that is off; one to a unit under test
is dropped (R18, R169). -/
def execPresetGo (u : UnitId) (preset : Fin 8) (s : State) : Host.Outcome State Fault Refusal :=
  s.act (fun d =>
    if d.off .lu u 0 then d.refuse
    else if d.tst .lu u then d
    else if 1 ≤ preset.val ∧ preset.val ≤ 5 then (d.put F.LU_TX_CTRL_PRESET u preset).presetGo u preset
    else d.refuse)

end Sys2Proof.Machine
end

