-- ==== Sys2Proof/Machine/Diag.lean ====
section
/-! DEFINITION. The reflection map and the cable class (R258 to R263, R274, R275). -/

namespace Sys2Proof.Machine

/-- Distance in mm of a delay in 1/8 symbol, rounded: delay × 9.412 ps ÷ (16 × VP), VP in 0.01 ps/mm (R258). -/
def distMm (delay vp : Nat) : Nat := min 0xFFFF ((roundDiv (9412 * delay) (160 * vp)).toNat)

/-- A delay lies within NEAR_ZONE of the site plane (R258, R261). -/
def nearBy (delay vp zone : Nat) : Bool := decide (9412 * delay ≤ zone * 160 * vp)

/-! Peaks (R258 to R260) -/

/-- Tap k of a section; beyond its ends: zero. -/
def Section.tap (s : Section) (k : Int) : Int := if k < 0 then 0 else (s.taps[k.toNat]?).getD 0

/-- The taps within 8 symbols of tap k. -/
def Section.near (s : Section) (k : Nat) : List Int := (s.taps.drop (k - 8)).take (min k 8 + 9)

/-- The local peaks of a section at or above a threshold in 0.1 dB below a unit tap, strongest first, at least 4 symbols apart; up to
3 of a window (R259). -/
def Section.peaks (s : Section) (thr : Nat) : List Nat :=
  let size (k : Nat) : Nat := (s.tap k).natAbs
  let ks := (List.range s.taps.length).filter (fun (k : Nat) =>
    decide ((s.tap ((k : Int) - 1)).natAbs < size k ∧ (s.tap (k + 1)).natAbs ≤ size k) &&
      decide (tenthDb (2 ^ 30) (size k * size k) ≤ thr))
  let ks := (ks.mergeSort (fun a b => decide (size b ≤ size a))).foldl
    (fun kept k => if kept.any (fun j => decide (apart j k < 4)) then kept else kept ++ [k]) []
  if s.src = 0 then ks else ks.take 3

/-- The delay of the peak at tap k in 1/8 symbol, by a parabola through it and its two neighbours (R258). -/
def Section.peakDelay (s : Section) (k : Nat) : Nat :=
  let b := s.tap k
  let a := s.tap ((k : Int) - 1) * sgn b
  let c := s.tap (k + 1) * sgn b
  (8 * ((s.start + k : Nat) : Int) + roundDiv (8 * (c - a)) (2 * (2 * (b.natAbs : Int) - a - c))).toNat

/-- The entry of the peak at tap k: Γ from the area of the taps around it and the launch area, corrected for twice the loss of the
cable up to it; LEVEL from the energy of the same taps (R260). -/
def Section.entry (s : Section) (vp gauge area k : Nat) : MapEntry :=
  let ts := s.near k
  let sum : Int := ts.foldl (· + ·) 0
  let delay := s.peakDelay k
  { src := s.src, agg := s.agg, negative := decide (sum < 0)
    gamma := min 255 (sum.natAbs * Config.lossGain gauge (distMm delay vp) / max 1 area)
    delay := delay, level := tapEnergy ts }

/-- The entries of sections (R259). A survey record holds no taps: its Γ is free. DESIGN CHOICE, log entry 4. -/
def Dev.mapEntries (d : Dev) (c : Nat) : List Section → List MapEntry × Dev
  | [] => ([], d)
  | s :: ss =>
    if s.taps.isEmpty && decide (s.src ≠ 0) then
      let g := d.freeBelow 512
      let r := Dev.mapEntries g.2 c ss
      ({ src := s.src, agg := s.agg, negative := decide (256 ≤ g.1), gamma := g.1 % 256, delay := 8 * s.start, level := s.energy } :: r.1,
        r.2)
    else
      let es := (s.peaks ((d.cluster c).winThr)).map
        (s.entry (d.get F.CL_DIAG_CFG_VP c) (d.get F.CL_DIAG_CFG_GAUGE c) (d.cluster c).launchArea)
      let r := Dev.mapEntries d c ss
      (es ++ r.1, r.2)

/-- Dense or window energy at or above -55 dB at delays 3,024 to 3,071: echo beyond the reach of R83 (R261). -/
def beyondReach (secs : List Section) : Bool :=
  secs.any (fun s =>
    let ts := s.taps.zipIdx.filterMap (fun e => if 3024 ≤ s.start + e.2 ∧ s.start + e.2 ≤ 3071 then some e.1 else none)
    decide (s.src ≤ 2) && decide (tapEnergy ts ≤ 550))

/-- The map of R259: the 16 candidates with the largest |Γ|, by ascending delay. -/
def mapOf (es : List MapEntry) : List MapEntry :=
  ((es.mergeSort (fun a b => decide (b.gamma ≤ a.gamma))).take 16).mergeSort (fun a b => decide (a.delay ≤ b.delay))

/-- The two words of a map entry (R275). -/
def entryWords (e : MapEntry) (vp : Nat) : Word × Word :=
  (BitVec.ofNat 32 (e.src % 8 * 2 ^ 29 + (if e.src = 5 then e.agg % 8 else 0) * 2 ^ 26 + b2n e.negative * 2 ^ 25 +
      min e.gamma 255 * 2 ^ 16 + e.delay % 2 ^ 16),
   BitVec.ofNat 32 (distMm e.delay vp * 2 ^ 16 + 2 ^ 15 + min e.level 0xFFF))

/-- The entry with the largest |Γ|, the nearest of equals. -/
def strongest : List MapEntry → Option MapEntry
  | [] => none
  | e :: r =>
    match strongest r with
    | none => some e
    | some b => if b.gamma ≤ e.gamma then some e else some b

/-- Class and FAULT_DIST by the first rule of R261 that matches, over a map sorted by delay. `swap`: the first rule's port
condition; `sweep`: crosstalk counts; `beyond`: echo beyond the reach of R83. No FAULT_DIST: no reflection decides, and R261
states no distance (log entry 4). -/
def classify (es : List MapEntry) (vp zone : Nat) (swap sweep beyond : Bool) : Nat × Option Nat :=
  let far (e : MapEntry) : Bool := !(nearBy e.delay vp zone)
  let own := es.filter (fun e => e.src ≠ 5)
  let dist (e : MapEntry) : Option Nat := some (distMm e.delay vp)
  if swap then (6, none)
  else match es.find? (fun e => sweep && decide (e.src = 5 ∧ e.level ≤ 300) && far e) with
  | some e => (6, dist e)
  | none => match own.find? (fun e => !(far e) && !e.negative && decide (128 ≤ e.gamma)) with
    | some e => (5, dist e)
    | none => match own.find? (fun e => far e && e.negative && decide (128 ≤ e.gamma)) with
      | some e => (3, dist e)
      | none => match own.find? (fun e => far e && !e.negative && decide (128 ≤ e.gamma)) with
        | some e => (2, dist e)
        | none => match own.find? (fun e => far e && decide (64 ≤ e.gamma)) with
          | some e => (4, dist e)
          | none => if beyond then (4, none) else (1, some (((strongest (own.filter far)).map (fun e => distMm e.delay vp)).getD 0))

/-- Replaces a unit's whole result and map at one instant (R263, R274) from its sections and from what a sweep has found; the
class. -/
def Dev.diagWrite (d : Dev) (u mode reason : Nat) (swap : Bool) (secs : List Section) (found : List MapEntry) : Nat × Dev :=
  let c := u / 8
  let l := u % 8
  let vp := d.get F.CL_DIAG_CFG_VP c
  let m := d.mapEntries c secs
  let d := m.2
  let es := mapOf (m.1 ++ found)
  let r := classify es vp (d.get F.CL_DIAG_CFG_NEAR_ZONE c) swap (decide (mode = 3)) (beyondReach secs)
  let d := d.each (List.range 16) (fun d i =>
    let w := match es[i]? with
      | some e => entryWords e vp
      | none => (0, 0)
    (d.report ((F.CL_DIAG_MAP_W0_SRC (16 * l + i)).addr c) w.1).report ((F.CL_DIAG_MAP_W1_DIST (16 * l + i)).addr c) w.2)
  let d := match r.2 with
    | some n => d.put (F.CL_DIAG_U_FAULT_DIST l) c n
    | none => (d.freeBelow 0x10000).2.put (F.CL_DIAG_U_FAULT_DIST l) c (d.freeBelow 0x10000).1
  let d := d.put (F.CL_DIAG_U_CLASS l) c r.1
  let d := d.put (F.CL_DIAG_U_UNCANC l) c (b2n (es.any (fun e => e.src = 4)))
  (r.1, d.diagStat u mode reason)

/-- The lane of a run has its result: DETAIL of the operation notes a class other than OK and a reason other than 0 (R377). -/
def Dev.diagLane (d : Dev) (u mode reason : Nat) (secs : List Section) (found : List MapEntry) (slot : Nat) : Dev :=
  let r := d.diagWrite u mode reason (d.pairSwap u) secs found
  r.2.onEntry slot (fun e => { e with
    noted := if r.1 = 1 then e.noted else e.noted ++ [u % 8]
    odd := if reason = 0 then e.odd else e.odd ++ [u % 8] })

/-- A lane that cannot be mapped: MODE, REASON 5 and SEQ only (R265). -/
def Dev.diagNone (d : Dev) (u mode slot : Nat) : Dev :=
  (d.diagStat u mode 5).onEntry slot (fun e => { e with failed := e.failed ++ [u % 8] })

/-- A unit that no diagnostic run maps: under test, off, in DOZE or DEEP (R265). -/
def Dev.diagAway (d : Dev) (u : Nat) : Bool :=
  d.tst .lu u || d.off .lu u 0 || d.bit F.RG_PWR_STAT_CL_DOZE (u / 32) (u / 8 % 4)

/-- Ends a diagnostic run and its operation. -/
def Dev.diagDone (d : Dev) (c slot : Nat) : Dev :=
  let n := ((d.entry slot).map (fun e => (targetLanes e.target).length)).getD 8
  (d.onCluster c (fun x => { x with diag := none })).endMulti slot n

/-- The next dwell of a SWEEP from history h and position p on: the own history skips positions that overlap the dense
section or a placed window (R264). -/
def Dev.nextDwell (d : Dev) (u h p : Nat) : Option (Nat × Nat) :=
  ((List.range (8 * 62)).filter (fun n => decide (62 * h + p ≤ n))).find?
      (fun n => decide (62 ≤ n) || startFree (d.dense (u / 8)) (d.starts u) (surveyStart (n % 62)))
    |>.map (fun n => (n / 62, n % 62))

/-- Takes the next lane of a SWEEP (R264, R265); a lane without a free block or not in G4 has only its SNAP result to come. -/
def Dev.sweepNext (d : Dev) (c : Nat) (r : DiagSt) : List Nat → Dev
  | [] => d.diagDone c r.slot
  | l :: ls =>
    let u := 8 * c + l
    let d := (d.onEntry r.slot (fun e => { e with stepNo := l })).showLeft r.slot (ls.length + 1)
    if d.cut r.slot then d.diagDone c r.slot
    else if d.diagAway u then Dev.sweepNext (d.diagNone u 3 r.slot) c r ls
    else
      let start (reason : Nat) (d : Dev) : Dev :=
        d.onCluster c (fun x => { x with diag := some { slot := r.slot, mode := 3, lane := l, todo := ls, reason := reason } })
      if d.get F.LU_RB_STAT_GEAR u ≠ 4 then start 2 d
      else match d.freeBlock c d.refa, d.nextDwell u 0 0 with
        | some b, some n =>
          let run : DiagSt := { slot := r.slot, mode := 3, lane := l, todo := ls, against := n.1, pos := n.2 }
          (d.probeAt u b (surveyStart n.2) d.refa).onCluster c (fun x => { x with diag := some run })
        | _, _ => start 1 d

/-- Maps lanes of a SNAP one by one, as they stand (R264, R265). -/
def Dev.snapLanes (d : Dev) (c slot : Nat) (ls : List Nat) : Dev :=
  d.each ls (fun d l =>
    let u := 8 * c + l
    if d.diagAway u then d.diagNone u 2 slot else d.diagLane u 2 0 (d.sections u) [] slot)

/-- A SNAP reports the lane it has come to: the lanes before it have their maps (R264, R378). -/
def Dev.snapStep (d : Dev) (c slot lane : Nat) : Dev :=
  match (d.cluster c).diag with
  | none => d
  | some r =>
    if r.slot = slot ∧ r.mode = 2 ∧ r.todo.contains lane = true then
      let d := d.snapLanes c slot ((r.lane :: r.todo).filter (fun l => decide (l < lane)))
      ((d.onCluster c (fun x => { x with diag := some { r with lane := lane, todo := r.todo.filter (fun l => decide (lane < l)) } })).onEntry
        slot (fun e => { e with stepNo := lane })).showLeft slot ((r.todo.filter (fun l => decide (lane ≤ l))).length)
    else d

/-- A lane of a COLD run whose survey is still to end: its attempt is in G0 or G1. -/
def Dev.coldPending (d : Dev) (c : Nat) (r : DiagSt) (l : Nat) : Bool :=
  let u := 8 * c + l
  (r.taken.find l).isNone && !(d.diagAway u) && d.duplex c && d.is F.LU_BU_CTRL_EN u && decide (d.get F.LU_RB_STAT_GEAR u ≤ 1) &&
    decide (1 ≤ d.phaseOf u ∧ d.phaseOf u ≤ 10)

/-- The end of a SNAP or COLD run (R263 to R265, R274): the maps still to come are written, a COLD run's from its surveys. A lane
that no survey of this run maps, since its unit is not enabled or has failed, shows its sections as they stand. DESIGN CHOICE, log
entry 60. Lanes of a cancelled run that are not yet in progress are skipped (R381). -/
def Dev.diagEnd (d : Dev) (c slot : Nat) (e : OpEntry) : Dev :=
  let cut := e.cancel || e.late
  match (d.cluster c).diag with
  | none => d
  | some r =>
    if r.slot ≠ slot ∨ r.mode = 3 then d
    else if r.mode = 2 then (d.snapLanes c slot (if cut then [r.lane] else r.lane :: r.todo)).diagDone c slot
    else if !cut && r.todo.any (d.coldPending c r) then d
    else
      let d := d.each r.todo (fun d l =>
        let u := 8 * c + l
        if d.diagAway u then d.diagNone u 4 slot
        else match r.taken.find l with
          | some secs => d.diagLane u 4 0 secs [] slot
          | none => if cut then d else d.diagLane u 4 0 (d.sections u) [] slot)
      d.diagDone c slot

/-- SWEEP_DWELL_END: the probe's dwell of 4,096 tokens against one history has run, and its peaks join those found; after the last
one the unit's map is written from its sections as they stand and the peaks. A lane whose sweep has ended early, or could not
begin, has its SNAP result (R264, R265). -/
def execSweepDwellEnd (u : UnitId) (s : State) : Host.Outcome State Fault Refusal :=
  s.act (fun d =>
    let c := u.val / 8
    let l := u.val % 8
    match (d.cluster c).diag with
    | none => d
    | some r =>
      if r.mode ≠ 3 ∨ r.lane ≠ l then d
      else if r.reason ≠ 0 then
        (d.diagLane u 3 r.reason ((r.taken.find l).getD (d.sections u)) [] r.slot).sweepNext c r r.todo
      else match (d.unit u).canc.probe with
        | none => (d.diagLane u 3 3 (d.sections u) [] r.slot).sweepNext c r r.todo
        | some b =>
          if !(d.live u && d.dwelt u 12 4096) then d
          else
            let now := ((d.unit u).canc.winAt.find 12).getD 0 + 4096
            let taps := d.taps c (8 * d.slotsT c + 48 * b) 48
            let found := d.mapEntries c [{ src := if r.against = 0 then 6 else 5
                                           agg := if r.against = 0 then 0 else otherLane l (r.against - 1)
                                           start := d.winStart u 12, taps := taps }]
            let all := r.found ++ found.1
            match d.nextDwell u r.against (r.pos + 1) with
            | some n =>
              let run := { r with against := n.1, pos := n.2, found := all }
              (d.onCluster c (fun x => { x with diag := some run })).probeAt u b (surveyStart n.2) now
            | none => ((d.probeOff u).diagLane u 3 0 (d.sections u) all r.slot).sweepNext c r r.todo)

end Sys2Proof.Machine
end

