-- ==== Sys2Proof/Machine/Transmit.lean ====
section
/-! DEFINITION. HOST_RX_TOKEN: the line-bound direction, from the host's token to the pins of the pair: deskew, codewords, training
frames, notices, countdown and resume, markers, scrambler, FIR and history (R40 to R42, R50 to R72, R159, R186 to R197, R222, R249).
-/

namespace Sys2Proof.Machine

/-! Control bodies -/

/-- PORT_CHK that a unit sends (R55). Of a unit in no port: WIDTH 0, BASE its own lane, POS 0. DESIGN CHOICE, log entry 58. -/
def Dev.portChk (d : Dev) (u : Nat) : Nat :=
  if d.inPort u then d.portNibble u % 4 + 4 * d.base u + 32 * d.pos u else 4 * (u % 8)

/-- The bits b0 to b117 of the control body that a unit sends now, as a number (R55). -/
def Dev.bodyNow (d : Dev) (u cf phase bit switchCnt : Nat) : Nat :=
  let x := d.unit u
  let tstate := if x.tx = .announce then 14
    else if x.tx = .training ∨ x.tx = .countdown then d.phaseOf u else 10
  let req := match x.co.req with
    | some r => if x.tx = .training ∧ x.co.holding = false then r.tap + 8 * r.action + 32 * r.preset else 0
    | none => 0
  let fields : List (Nat × Nat) :=
    [(0, cf), (4, x.txSeq), (8, tstate), (12, 0x1F), (28, b2n (d.split u)), (30, b2n x.co.precReq),
     (31, d.get F.LU_LINE_FRAME_TX_PRECODE u), (32, d.portChk u), (40, req), (50, x.co.rspTap + 8 * x.co.rspStatus),
     (56, d.get F.LU_RX_LQI_LQI u), (72, d.get F.LU_BU_STAT_RX_READY u), (73, switchCnt), (77, phase), (95, bit)]
  fields.foldl (fun n f => n + f.2 * 2 ^ f.1) 0

/-- CF_TYPE of a transmit mode (R55). -/
def txCf (t : TxMode) : Nat :=
  match t with
  | .quietNotice => 12
  | .holdNotice | .hold => 5
  | .resume => 3
  | _ => 6

/-! The marker grid of the transmitter -/

/-- Bit time at the transmitter of a marker of the line-bound stream: HOST_RX's after deskew, in SPLIT later by its delay (R64,
R159). -/
def Dev.txGrid (d : Dev) (u : Nat) : Nat := (d.unit u).host.txBase + (if d.split u then 136 * splitTx else 0)

/-- MARKER_PHASE and MARKER_BIT of the first marker at or after the first bit of a token (R68, R70, R194). -/
def Dev.nextMark (d : Dev) (u tag : Nat) : Nat × Nat :=
  let k := toMark (d.txGrid u) (136 * tag)
  (k / 136, k % 136)

/-- Sets the transmitter on a notice, announcement or countdown of n steps. -/
def Dev.txGo (d : Dev) (u n : Nat) (m : TxMode) : Dev :=
  d.onUnit u (fun x => { x with tx := m, txWant := none, txLeft := n, txBlock := 0 })

/-- A unit's lane of HOST_RX carries the stream: LOCKED, with the lock of R219 for R68 and R71: its own, and in a port of more units
the port's deskew. -/
def Dev.amHeld (d : Dev) (u : Nat) : Bool :=
  d.is F.LU_HOST_STAT_AM_LOCK u && (!(d.inPort u) || d.hostSet (d.portOf u))

/-- The resume sequence may start from QUIET: 64 tokens of zero output after the notice, HOST_RX with its lock, the cluster awake
(R72, R76). -/
def Dev.mayResume (d : Dev) (u tag : Nat) : Bool :=
  decide ((d.unit u).tx = .quiet ∧ (d.unit u).quietAt + 64 ≤ tag) && d.amHeld u && !(d.dozing (u / 8))

/-- The resume sequence of 12 frames starts; TX_QUIET clears. DESIGN CHOICE, log entry 58. -/
def Dev.resumeGo (d : Dev) (u : Nat) : Dev :=
  ((d.put F.LU_LINE_FRAME_TX_QUIET u 0).txGo u 12 .resume).onUnit u (fun x => { x with rouse := false })

/-- Ahead of a token: a notice or an announcement that waits begins once none of its tokens holds a marker bit (R69, R197), and with a
quiet notice TX_QUIET is set; the countdown begins with the next frame (R194); a direction that is allowed QUIET no more wakes (R420).
DESIGN CHOICE, log entries 58 and 74. -/
def Dev.txBegin (d : Dev) (u tag : Nat) : Dev :=
  let x := d.unit u
  match x.txWant, x.tx with
  | some .quietNotice, .data =>
    if marksIn (d.txGrid u) tag 8 then d else (d.put F.LU_LINE_FRAME_TX_QUIET u 1).txGo u 8 .quietNotice
  | some .holdNotice, .data => if marksIn (d.txGrid u) tag 8 then d else d.txGo u 8 .holdNotice
  | some .announce, .data => if marksIn (d.txGrid u) tag 24 then d else d.txGo u 24 .announce
  | some .countdown, .training =>
    if x.txBlock = 0 then
      let n := max 1 (d.get F.LU_BU_CFG_SWITCH_LEN u)
      let mark := d.nextMark u (tag + 40 * n)
      (d.txGo u n .countdown).onUnit u (fun x => { x with txMark := mark })
    else d
  | _, .quiet => if x.rouse && d.mayResume u tag then d.resumeGo u else d
  | _, _ => d

/-! Training-format blocks (R52 to R56, R60, R192, R194) -/

/-- The next training-format block of a unit: its bits, scrambled. MARKER_PHASE and MARKER_BIT are those of the countdown or of the
last frame of a resume sequence, and else 0. DESIGN CHOICE, log entry 58. -/
def Dev.txBlockOut (d : Dev) (u tag : Nat) : List Bool × Dev :=
  let x := d.unit u
  let every := decide (x.tx = .announce ∨ x.tx = .quietNotice ∨ x.tx = .holdNotice)
  let control := every || decide (x.txBlock = 0)
  let mark := if x.tx = .countdown then x.txMark else if x.tx = .resume ∧ x.txLeft ≤ 1 then d.nextMark u (tag + 40) else (0, 0)
  let n := d.bodyNow u (txCf x.tx) mark.1 mark.2 (if x.tx = .countdown then x.txLeft else 0)
  let block := if control then blockOf true false (sealBody n) else blockOf false true (List.replicate 134 false)
  let r := scramble hdrPos 0 x.scr block
  (r.1, d.onUnit u (fun x => { x with
    scr := r.2
    txSeq := if control then (x.txSeq + 1) % 16 else x.txSeq
    txBlock := if every then 0 else (x.txBlock + 1) % 40
    co := { x.co with frames := if decide (x.tx = .training) && control && x.co.req.isSome then x.co.frames + 1 else x.co.frames } }))

/-- The line's pattern generator restarts at an entry to data mode (R249). -/
def MonSt.restartLine (x : MonSt) : MonSt := { x with lineGen := if x.genPt = 1 then some x.genPat else none, genN := 0 }

/-- The transmitter enters data mode after the last symbol of a countdown or resume sequence: a pattern restarts (R68, R70,
R249). -/
def Dev.txDataStart (d : Dev) (u : Nat) : Dev :=
  d.onUnit u (fun x => { x with
    tx := .data, txLeft := 0, resumed := decide (x.tx = .resume)
    host := { x.host with txBody := [] }, mon := x.mon.restartLine })

/-- What follows a block: a notice or an announcement runs out, a frame of a countdown or resume sequence is counted. -/
def Dev.txBlockDone (d : Dev) (u tag : Nat) : Dev :=
  let x := d.unit u
  let less (d : Dev) : Dev := d.onUnit u (fun x => { x with txLeft := x.txLeft - 1 })
  match x.tx with
  | .quietNotice => if x.txLeft ≤ 1 then d.onUnit u (fun x => { x with tx := .quiet, quietAt := tag + 1 }) else less d
  | .holdNotice => if x.txLeft ≤ 1 then d.onUnit u (fun x => { x with tx := .hold, txBlock := 0 }) else less d
  | .announce => if x.txLeft ≤ 1 then d.announced u else less d
  | .countdown | .resume => if x.txBlock ≠ 0 then d else if x.txLeft ≤ 1 then d.txDataStart u else less d
  | _ => d

/-! Steps 1 to 5 of R40 -/

/-- A HOST_RX token after polarity and precoding (R213, R241). -/
def Dev.hostBits (d : Dev) (u : Nat) (w : BitVec 136) : List Bool × Dev :=
  let gs := graysOf (tokBits w)
  let gs := if d.is (F.DIE_XBAR_U_HRX_INV (u % 64)) (u / 64) then negate gs else gs
  let r := if d.is F.LU_HOST_CFG_HRX_PRECODE u then decodePre (d.unit u).host.rxPrev gs else (gs, 0)
  (bitsOfGrays r.1, d.onHost u (fun x => { x with rxPrev := r.2 }))

/-- The payload of the line-bound direction at a token: HOST_RX after the deskew of R222, in SPLIT its re-encoded codewords (R41,
R64, R222, R245, R250). The checker at HOST_RX reads the bits after polarity and precoding. DEDUCED, log entry 57. -/
def Dev.txPayload (d : Dev) (u : Nat) (t : HostToken) : List Bool × Dev :=
  let tag := d.refa + t.sub
  let h := d.hostBits u t.bits
  let d := if d.is F.LU_HOST_STAT_CDR_LOCK u then h.2.patFeed u 2 h.1 else h.2
  let dly := d.get F.LU_HOST_STAT_HRX_DLY u
  let out := delayBits (d.unit u).host.rxBuf h.1 dly
  let quiet := d.is F.LU_LINE_FRAME_TX_QUIET u
  let d := d.onUnit u (fun x => { x with
    rx := { x.rx with slowTx := if quiet then x.rx.slowTx else max x.rx.slowTx t.cycle }
    host := { x.host with rxBuf := keepBits 512 x.host.rxBuf h.1, rxAt := 136 * (tag + 1) } })
  let d := d.mendBits u (136 * tag) h.1.length false
  let d := if d.get F.LU_HOST_STAT_HRX_STATE u = 4 then d.hostCw u tag (((d.unit u).host.amPos + dly) % amPeriod) out else d
  let m := (d.unit u).mon
  if !(d.split u) then (out, d)
  else match (if splitTx ≤ tag then fromQueue m.hostOut m.hostOutAt (136 * (tag - splitTx)) else none) with
    | some q => (q, d.onMon u (fun x => { x with
        hostOut := x.hostOut.drop (136 * (tag - splitTx) + 136 - x.hostOutAt), hostOutAt := 136 * (tag - splitTx) + 136 }))
    | none => d.freeToken

/-! Data mode (R60, R61, R64, R249, R252) -/

/-- The line pattern generator at a token: a change takes effect at the codeword boundary of the marker grid, and the pattern goes on
over payload positions only (R249). `mine`: the marker bit of each position. -/
def Dev.linePattern (d : Dev) (u tag : Nat) (mine : Nat → Bool) (payload : List Bool) : List Bool × Dev :=
  let m := (d.unit u).mon
  let want := if m.genPt = 1 then some m.genPat else none
  let cut := toCw (d.txGrid u) (136 * tag)
  let turn := decide (cut < 136) && decide (want ≠ m.lineGen)
  let gen (i : Nat) : Option Nat := if turn && decide (cut ≤ i) then want else m.lineGen
  let r := payload.zipIdx.foldl (fun (a : List Bool × Nat) e =>
    let n := if turn && decide (e.2 = cut) then 0 else a.2
    match gen e.2 with
    | some p => if mine e.2 then (a.1 ++ [e.1], n) else (a.1 ++ [patBit p n], n + 1)
    | none => (a.1 ++ [e.1], n)) ([], m.genN)
  let used := decide (want.isSome || m.lineGen.isSome)
  (r.1, d.onMon u (fun x => { x with lineGen := if turn then want else m.lineGen, genN := if used then r.2 else m.genN }))

/-- A codeword under injection that a token completes is done with. -/
def Dev.hitDone (d : Dev) (u tag : Nat) : Dev :=
  d.onMon u (fun x => { x with
    hit := if !x.hitHost && (x.hit.map (fun h => decide (h.1 + cwBits ≤ 136 * (tag + 1)))).getD false then none else x.hit })

/-- A token of data mode: payload or pattern, error injection, the marker, the scrambler. A marker that an interruption cut short is
not resumed: its other bits carry payload. DESIGN CHOICE, log entry 58. -/
def Dev.txData (d : Dev) (u tag : Nat) (payload : List Bool) : List Bool × Dev :=
  let base := d.txGrid u
  let idx (i : Nat) : Option Nat := markIdx base (136 * tag + i)
  let starts := decide (toMark base (136 * tag) < 136)
  let x := d.unit u
  let body := if starts then sealBody (d.bodyNow u 9 (amPeriod / 136) (base % 136) 0) else x.host.txBody
  let open' (i : Nat) : Bool := !(x.host.txBody.isEmpty) || (starts && decide (toMark base (136 * tag) ≤ i))
  let mine (i : Nat) : Bool := (idx i).isSome && open' i
  let p := d.linePattern u tag mine payload
  let d := p.2
  let bs := if x.mon.hitHost then p.1 else inject x.mon.hit tag p.1
  let marker (k : Nat) : Bool := if k = 0 then true else if k = 1 then false else (body[k - 2]?).getD false
  let bs := bs.mapIdx (fun i b => if mine i then (match idx i with | some k => marker k | none => b) else b)
  let r := scramble (fun i => mine i && ((idx i).map (fun k => decide (k < 2))).getD false) 0 x.scr bs
  let ends := (markIdx base (136 * (tag + 1))).isNone
  (r.1, (d.onUnit u (fun x => { x with
    scr := r.2
    txSeq := if starts then (x.txSeq + 1) % 16 else x.txSeq
    host := { x.host with txBody := if ends then [] else body } })).hitDone u tag)

/-! Steps 7 to 10 of R40 -/

/-- The pair that a unit's transmitter drives: its own, in SIMPLEX that of the lane four higher (R42). -/
def Dev.txPair (d : Dev) (u : Nat) : Nat := if d.duplex (u / 8) then u else u + 4

/-- Codes of a token go to the pins of the pair, and in DUPLEX to the history, at the launch of R159: the tag plus N_TX, less the two
symbols by which the FIR looks ahead (R90, R159, R160). -/
def Dev.pins (d : Dev) (u tag : Nat) (codes syms : List Int) : Dev :=
  let dsk := b2n (d.inPort u && decide (1 < d.width u))
  let dup := d.duplex (u / 8)
  let d := d.onUnit u (fun x => { x with
    txSyms := syms, canc := if dup then x.canc.push (68 * (tag + 3 + dsk) - 2) codes else x.canc })
  let d := if dup then d.mendHist u (68 * (tag + 3 + dsk) - 2) codes.length else d
  d.onUnit (d.txPair u) (fun x => { x with lineOut := if codes.all (fun v => decide (v = 0)) then none else some codes })

/-- The last four symbols sent, oldest first; before the first one: zero. -/
def Dev.lastSyms (d : Dev) (u : Nat) : List Int := (((d.unit u).txSyms ++ [0, 0, 0, 0]).take 4).reverse

/-- Precoding, FIR with the copy to the history, the pins. -/
def Dev.launch (d : Dev) (u tag : Nat) (bs : List Bool) (pre : Bool) : Dev :=
  let r := if pre then precode (d.unit u).txPrev (graysOf bs) else (graysOf bs, 0)
  let run := d.lastSyms u ++ r.1.map levelOf
  let d := d.onUnit u (fun x => { x with txPrev := r.2 })
  d.pins u tag (firRun (firTaps (d.word (F.LU_TX_FIR_C0.addr u))) run) (run.reverse.take 4)

/-- Zero differential output for one token; the two symbols still in the FIR go out first. -/
def Dev.launchZero (d : Dev) (u tag : Nat) : Dev :=
  let run := d.lastSyms u ++ List.replicate 68 0
  let codes := (firRun (firTaps (d.word (F.LU_TX_FIR_C0.addr u))) run).take 2 ++ List.replicate 66 0
  d.pins u tag codes [0, 0, 0, 0]

/-! HOST_RX_TOKEN -/

/-- One token of the line-bound direction of a DUPLEX unit, whatever its transmitter sends. -/
def Dev.txToken (d : Dev) (u : Nat) (t : HostToken) : Dev :=
  let tag := d.refa + t.sub
  let p := d.txPayload u t
  let d := (p.2.txBegin u tag).onCo u (fun c => { c with firNew := false })
  match (d.unit u).tx with
  | .zero | .quiet => d.launchZero u tag
  | .data =>
    let r := d.txData u tag p.1
    r.2.launch u tag r.1 (r.2.is F.LU_LINE_FRAME_TX_PRECODE u)
  | _ =>
    let was := d.is F.LU_LINE_FRAME_TX_PRECODE u
    let due : Bool := match (d.unit u).co.precAge with
      | some n => decide (8 ≤ n ∧ (d.unit u).txBlock = 0 ∧ (d.unit u).tx = .training)
      | none => false
    let d := if due then (d.put F.LU_LINE_FRAME_TX_PRECODE u 1).onCo u (fun c => { c with precAge := none })
      else d.onCo u (fun c => { c with precAge := c.precAge.map (· + 1) })
    let r := d.txBlockOut u tag
    (r.2.launch u tag r.1 was).txBlockDone u tag

/-- One token of the line-bound direction of a SIMPLEX lane: in STATE 10 payload or pattern, with injection; what the standard's
training sends is free (R42, R80, R206, R249, R252). DESIGN CHOICE, log entry 4. -/
def Dev.stdToken (d : Dev) (u : Nat) (t : HostToken) : Dev :=
  let tag := d.refa + t.sub
  let p := d.txPayload u t
  let st := p.2.get F.LU_BU_STAT_STATE u
  if st = 10 ∧ p.2.mapped u = true ∧ p.2.inPort u = true then
    let r := p.2.linePattern u tag (fun _ => false) p.1
    let m := (r.2.unit u).mon
    let bs := if m.hitHost then r.1 else inject m.hit tag r.1
    (r.2.hitDone u tag).launch u tag bs (r.2.is F.LU_LINE_FRAME_TX_PRECODE u)
  else if st = 11 then
    let n := p.2.draws
    (p.2.setDraws (n + 1)).launch u tag (tokBits (Config.stdFrame n)) false
  else p.2.launchZero u tag

/-- The signal of a lane that serves no unit of a port is ignored (R217): it brings no bits. -/
def Dev.heard (d : Dev) (u : Nat) (t : HostToken) : HostToken :=
  if d.mapped u && d.inPort u then t else { t with bits := 0 }

/-- HOST_RX_TOKEN of a unit whose path is in use: a slip drops the token (R38); with EN = 0 the output is zero, and the token shows
the direction's cycle time (R90, R153, R174). -/
def Dev.hostToken (d : Dev) (u : Nat) (t : HostToken) : Dev :=
  if !(d.pathLive u && d.frontOn u) then d
  else if (d.unit u).dropHrx then d.onUnit u (fun x => { x with dropHrx := false })
  else if !(d.is F.LU_BU_CTRL_EN u) then
    (d.onRx u (fun x => { x with slowTx := max x.slowTx t.cycle })).launchZero u (d.refa + t.sub)
  else if d.duplex (u / 8) then d.txToken u (d.heard u t)
  else d.stdToken u (d.heard u t)

/-- HOST_RX_TOKEN: a token of global HOST_RX lane n, 64 times the die plus the local lane, reaches the unit that the crossbar gives
the lane (R40, R216). -/
def execHostRxToken (n : UnitId) (t : HostToken) (s : State) : Host.Outcome State Fault Refusal :=
  s.act (fun d => d.hostToken (d.laneUnit n) t)

end Sys2Proof.Machine
end

