-- ==== Sys2Proof/Machine/Line.lean ====
section
/-! DEFINITION. The line's events: slips, markers and line-side deskew, control bodies, notices, hold, resume, silence, header and
descrambler lock, the switch to data (R38, R57 to R76, R117, R180 to R198, R224). -/

namespace Sys2Proof.Machine

/-! Crossings -/

/-- Bit of LU_RX_EVT and SUB of a buffer's slip (R167, R471). -/
def slipFld (b : Buf) : Fld :=
  match b with
  | .lineRx => F.LU_RX_EVT_SLIP_RXL
  | .hostTx => F.LU_RX_EVT_SLIP_HTX
  | .hostRx => F.LU_RX_EVT_SLIP_HRX
  | .lineTx => F.LU_RX_EVT_SLIP_TXL

/-- ELASTIC_SLIP: the buffer is re-centred at its start fill; an entry buffer drops the token that its writer hands on next, an
exit buffer repeats the token that stands at its pins; the slip is a fault event at the unit (R36, R38). -/
def execElasticSlip (u : UnitId) (b : Buf) (s : State) : Host.Outcome State Fault Refusal :=
  s.act (fun d =>
    if !(d.pathLive u) then d
    else
      let i := match b with | .lineRx => 0 | .hostTx => 1 | .hostRx => 2 | .lineTx => 3
      let sub := match b with | .lineRx => 1 | .hostTx => 4 | .hostRx => 3 | .lineTx => 2
      let d := d.onUnit u (fun x => { x with
        dropRx := x.dropRx || decide (i = 0), dropHrx := x.dropHrx || decide (i = 2)
        fills := (if i = 0 then 0 else x.fills.1, if i = 1 then 2 else x.fills.2.1,
         if i = 2 then 0 else x.fills.2.2.1, if i = 3 then 2 else x.fills.2.2.2) })
      d.unitEvent (slipFld b) u 0x23 sub (BitVec.ofNat 32 (2 ^ i)))

/-! Line-side deskew (R224) -/

/-- Distance of a bit time from another one within half a marker period, with its sign. -/
def markGap (a b : Nat) : Int :=
  let k := (a + amPeriod - b % amPeriod) % amPeriod
  if 2 * k < amPeriod then (k : Int) else (k : Int) - amPeriod

/-- Of units with places on a common scale: the latest and the earliest, of equals the lowest, and how far apart they are. -/
def spread (pos : Nat → Int) (us : List Nat) (first : Nat) : Nat × Nat × Int :=
  let late := us.foldl (fun b u => if pos b < pos u then u else b) first
  let early := us.foldl (fun b u => if pos u < pos b then u else b) first
  (late, early, pos late - pos early)

/-- A unit's markers lie at a bit time of their period: the place that the deskew of its port measures and later markers confirm
(R224). -/
def Dev.setPlace (d : Dev) (u : Nat) (t : Option Nat) : Dev :=
  d.onRx u (fun x => { x with place := t.map (· % amPeriod) })

/-- Sets the line-side deskew of a port whose units all receive data and know the place of their markers: delays to the latest lane,
or SKEW_LIMIT, after which each lane's next marker is measured (R223, R224). -/
def Dev.lineDeskew (d : Dev) (p : Nat) : Dev :=
  let us := d.portUnits p
  let c := p / 8
  if d.width p = 1 then (d.put F.LU_HOST_STAT_LINE_DLY p 0).showDsk p
  else if !(us.all (fun u => decide (d.get F.LU_LINE_FRAME_RX_FMT u = 2) && (d.unit u).rx.place.isSome)) then d
  else
    let place (u : Nat) : Nat := ((d.unit u).rx.place).getD 0
    let pos (u : Nat) : Int := markGap (place u) (place p)
    let x := spread pos us p
    if 360 < x.2.2 then
      let d := (d.onCluster c (fun x => { x with lineDsk := x.lineDsk.filter (· ≠ p % 8) })).each us (fun d u => d.setPlace u none)
      let d := if d.portUp p then d.putBit F.CL_PORT_STAT_UP c (p % 8) false |>.unitEvent F.LU_HOST_EVT_PORT_DOWN x.1 0x25 0 0 else d
      (d.unitEvent F.LU_HOST_EVT_SKEW_LIMIT x.1 0x3B 4 0).showDsk p
    else
      let d := us.foldl (fun d u => d.put F.LU_HOST_STAT_LINE_DLY u (pos x.1 - pos u).toNat) d
      let d := d.onCluster c (fun x => { x with lineDsk := (p % 8) :: x.lineDsk.filter (· ≠ p % 8) })
      d.showDsk p

/-- The line-side deskew of a unit's port is measured, where the unit is in a port. -/
def Dev.deskewLine (d : Dev) (u : Nat) : Dev := if d.inPort u then d.lineDeskew (d.portOf u) else d

/-! Control bodies (R57, R58, R184 to R186, R192, R196) -/

/-- The far PORT_CHK agrees with the own one in WIDTH and POS (R58). -/
def Dev.chkAgrees (d : Dev) (u chk : Nat) : Bool :=
  decide (chk % 4 = d.portChk u % 4 ∧ chk / 32 % 8 = d.portChk u / 32 % 8)

/-- READY's limit stops while PORT_MISMATCH = 1 and goes on with the count it had (R178). -/
def Dev.readyPause (d : Dev) (u : Nat) (was bad : Bool) : Dev :=
  let now := d.refa
  d.onUnit u (fun x =>
    if bad && !was then { x with waited := x.waited + (now - x.stateAt) }
    else if was && !bad then { x with stateAt := now } else x)

/-- The check of R58 on an accepted body. -/
def Dev.portCheck (d : Dev) (u chk : Nat) : Dev :=
  let was := d.is F.LU_LINE_FRAME_PORT_MISMATCH u
  let bad := !(d.chkAgrees u chk)
  let moved := (d.unit u).far.seen && decide ((d.unit u).far.chk ≠ chk)
  let d := (d.put F.LU_LINE_FRAME_PORT_MISMATCH u (b2n bad)).readyPause u was bad
  let d := d.onUnit u (fun x => { x with far := { x.far with chk := chk } })
  if bad && (!was || moved) then d.unitEvent F.LU_LINE_EVT_PORT_MISMATCH_SEEN u 0x31 1 0 else d

/-- A transmitter in data mode goes back to training frames; the unit's state is READY, or the state that its receiver holds if that
is earlier: HUNT while the descrambler is not locked, with the limit of a return (R182, R196). DEDUCED, log entry 59. -/
def Dev.txReturn (d : Dev) (u : Nat) : Dev :=
  let d := d.portFail u
  let n := d.draws
  let d := d.onUnit u (fun x => { x with tx := .training, txWant := none, txBlock := 0, scr := freshScr n, txPrev := 0 })
  let d := ((d.setDraws (n + 1)).put F.LU_LINE_FRAME_TX_PRECODE u 0).put F.LU_LINE_FRAME_TX_HOLD u 0
  let d := d.put F.LU_LINE_FRAME_TX_QUIET u 0
  let st := if d.is F.LU_LINE_FRAME_DESCR_LOCK u then 8 else 3
  let d := if st = 8 then d.put F.LU_BU_STAT_RX_READY u 1 else d
  (d.enter u st).onUnit u (fun x => { x with rehunt := decide (st = 3) })

/-- The far end precodes from block 1 of the frame whose body says so: where no block has passed since, its first symbol follows
P(n-1) = 0 (R51, R192). -/
def Dev.farPrecode (d : Dev) (u tag : Nat) : Dev :=
  let d := (d.put F.LU_LINE_FRAME_FAR_PRECODE u 1).onRx u (fun x => { x with fromZero := decide (x.tag = tag + 1) })
  if (d.unit u).co.precReq then d.put F.LU_BU_EVT_PRECODE_SET u 1 else d

/-- Switch points and markers that a body of the training direction, or of a resume sequence, announces (R68, R70, R195). -/
def Dev.farMark (d : Dev) (u tag cf cnt phase bit : Nat) : Dev :=
  let fmt := d.get F.LU_LINE_FRAME_RX_FMT u
  if cf = 6 ∧ fmt = 1 ∧ cnt ≠ 0 then
    d.onRx u (fun x => { x with dataAt := some (tag + 40 * cnt), mark := some (136 * (tag + 40 * cnt + phase) + bit), markBits := [] })
  else if cf = 3 ∧ fmt = 3 then
    d.onRx u (fun x => { x with
      hdrRun := if x.resume.isNone && !(d.is F.LU_LINE_FRAME_RX_QUIET u) then x.tag - tag else x.hdrRun
      resume := some (tag, phase, bit) })
  else d

/-- What an accepted body tells, where it updates the far values. `tag`: the token of the block. -/
def Dev.farBody (d : Dev) (u tag : Nat) (b : BitVec 134) : Dev :=
  let f := bodyField b
  let cf := f 3 0
  let cap := f 27 12
  let check := !((d.unit u).far.seen) || decide (cap ≠ d.get F.LU_BU_NEG_FAR_CAP u)
  let ts := f 11 8
  let known := decide (1 ≤ ts ∧ ts ≤ 10 ∨ ts = 14)
  let training := decide (cf = 6) && decide (d.get F.LU_LINE_FRAME_RX_FMT u = 1)
  let restart := (d.unit u).far.high && decide (ts = 1 ∨ ts = 2)
  let d := ((d.put F.LU_LINE_FRAME_FAR_CF u cf).put F.LU_LINE_FRAME_FAR_SEQ u (f 7 4)).put F.LU_LINE_FRAME_FAR_FEC u (f 29 28)
  let d := ((d.put F.LU_BU_NEG_FAR_CAP u cap).put F.LU_BU_NEG_FAR_PRECODE_REQ u (f 30 30)).put F.LU_BU_STAT_FAR_READY u (f 72 72)
  let d := if training && decide (f 31 31 = 1) && !(d.is F.LU_LINE_FRAME_FAR_PRECODE u) then d.farPrecode u tag else d
  let d := d.portCheck u (f 39 32)
  let d := d.onUnit u (fun x => { x with far := { x.far with
    seen := true
    tstate := if known then ts else x.far.tstate
    high := x.far.high || (known && decide (3 ≤ ts)) } })
  if check && decide (cap % 2 = 0 ∨ cap / 16 % 16 ≠ 1) then
    (d.unitEvent F.LU_BU_EVT_CAP_MISMATCH u 0x39 0 0).attemptFail u 5
  else
    let d := d.farMark u tag cf (f 76 73) (f 94 77) (f 102 95)
    let d := if restart then
        ((d.put F.LU_BU_EVT_FAR_RESTART u 1).put F.LU_LINE_FRAME_DESCR_LOCK u 0).onRx u (fun x => { x with
          descrOk := false, badBlocks := 0, dataAt := none, mark := none, markBits := [] })
      else d
    let d := if training then (d.reqIn u (f 42 40) (f 44 43) (f 47 45)).rspIn u (f 52 50) (f 55 53) else d
    let d := if training && decide (f 30 30 = 1) && !(d.is F.LU_LINE_FRAME_TX_PRECODE u) &&
        decide ((d.unit u).co.precAge = none) then d.onCo u (fun c => { c with precAge := some 0 }) else d
    let d := if d.phaseOf u = 4 then (d.enter u 5).follow u else d
    let inData := decide (d.get F.LU_BU_STAT_STATE u = 10)
    if inData && decide (d.get F.LU_LINE_FRAME_RX_FMT u = 1) && known && decide (ts < 8) then d.txReturn u else d

/-- A body that its CRC or its type rejects (R57, R245). -/
def Dev.bodyLost (d : Dev) (u : Nat) : Dev :=
  (d.addUnitCount u 0x448 1).unitEvent F.LU_LINE_EVT_CRC_ERR u 0x30 1 0

/-- A received control body is accepted or rejected; in training a body of another type than 0x6 starts nothing (R57). -/
def Dev.controlBlock (d : Dev) (u tag : Nat) (b : BitVec 134) : Dev :=
  if !(bodyOk b) then d.bodyLost u
  else if d.get F.LU_LINE_FRAME_RX_FMT u = 1 ∧ bodyField b 3 0 ≠ 6 then d
  else d.farBody u tag b

/-- CONTROL_BLOCK: the eldest control body that the receiver has read is judged (R57, R63). -/
def execControlBlock (u : UnitId) (s : State) : Host.Outcome State Fault Refusal :=
  s.act (fun d =>
    match (d.unit u).rx.bodies with
    | [] => d
    | (tag, b) :: r =>
      if !(d.lineLive u && d.is F.LU_LINE_FRAME_HDR_LOCK u) then d
      else (d.onRx u (fun x => { x with bodies := r })).controlBlock u tag b)

/-! Markers (R65, R67, R181, R223, R224, R233) -/

/-- A marker at a bit time confirms the line-side deskew of its port, or deviates from its place by more than 8 bits: DESKEW_ERR,
and the port is down until one that confirms (R224). While the deskew is not set the measurement is repeated (R223). -/
def Dev.confirm (d : Dev) (u t : Nat) (valid : Bool) : Dev :=
  let c := u / 8
  if !(d.inPort u && decide (1 < d.width u)) then d
  else if !(valid && (((d.unit u).rx.place.map (fun p => decide ((markGap t p).natAbs ≤ 8))).getD true)) then
    let d := d.put F.LU_HOST_EVT_DESKEW_ERR u 1
    let d := d.onCluster c (fun x => { x with lineBad := (u % 8) :: x.lineBad.filter (· ≠ u % 8) })
    (d.portFail u).showDsk (d.portOf u)
  else
    let d := (d.onCluster c (fun x => { x with lineBad := x.lineBad.filter (· ≠ u % 8) })).showDsk (d.portOf u)
    let d := if (d.unit u).rx.place.isSome then d else d.setPlace u (some t)
    if (d.cluster c).lineDsk.contains (d.base u) then d else d.lineDeskew (d.portOf u)

/-- A marker of a DUPLEX direction: header, body, the place that it announces for the next one (R64, R67, R181, R224). -/
def Dev.marker (d : Dev) (u m : Nat) (bits : BitVec 240) : Dev :=
  let d := d.checkHeader u (m / 136) (bits.getLsbD 0 && !(bits.getLsbD 1))
  let b := BitVec.ofNat 134 (bits.toNat / 4)
  if !(bodyOk b) then d.bodyLost u
  else
    let next := 136 * (m / 136 + bodyField b 94 77) + bodyField b 102 95
    let d := (d.farBody u (m / 136) b).onRx u (fun x => { x with mark := x.mark.map (fun _ => next), markBits := [] })
    d.confirm u next true

/-- A marker of a SIMPLEX direction is valid when no more than 3 of its bits differ, as at HOST_RX (R219, R233). An invalid one
ahead of the deskew was none: the stream is searched anew. DEDUCED, log entry 57. -/
def Dev.stdMarker (d : Dev) (u m : Nat) (bits : BitVec 240) : Dev :=
  let am := Config.amBits (d.width u) (d.pos u)
  let valid := decide (bitDiff ((List.range 240).map bits.getLsbD) ((List.range 240).map am.getLsbD) ≤ 3)
  if (d.unit u).rx.place.isSome then d.confirm u m valid
  else if valid then (d.setPlace u (some m)).confirm u m true
  else d.onRx u (fun x => { x with mark := none, markBits := [] })

/-- LINE_MARKER: the eldest marker that the receiver has read whole is judged (R65, R67, R224, R233). -/
def execLineMarker (u : UnitId) (s : State) : Host.Outcome State Fault Refusal :=
  s.act (fun d =>
    match (d.unit u).rx.marks with
    | [] => d
    | (m, bits) :: r =>
      if !(d.pathLive u && d.rxData u) then d
      else
        let d := d.onRx u (fun x => { x with marks := r })
        if d.duplex (u / 8) then d.marker u m bits else d.stdMarker u m bits)

/-! Notices, hold and resume on the receive side (R69 to R75, R198) -/

/-- The last token ended a run of at least n control blocks of a type. -/
def Dev.noticed (d : Dev) (u cf n : Nat) : Bool :=
  let x := (d.unit u).rx
  decide (x.notice.1 = cf ∧ n ≤ x.notice.2.1 ∧ x.notice.2.2 + 1 = x.tag)

/-- QUIET_NOTICE: four quiet notice blocks: the direction goes quiet; what depends on the far signal is held (R69, R73, R232). -/
def execQuietNotice (u : UnitId) (s : State) : Host.Outcome State Fault Refusal :=
  s.act (fun d =>
    if d.lineLive u && d.rxData u && d.noticed u 12 4 then
      let d := d.put F.LU_LINE_FRAME_RX_QUIET u 1
      (d.onRx u (fun x => { x with notice := (0, 0, 0), energetic := 0 })).rxGone u 2
    else d)

/-- HOLD_NOTICE: four hold notice blocks: HOLD_SEEN; the unit counts as not up, so its port goes down (R69, R71, R230). -/
def execHoldNotice (u : UnitId) (s : State) : Host.Outcome State Fault Refusal :=
  s.act (fun d =>
    if d.lineLive u && d.rxData u && d.noticed u 5 4 then
      let d := (d.put F.LU_LINE_EVT_HOLD_SEEN u 1).put F.LU_LINE_FRAME_RX_FMT u 3
      ((d.onRx u (fun x => { x with notice := (0, 0, 0), hdrRun := 0, resume := none, badBlocks := 0 })).rxGone u 1).portFail u
    else d)

/-- RETRAIN_ANNOUNCEMENT: LOL, FAR_RETRAIN and a new attempt: in data mode after eight blocks, in hold, resume handling or after a
wake after one (R198). -/
def execRetrainAnnouncement (u : UnitId) (s : State) : Host.Outcome State Fault Refusal :=
  s.act (fun d =>
    if d.lineLive u && ((d.rxData u && d.noticed u 6 8) || (decide (d.get F.LU_LINE_FRAME_RX_FMT u = 3) && d.noticed u 6 1)) then
      ((d.lossOfLock u).put F.LU_BU_EVT_FAR_RETRAIN u 1).attempt u .relock false
    else d)

/-- The resume sequence that ends with the last token was good: 64 headers in a row, and its last body accepted (R70). -/
def RxSt.resumed (x : RxSt) : Option (Nat × Nat × Nat) :=
  if 64 ≤ x.hdrRun then x.resume.filter (fun r => decide (r.1 + 40 = x.tag)) else none

/-- RESUME_SEQUENCE: the sequence has ended: data mode again on the marker position that it announced, or loss of lock with
RESUME_FAIL and a new attempt (R70, R105, R150, R224). RX_QUIET clears here. DESIGN CHOICE, log entry 58. -/
def execResumeSequence (u : UnitId) (s : State) : Host.Outcome State Fault Refusal :=
  s.act (fun d =>
    if !(d.lineLive u && decide (d.get F.LU_LINE_FRAME_RX_FMT u = 3)) then d
    else match (d.unit u).rx.resumed with
      | some (tag, phase, bit) =>
        let d := (d.put F.LU_LINE_FRAME_RX_FMT u 2).put F.LU_LINE_FRAME_RX_QUIET u 0
        let m := 136 * (tag + 40 + phase) + bit
        ((d.onRx u (fun x => { x with
          mark := some m, markBits := [], resume := none, notice := (0, 0, 0), silent := 0 })).setPlace u (some m)).deskewLine u
      | none => ((d.lossOfLock u).unitEvent F.LU_LINE_EVT_RESUME_FAIL u 0x22 1 0).attempt u .relock false)

/-- Resume handling of a quiet direction begins: the descrambler reloads; HOST_TX will carry fill until payload (R63, R70, R74,
R232). -/
def Dev.resumeHandling (d : Dev) (u : Nat) : Dev :=
  ((d.put F.LU_LINE_FRAME_RX_FMT u 3).put F.LU_LINE_FRAME_DESCR_LOCK u 0).onUnit u (fun x => { x with
    rx := { x.rx with hdrRun := 0, descrOk := false, badBlocks := 0, resume := none, notice := (0, 0, 0) }
    host := { x.host with fill := true } })

/-- WAKE_ENERGY: 32 energetic tokens in a row in a quiet direction (R74, R152). -/
def execWakeEnergy (u : UnitId) (s : State) : Host.Outcome State Fault Refusal :=
  s.act (fun d =>
    if d.lineLive u && d.rxHeld u && !(d.dozing (u / 8)) && decide (32 ≤ (d.unit u).rx.energetic) then d.resumeHandling u else d)

/-! Resume on the transmit side (R70, R71, R76, R77) -/

/-- RESUME_START: from QUIET, 64 tokens of zero output after the notice, or from hold at the end of a frame, once HOST_RX holds
alignment-marker lock: 12 frames of resume sequence (R54, R70, R71, R72, R76). -/
def execResumeStart (u : UnitId) (s : State) : Host.Outcome State Fault Refusal :=
  s.act (fun d =>
    if d.lineLive u && (d.mayResume u d.refa ||
        (decide ((d.unit u).tx = .hold ∧ (d.unit u).txBlock = 0) && d.amHeld u && !(d.dozing (u / 8)))) then d.resumeGo u
    else d)

/-- RESUME_SEND_END: the resume sequence has been sent; TX_HOLD reads 1 until then. DESIGN CHOICE, log entry 58. A HOST_RX lock lost
meanwhile is a hold now (R71). -/
def execResumeSendEnd (u : UnitId) (s : State) : Host.Outcome State Fault Refusal :=
  s.act (fun d =>
    if d.lineLive u && (d.unit u).resumed && decide ((d.unit u).tx = .data) then
      let d := (d.put F.LU_LINE_FRAME_TX_HOLD u 0).onUnit u (fun x => { x with resumed := false })
      if d.amHeld u then d else d.enterHold u
    else d)

/-! Silence (R75, R117) -/

/-- A unit has declared SILENCE: the eighth within 1 ms of the first makes the cable-change start (R117). -/
def Dev.declareSilent (d : Dev) (u : Nat) : Dev :=
  let c := u / 8
  let now := d.time
  let d := d.onUnit u (fun x => { x with holdEnd := now + 390625 })
  let ls := (u % 8) :: (d.cluster c).silent.filter (fun l => decide (l ≠ u % 8 ∧ now < (d.unit (8 * c + l)).holdEnd))
  let d := d.onCluster c (fun x => { x with silent := (u % 8) :: x.silent.filter (· ≠ u % 8) })
  if 8 ≤ ls.length then d.clusterStart c else d

/-- SILENCE: 1,024 silent tokens in data mode: loss of lock with SILENCE; the retrain is held for 1 ms (R75, R117, R152). -/
def execSilence (u : UnitId) (s : State) : Host.Outcome State Fault Refusal :=
  s.act (fun d =>
    if !(d.lineLive u && d.rxData u && decide (1024 ≤ (d.unit u).rx.silent)) then d
    else
      let d := (d.lossOfLock u).unitEvent F.LU_LINE_EVT_SILENCE u 0x21 1 0
      let d := ((d.rxGone u 1).put F.LU_LINE_FRAME_RX_FMT u 0).put F.LU_LINE_FRAME_HDR_LOCK u 0
      let d := ((d.put F.LU_LINE_FRAME_DESCR_LOCK u 0).onRx u RxSt.unlocked).portFail u
      (d.put F.LU_BU_STAT_STATE u 16).declareSilent u)

/-- SIL_HOLD: the 1 ms are over: a silent unit retrains, a backoff after LOST_FAR may end by energy again (R117, R202). -/
def execSilHold (u : UnitId) (s : State) : Host.Outcome State Fault Refusal :=
  s.act (fun d =>
    let c := u.val / 8
    if !((d.cluster c).silent.contains (u % 8) && decide ((d.unit u).holdEnd ≤ d.time)) then d
    else
      let d := d.onCluster c (fun x => { x with silent := x.silent.filter (· ≠ u % 8) })
      let d := d.onUnit u (fun x => { x with lostHold := false })
      if d.lineLive u && decide (d.get F.LU_BU_STAT_STATE u = 16) then d.attempt u .relock false else d)

/-! Lock (R63, R180 to R183, R192) -/

/-- HEADER_LOCK: 64 valid headers in a row at the candidate offset (R116, R143, R148, R180). -/
def execHeaderLock (u : UnitId) (s : State) : Host.Outcome State Fault Refusal :=
  s.act (fun d =>
    if d.lineLive u && d.is F.LU_RX_STAT_TR_LOCK u && decide (d.phaseOf u = 3) && !(d.is F.LU_LINE_FRAME_HDR_LOCK u) &&
        decide (64 ≤ (d.unit u).rx.hdrRun) then
      let d := ((d.put F.LU_LINE_FRAME_HDR_LOCK u 1).put F.LU_LINE_FRAME_RX_FMT u 1).put F.LU_RX_STAT_TR_ACQ u 0
      (d.put F.LU_LINE_FRAME_DESCR_LOCK u 0).onUnit u (fun x => { x with
        hdrWin := [], rx := { x.rx.unlocked with hdrRun := x.rx.hdrRun }, canc := { x.canc with nextUntilLock := false } })
    else d)

/-- Header lock is gone; the hunt, when it comes, begins at offset 0. DEDUCED, log entry 57. -/
def Dev.headerLost (d : Dev) (u : Nat) : Dev :=
  let d := (d.put F.LU_LINE_FRAME_HDR_LOCK u 0).put F.LU_LINE_FRAME_DESCR_LOCK u 0
  let d := (d.put F.LU_LINE_FRAME_RX_FMT u 0).put F.LU_BU_STAT_RX_READY u 0
  d.onUnit u (fun x => { x with hdrWin := [], hdrOffset := 0, rx := x.rx.unlocked })

/-- HEADER_LOCK_LOSS: 16 of the last 64 headers were invalid; by the state that follows the transmitter (R181, R182, R193). -/
def execHeaderLockLoss (u : UnitId) (s : State) : Host.Outcome State Fault Refusal :=
  s.act (fun d =>
    if !(d.lineLive u && d.is F.LU_LINE_FRAME_HDR_LOCK u && decide (16 ≤ ((d.unit u).hdrWin.filter (fun b => !b)).length)) then d
    else
      let st := d.phaseOf u
      if st = 10 then (d.lossOfLock u).attempt u .relock false
      else if 4 ≤ st ∧ st ≤ 8 then
        (((d.rxGone u 1).headerLost u).dropExchanges u |>.enter u 3).onUnit u (fun x => { x with rehunt := true })
      else (d.rxGone u 1).headerLost u)

/-- DESCR_LOCK: 64 predicted bits have matched: HUNT ends (R63, R176). -/
def execDescrLock (u : UnitId) (s : State) : Host.Outcome State Fault Refusal :=
  s.act (fun d =>
    if d.lineLive u && d.is F.LU_LINE_FRAME_HDR_LOCK u && !(d.is F.LU_LINE_FRAME_DESCR_LOCK u) && (d.unit u).rx.descrOk then
      let d := d.put F.LU_LINE_FRAME_DESCR_LOCK u 1
      if d.phaseOf u = 3 then (d.enter u 4).onUnit u (fun x => { x with rehunt := false }) else d
    else d)

/-- DESCR_UNLOCK: four data blocks in a row with eight mismatches or more: the descrambler counts as unlocked and reloads (R63). In
data mode it runs unchecked. -/
def execDescrUnlock (u : UnitId) (s : State) : Host.Outcome State Fault Refusal :=
  s.act (fun d =>
    if d.lineLive u && decide (d.get F.LU_LINE_FRAME_RX_FMT u ≠ 2) && decide (4 ≤ (d.unit u).rx.badBlocks) then
      (d.put F.LU_LINE_FRAME_DESCR_LOCK u 0).onRx u (fun x => { x with descrOk := false, badBlocks := 0 })
    else d)

/-- RX_INV: 60 or more of 80 headers were control headers: the receiver toggles its inversion and starts descrambler lock again
(R183). -/
def execRxInv (u : UnitId) (s : State) : Host.Outcome State Fault Refusal :=
  s.act (fun d =>
    let c := (d.unit u).rx.ctl
    if d.lineLive u && d.is F.LU_LINE_FRAME_HDR_LOCK u && decide (d.phaseOf u = 3) && decide (c.1 = 80 ∧ 60 ≤ c.2) then
      ((d.put F.LU_LINE_FRAME_RX_INV u (1 - d.get F.LU_LINE_FRAME_RX_INV u)).put F.LU_LINE_FRAME_DESCR_LOCK u 0).onRx u
        (fun x => { x with ctl := (0, 0), descrOk := false, badBlocks := 0 })
    else d)

/-- PRECODE_SET: while its request stands, the receiver adopts the precoded interpretation: the headers of blocks 1 to 4 of a frame
were all valid under it and not all without (R192). -/
def execPrecodeSet (u : UnitId) (s : State) : Host.Outcome State Fault Refusal :=
  s.act (fun d =>
    let x := (d.unit u).rx
    if d.lineLive u && (d.unit u).co.precReq && decide (d.get F.LU_LINE_FRAME_RX_FMT u = 1) &&
        !(d.is F.LU_LINE_FRAME_FAR_PRECODE u) && decide (x.coded4 = 4 ∧ x.plain4 < 4) then
      (d.put F.LU_LINE_FRAME_FAR_PRECODE u 1).put F.LU_BU_EVT_PRECODE_SET u 1
    else d)

/-! The switch to data (R68, R71, R193 to R195, R224) -/

/-- SWITCH_START: the conditions of R68 hold and the port matches: SWITCH; the countdown begins with the next frame (R176, R178,
R186, R194). -/
def execSwitchStart (u : UnitId) (s : State) : Host.Outcome State Fault Refusal :=
  s.act (fun d =>
    if d.lineLive u && decide (d.phaseOf u = 8) && decide ((d.unit u).tx = .training) && d.amHeld u &&
        d.is F.LU_BU_STAT_FAR_READY u && d.is F.LU_BU_STAT_RX_READY u && !(d.is F.LU_LINE_FRAME_PORT_MISMATCH u) then
      ((d.dropExchanges u).enter u 9).onUnit u (fun x => { x with txWant := some .countdown })
    else d)

/-- µs between two REFA counts, one of which is 640 ps (R210). -/
def tokensUs (n : Nat) : Nat := n * 640 / 1000000

/-- DATA_MODE_ENTRY: the frame with SWITCH_CNT = 1 has been sent: the transmitter is in data mode; FAIL_CNT clears. A header lock lost
during the countdown is now a loss of lock in data mode; a HOST_RX lock lost meanwhile is now a hold (R71, R176, R182, R193,
R204, R210). -/
def execDataModeEntry (u : UnitId) (s : State) : Host.Outcome State Fault Refusal :=
  s.act (fun d =>
    if !(d.lineLive u && decide (d.get F.LU_BU_STAT_STATE u = 9) && decide ((d.unit u).tx = .data)) then d
    else
      let d := ((d.enter u 10).put F.LU_BU_STAT_RX_READY u 0).clearFails u
      let d := d.put F.LU_BU_TIME_UP_TIME u (min (tokensUs (d.refa - (d.unit u).attemptAt)) 0xFFFF)
      if !(d.is F.LU_LINE_FRAME_HDR_LOCK u) then (d.lossOfLock u).attempt u .relock false
      else if !(d.amHeld u) then d.enterHold u else d)

/-- RX_DATA_START: the announced switch point has come: the receive direction is in data mode, and the line-side deskew of its port
is measured from the announced marker (R195, R224, R226). -/
def execRxDataStart (u : UnitId) (s : State) : Host.Outcome State Fault Refusal :=
  s.act (fun d =>
    if d.lineLive u && d.is F.LU_LINE_FRAME_HDR_LOCK u && d.is F.LU_LINE_FRAME_DESCR_LOCK u &&
        decide (d.get F.LU_LINE_FRAME_RX_FMT u = 1) && (((d.unit u).rx.dataAt.map d.due).getD false) then
      let c := u.val / 8
      let d := (d.put F.LU_LINE_FRAME_RX_FMT u 2).onRx u (fun x => { x with dataAt := none, notice := (0, 0, 0), silent := 0 })
      let d := d.setPlace u (d.unit u).rx.mark
      (d.onCluster c (fun x => { x with lineBad := x.lineBad.filter (· ≠ u % 8) })).deskewLine u
    else d)

end Sys2Proof.Machine
end

