-- ==== Sys2Proof/Machine/Bringup.lean ====
section
/-! DEFINITION. Bring-up: enabling, retraining, limits, failures, backoff, the standard's training (R173 to R207). -/

namespace Sys2Proof.Machine

/-- EN takes a value (R174); setting it wakes the unit's domain (R416). -/
def Dev.setEn (d : Dev) (u : Nat) (v : Bool) : Dev :=
  if d.is F.LU_BU_CTRL_EN u = v then d else if v then (d.enableUnit u).wakeUnit u else d.disableUnit u

/-- A write command to a unit: dropped with PERR where the unit is off, dropped where it is under test (R18). -/
def Dev.unitCommand (d : Dev) (u : Nat) (f : Dev → Dev) : Dev :=
  if d.off .lu u 0 then d.refuse else if d.tst .lu u then d else f d

/-- EN: the unit is enabled or disabled (R18, R174). -/
def execEn (u : UnitId) (v : Bool) (s : State) : Host.Outcome State Fault Refusal :=
  s.act (fun d => d.unitCommand u (fun d => d.setEn u v))

/-- RETRAIN: an attempt under R175 and R205. -/
def execRetrain (u : UnitId) (s : State) : Host.Outcome State Fault Refusal :=
  s.act (fun d => d.unitCommand u (fun d => d.retrainUnit u))

/-- CLR_FAIL: FAIL_CNT clears; from DOWN a cold attempt starts (R175, R204). -/
def Dev.clrFail (d : Dev) (u : Nat) : Dev :=
  let down := decide (d.get F.LU_BU_STAT_STATE u = 18)
  let d := d.clearFails u
  if down then d.startUnit u .comeback false else d

def execClrFail (u : UnitId) (s : State) : Host.Outcome State Fault Refusal :=
  s.act (fun d => d.unitCommand u (fun d => d.clrFail u))

/-! Limits (R176 to R178, R182, R200) -/

/-- REFA count at which the limit of the present state passes; none: the state has none, or it is suspended (R176 to R178, R182).
READY's applies again when far RX_READY falls back to 0. DESIGN CHOICE, log entry 59. -/
def Dev.limitAt (d : Dev) (u : Nat) : Option Nat :=
  let x := d.unit u
  let m := if x.double then 2 else 1
  let span (cold warm : Nat) : Option Nat :=
    some (x.attemptAt + m * (if x.cold then cold + d.extension u else warm))
  let st := d.phaseOf u
  if st = 2 then span 81920 32768
  else if st = 3 then (if x.rehunt then some (x.stateAt + m * 65536) else span 344064 262144)
  else if st = 4 then some (x.stateAt + m * 4096)
  else if st = 5 then span 868352 786432
  else if st = 7 then some (x.canc.gearAt + m * 262144)
  else if st = 8 then
    (if d.is F.LU_LINE_FRAME_PORT_MISMATCH u || d.is F.LU_BU_STAT_FAR_READY u then none
      else some (x.stateAt + m * 2097152 - x.waited))
  else none

/-- The mean energy of the last 1,024 tokens lies below ED_SIL_THR (R152, R200). -/
def Dev.noEnergy (d : Dev) (u : Nat) : Bool :=
  let es := (d.unit u).rx.energies
  belowFs (es.foldl (· + ·) 0) (68 * max 1 es.length) (d.get F.LU_RX_CFG_ED_SIL_THR u)

/-- The reason of a failure at the limit of a state (R176, R200). -/
def Dev.limitReason (d : Dev) (u : Nat) : Nat :=
  let st := d.phaseOf u
  if st = 2 then (if d.noEnergy u then 1 else 2)
  else if st = 3 then 3 else if st = 4 then 4 else if st = 5 then 6 else if st = 7 then 7 else 8

/-- STATE_LIMIT: the limit of the present state passes (R176, R177, R200, R201). -/
def execStateLimit (u : UnitId) (s : State) : Host.Outcome State Fault Refusal :=
  s.act (fun d =>
    if d.lineLive u && ((d.limitAt u).map d.due).getD false then d.attemptFail u (d.limitReason u) else d)

/-- LOST_FAR: after TR_LOCK was set in the attempt the cancelled signal stayed below ED_SIL_THR for 1,024 tokens (R152, R200); it
counts as a declaration of SILENCE (R117). A countdown runs to its end (R194). -/
def execLostFar (u : UnitId) (s : State) : Host.Outcome State Fault Refusal :=
  s.act (fun d =>
    let st := d.phaseOf u
    if !(d.lineLive u && (d.unit u).rx.trSeen && decide (1024 ≤ (d.unit u).rx.silent)) then d
    else if st = 9 then (d.rxGone u 1).headerLost u
    else if (2 ≤ st ∧ st ≤ 8) ∨ (st = 10 ∧ d.get F.LU_LINE_FRAME_RX_FMT u = 1) then (d.attemptFail u 9).declareSilent u
    else d)

/-- FAILURE_CLASSIFICATION: the cable class of the last failure, from the echo sections kept at it (R201, R263). -/
def execFailureClassification (u : UnitId) (s : State) : Host.Outcome State Fault Refusal :=
  s.act (fun d =>
    match (d.unit u).canc.copy with
    | none => d
    | some secs =>
      if !(d.live u) then d
      else
        let r := (d.onCanc u (fun x => { x with copy := none })).diagWrite u 1 0 (d.unit u).swapped secs []
        r.2.put F.LU_BU_STAT_CABLE u r.1)

/-! Backoff (R202) -/

/-- BACKOFF_END: the backoff's time is over: a cold attempt starts (R175, R202). -/
def execBackoffEnd (u : UnitId) (s : State) : Host.Outcome State Fault Refusal :=
  s.act (fun d =>
    if d.live u && decide (d.get F.LU_BU_STAT_STATE u = 17 ∧ (d.unit u).boEnd ≤ d.time) then d.startUnit u .comeback false else d)

/-- BO_WAKE: 32 energetic tokens in a row end a backoff, but for the hold after LOST_FAR (R152, R202). -/
def execBoWake (u : UnitId) (s : State) : Host.Outcome State Fault Refusal :=
  s.act (fun d =>
    if d.live u && decide (d.get F.LU_BU_STAT_STATE u = 17) && !((d.unit u).lostHold) && decide (32 ≤ (d.unit u).rx.energetic) then
      (d.put F.LU_BU_EVT_BO_WAKE u 1).startUnit u .comeback false
    else d)

/-! SIMPLEX (R80, R123, R206) -/

/-- What the standard's link training leaves in a lane: its taps, within R161, and the precoding of both directions are free. DESIGN
CHOICE, log entry 4. A start under SHED is slow (R154); a pattern on the line restarts (R249). -/
def Dev.stdTrained (d : Dev) (u : Nat) : Dev :=
  let w := d.freeBelow (2 ^ 31)
  let a := F.LU_TX_FIR_C0.addr u
  let d := if firOk (BitVec.ofNat 32 w.1) then w.2.report a (BitVec.ofNat 32 w.1) else w.2
  let p := d.freeBelow 4
  let d := (p.2.put F.LU_LINE_FRAME_TX_PRECODE u (p.1 % 2)).put F.LU_LINE_FRAME_FAR_PRECODE u (p.1 / 2)
  let now := d.refa
  let shed := d.is F.RG_PACE_STAT_SHED (u / 32)
  d.onUnit u (fun x => { x with canc := { x.canc with gearAt := now, slow := shed }, mon := x.mon.restartLine })

/-- STD_TRAINING_END: the lane is up and its FEXT cancellers start from zero, or the attempt failed (R123, R206). -/
def execStdTrainingEnd (u : UnitId) (ok : Bool) (s : State) : Host.Outcome State Fault Refusal :=
  s.act (fun d =>
    if !(d.pathLive u && !(d.duplex (u / 8)) && decide (d.get F.LU_BU_STAT_STATE u = 11)) then d
    else if ok then
      let c := u.val / 8
      let d := ((d.clearFails u).put F.LU_BU_STAT_STATE u 10).put F.LU_LINE_FRAME_HDR_LOCK u 1
      let d := (d.zeroSlots c (72 * (u % 8)) 72).put F.LU_RB_STAT_GEAR u 3
      let d := ((d.stdTrained u).put F.LU_LINE_FRAME_RX_FMT u 2).put F.LU_BU_TIME_UP_TIME u
        (min (tokensUs (d.refa - (d.unit u).attemptAt)) 0xFFFF)
      (d.onCluster c (fun x => { x with lineBad := x.lineBad.filter (· ≠ u % 8) })).deskewLine u
    else d.attemptFail u 10)

/-- STD_LINK_LOSS: loss of lock, and a new attempt (R86, R206, R245). -/
def execStdLinkLoss (u : UnitId) (s : State) : Host.Outcome State Fault Refusal :=
  s.act (fun d =>
    if d.pathLive u && !(d.duplex (u / 8)) && decide (d.get F.LU_BU_STAT_STATE u = 10) then
      (d.lossOfLock u).startUnit u .relock false
    else d)

end Sys2Proof.Machine
end

