-- ==== Sys2Proof/Machine/Calib.lean ====
section
/-! DEFINITION. In-service calibration: trims, correction sets, runs, commits (R439 to R469). -/

namespace Sys2Proof.Machine

/-- Key of a trim: channel 0 to 7 the units, 8 the spare receive channel; sub-ADC s; OFS or TDLY. -/
def trimKey (ch s : Nat) (ofs : Bool) : Nat := 256 * ch + (if ofs then 128 else 0) + s

/-- The foreground result of a trim, within its 6-bit range (R439, R441). -/
def fgCode (draw c k : Nat) : Int := clampInt (-32) 31 (Config.fgTrim draw c k)

/-- A trim in use. -/
def Dev.trim (d : Dev) (c k : Nat) : Int := ((d.cluster c).trims.find k).getD (fgCode (d.cluster c).fgDraw c k)

/-! Correction sets (R443 to R445) -/

/-- MRAM offset of a slot (R444, R524). -/
def slotBase (n : Nat) : Nat := 0x14000 + 4096 * n

/-- The CRC of a slot checks (R444). -/
def slotOk (m : Memory) (n : Nat) : Bool :=
  decide (crc32 (m.readBytes (slotBase n) 12 ++ m.readBytes (slotBase n + 16) 4080) = wordLe (m.readBytes (slotBase n + 12) 4))

/-- The slot in force of a cluster; none: it has no sets (R446, R447). -/
def Nv.slotOf (v : Nv) (c : Nat) : Option Nat :=
  let n := (v.calSlots.find c).getD 63
  if v.calOk && decide (n ≤ 32) && slotOk v.mram n then some n else none

/-- Set b of a slot holds data, and its TEMP. -/
def setValid (m : Memory) (n b : Nat) : Bool := bitOf (m.read (slotBase n + 1)).toNat b
def setTemp (m : Memory) (n b : Nat) : Int := signed (ofLe (m.readBytes (slotBase n + 2 + 2 * b) 2)) 16

/-- Entry e of set b of a slot: 12 bits (R444). -/
def setEntry (m : Memory) (n b e : Nat) : Nat :=
  ofLe (m.readBytes (slotBase n + 16 + 816 * b + 3 * (e / 2)) 3) / 2 ^ (12 * (e % 2)) % 4096

/-- A unit's trim in set b. -/
def setTrim (m : Memory) (n b l s : Nat) (ofs : Bool) : Int :=
  let e := setEntry m n b (68 * l + s)
  signed (if ofs then e / 64 else e % 64) 6

/-- The valid sets of a slot, by band. -/
def validSets (m : Memory) (n : Nat) : List Nat := (List.range 5).filter (setValid m n)

/-- The interpolation of R445 of a trim at temperature T; none without a valid set. -/
def interpolate (m : Memory) (n : Nat) (t : Int) (l s : Nat) (ofs : Bool) : Option Int :=
  let bs := validSets m n
  let v (b : Nat) : Int := setTrim m n b l s ofs
  let lo := (bs.filter (fun b => decide (setTemp m n b ≤ t))).foldl
    (fun a b => match a with | none => some b | some x => if setTemp m n x < setTemp m n b then some b else some x) none
  let hi := (bs.filter (fun b => decide (t < setTemp m n b))).foldl
    (fun a b => match a with | none => some b | some x => if setTemp m n b < setTemp m n x then some b else some x) none
  match lo, hi with
  | none, none => none
  | some a, none => some (v a)
  | none, some b => some (v b)
  | some a, some b =>
    if setTemp m n a = t then some (v a)
    else
      let span := setTemp m n b - setTemp m n a
      some (roundDiv (v a * span + (v b - v a) * (t - setTemp m n a)) span)

/-- The keys of the trims of the 8 units: lane, sub-ADC, OFS or TDLY. -/
def unitTrims : List (Nat × Nat × Bool) :=
  (List.range 8).flatMap (fun l => (List.range 68).flatMap (fun s => [(l, s, false), (l, s, true)]))

/-- T_NOW and T_RUN of a cluster (R467). -/
def Dev.tNow (d : Dev) (c : Nat) : Int := signed (d.get F.CL_CAL_TEMP_T_NOW c) 16
def Dev.tRun (d : Dev) (c : Nat) : Int := signed (d.get F.CL_CAL_TEMP_T_RUN c) 16

/-! Foreground trim (R441, R442) -/

/-- The present temperature of a cluster (R442); before the sensor's first value: free. DESIGN CHOICE, log entry 4. -/
def Dev.presentTemp (d : Dev) (c : Nat) : Int × Dev :=
  match (d.cluster c).temp with
  | some t => (t, d)
  | none =>
    let x := d.freeBelow 65536
    ((x.1 : Int) - 32768, x.2)

/-- The foreground trim of cluster c is under way (R465). -/
def Dev.fgBegin (d : Dev) (c : Nat) : Dev := d.put F.CL_CAL_STAT_STATE c 6

/-- The foreground trim of cluster c ends: its result, or the interpolation where that lies within 4 codes of it. -/
def Dev.fgTrimmed (d : Dev) (v : Nv) (c : Nat) : Dev :=
  let n := d.draws
  let d := (d.onCluster c (fun x => { x with trims := [], fgDraw := n, again := 0, adly := 0, ranSince := false })).setDraws (n + 1)
  let d := d.put F.CL_CAL_STAT_STATE c 0
  match v.slotOf c with
  | none => d
  | some sl =>
    let p := d.presentTemp c
    let t := p.1
    let d := p.2
    let vals := unitTrims.filterMap (fun k => (interpolate v.mram sl t k.1 k.2.1 k.2.2).map
      (fun x => (trimKey k.1 k.2.1 k.2.2, x)))
    if vals = [] then d
    else if vals.all (fun e => decide ((e.2 - fgCode n c e.1).natAbs ≤ 4)) then
      d.onCluster c (fun x => { x with trims := vals.foldl (fun m e => m.insert e.1 e.2) x.trims })
    else d.hubEvent F.CAL_EVT_FG_DISAGREE 0x68 8

/-! Starting a run (R448, R449, R459) -/

/-- A unit takes part in a run that starts now (R449). -/
def Dev.takesPart (d : Dev) (u : Nat) : Bool :=
  d.live u && d.is F.LU_BU_CTRL_EN u && d.rxData u && decide (d.get F.LU_RB_STAT_GEAR u = 4) &&
    (d.duplex (u / 8) || decide (u % 8 < 4))

/-- 10 s, and a number of seconds, in hub cycles (R577). -/
def tenSeconds : Nat := 3906250000
def cyclesOf (s : Nat) : Nat := 390625000 * s

/-- Automatic trigger of a cluster: RETRY, START, TEMP, AGE; 0: none (R448). -/
def Dev.trigger (d : Dev) (c : Nat) : Nat :=
  let x := d.cluster c
  let maxInt := d.get F.CAL_CFG_MAX_INT 0
  if x.retry && decide (x.lastEnd + tenSeconds ≤ d.time) then 2
  else if !x.ranSince then 3
  else if d.get F.CAL_CFG_CAL_DT 0 < (d.tNow c - d.tRun c).natAbs then 4
  else if maxInt ≠ 0 ∧ x.doneAt + cyclesOf maxInt ≤ d.time then 5
  else 0

/-- A run can be made in a cluster: it is awake, its die serves, no run is in progress (R449). -/
def Dev.calPossible (d : Dev) (c : Nat) : Bool :=
  d.clusterLive c && decide ((d.cluster c).power = 0) && !(d.dozing c) && !(d.spareStopped c)

/-- Starts a run with a trigger, for an operation's slot (R451, R465); it waits while the spare receive channel has a scan or has
stopped (R256, R412). With no unit to take part it is abandoned at once. -/
def Dev.calStart (d : Dev) (c trig : Nat) (slot : Option Nat) : Dev :=
  let ls := (List.range 8).filter (fun l => d.takesPart (8 * c + l))
  let busy := (d.cluster c).scan.isSome || d.spareStopped c
  let t := d.tNow c
  let now := d.refa
  let d := ((d.ungate 2).wrap F.CL_CAL_STAT_RUN_SEQ c 1).put F.CL_CAL_STAT_TRIGGER c trig
  let d := (d.put F.CL_CAL_STAT_PART c (laneMask ls)).put F.CL_CAL_STAT_UNIT c ((ls.head?).getD 0)
  let d := d.put F.CL_CAL_STAT_STATE c (if busy then 5 else 1)
  let d := d.put F.CAL_STAT_RUNNING 0 (d.get F.CAL_STAT_RUNNING 0 + 1)
  let d := d.onCluster c (fun x => { x with
    held := false, retry := false
    cal := some { trigger := trig, slot := slot, todo := ls, waiting := busy, startAt := now, start := x.trims, startTemp := t } })
  if ls = [] then d.calAbandon c 3 else if busy then d else d.spareServes (8 * c + (ls.head?).getD 0)

/-- CAL_EVALUATION: the scheduler starts a run that is due (R448, R449). -/
def execCalEvaluation (c : ClusterId) (s : State) : Host.Outcome State Fault Refusal :=
  s.act (fun d =>
    let x := d.cluster c
    if !(d.calPossible c) || x.cal.isSome then d
    else
      let past := x.held && decide (x.lastEnd + tenSeconds ≤ d.time)
      let d := if past then
          (d.onCluster c (fun x => { x with held := false })).put F.CL_CAL_STAT_STATE c 0 else d
      if !(d.bit F.CAL_EN_AUTO 0 c) || (d.cluster c).held then d
      else if d.trigger c ≠ 0 ∧ (unitsOf c).any d.takesPart = true then d.calStart c (d.trigger c) none
      else d)

/-- A CAL operation starts on cluster c (R448, R458 to R460). A cluster in DOZE or DEEP makes a run in which no unit takes part; one
whose blocks cannot act makes none, with the same reason. DESIGN CHOICE, log entry 72, for that. -/
def Dev.calOp (d : Dev) (c slot : Nat) (force : Bool) : Dev :=
  match (d.cluster c).cal with
  | some _ => d.onCluster c (fun x => { x with cal := x.cal.map (fun r => { r with followers := r.followers ++ [slot] }) })
  | none =>
    if !force && decide (d.trigger c = 0) then d.complete slot 0 2
    else if !(d.clusterLive c) && !(d.deep (c / 4) && d.dieRuns (c / 8) && !(d.regionHeld (c / 4))) then d.complete slot 1 3
    else d.calStart c 1 (some slot)

/-- TEMP_UPDATE: a new cluster temperature, which T_NOW shows while the cluster is not in reset; TEMP_HIGH from 108.0 °C, once until
a value below 100.0 °C (R448, R472). -/
def execTempUpdate (c : ClusterId) (t : BitVec 16) (s : State) : Host.Outcome State Fault Refusal :=
  s.act (fun d =>
    if !(d.dieRuns (c / 8)) then d
    else
      let d := d.onCluster c (fun x => { x with temp := some t.toInt })
      if !(d.clusterLive c) then d else
      let d := d.put F.CL_CAL_TEMP_T_NOW c t.toNat
      if t.toInt < 800 then d.onCluster c (fun x => { x with coolSince := true })
      else if 864 ≤ t.toInt ∧ (d.cluster c).coolSince = true then
        (d.onCluster c (fun x => { x with coolSince := false })).raise ⟨0x16, .cluster c 6, 0, 0⟩
      else d)

/-! The run (R450 to R455) -/

/-- Changes the run in progress. -/
def Dev.onCal (d : Dev) (c : Nat) (f : CalRun → CalRun) : Dev := d.onCluster c (fun x => { x with cal := x.cal.map f })

/-- The next measurement of the run begins at the present token boundary. -/
def Dev.measureFrom (d : Dev) (c : Nat) : Dev :=
  let now := d.refa
  d.onCal c (fun r => { r with startAt := now, checks := 0, acc := {} })

/-- The measurement in progress has taken n tokens (R451, R452). -/
def Dev.measured (d : Dev) (r : CalRun) (n : Nat) : Bool := !r.waiting && d.due (r.startAt + n)

/-- The turn of the next listed unit, or the commit (R451, R458). -/
def Dev.nextTurn (d : Dev) (c : Nat) : List Nat → Dev
  | [] =>
    let d := (d.onCal c (fun r => { r with todo := [], stage := 5 })).put F.CL_CAL_STAT_STATE c 3
    { d with hub := { d.hub with commits := d.hub.commits ++ [c] } }
  | l :: ls =>
    let now := d.refa
    let d := d.onCal c (fun r => { r with
      todo := l :: ls, stage := 2, startAt := now, checks := 0, acc := {}, iter := 0, passes := 0
      away := false, noConv := false, limit := false, skewRms := 255, ofsRms := 255 })
    let d := (d.put F.CL_CAL_STAT_UNIT c l).put F.CL_CAL_STAT_STATE c 2
    if d.rxData (8 * c + l) then d.spareServes (8 * c + l) else d.calAbandon c 7

/-- A unit's trims go back to their values at the start of the run. -/
def backTo (start cur : NMap Int) (ch : Nat) : NMap Int :=
  (start.filter (fun e => decide (e.1 / 256 = ch))).foldl (fun m e => m.insert e.1 e.2)
    (cur.filter (fun e => decide (e.1 / 256 ≠ ch)))

/-- The unit in turn is handed back, with its part in the run reported (R451, R455, R469). -/
def Dev.turnEnd (d : Dev) (c : Nat) (good verifyFail : Bool) : Dev :=
  match (d.cluster c).cal with
  | none => d
  | some r =>
    match r.todo with
    | [] => d
    | l :: ls =>
      let u := 8 * c + l
      let d := (d.report (F.LU_CAL_STAT_SKIPPED.addr u) (r.turnWord verifyFail)).put F.LU_RB_STAT_ALLEY u 0
      let d := if good then d.onCal c (fun r => { r with good := r.good ++ [l] })
        else d.onCluster c (fun x => { x with trims := backTo r.start x.trims l })
      (d.onCal c (fun r => { r with away := false })).nextTurn c ls

/-- Why a check fails: 4 HISTOGRAM, 5 SYMMETRY, 6 CORRELATION, the first row of R450 that fails; 0: none. The autocorrelation is
taken relative to lag 0. DEDUCED, log entry 65. -/
def CheckAcc.reason (x : CheckAcc) : Nat :=
  let c (i : Nat) : Nat := (x.counts[i]?).getD 0
  let m (i : Nat) : Nat := (x.mags[i]?).getD 0
  let total := c 0 + c 1 + c 2 + c 3
  let even (hi lo : Nat) : Bool :=
    decide (97 * (m lo * c hi) ≤ 100 * (m hi * c lo) ∧ 100 * (m hi * c lo) ≤ 103 * (m lo * c hi))
  if !(x.counts.all (fun n => decide (235 * total ≤ 1000 * n ∧ 1000 * n ≤ 265 * total))) then 4
  else if !(even 3 0 && even 2 1) then 5
  else if x.corr.any (fun r => decide (9 * (c 0 + c 3) + (c 1 + c 2) < 50 * r.natAbs)) then 6
  else 0

/-- CAL_CHECK_END: an input check of 2^16 tokens ends (R450): the first of a run, over a first match iteration, and four in a row
over the measurement of a retuning pass. DEDUCED, log entry 65. -/
def execCalCheckEnd (c : ClusterId) (s : State) : Host.Outcome State Fault Refusal :=
  s.act (fun d =>
    match (d.cluster c).cal with
    | none => d
    | some r =>
      let open' := decide (r.stage = 0 ∨ (r.stage = 2 ∧ r.iter = 0 ∧ r.checks = 0)) ||
        (decide (r.stage = 1 ∨ r.stage = 3) && decide (r.checks < 4))
      if !open' || !(d.measured r (65536 * (r.checks + 1))) then d
      else if !(r.acc.live && (r.todo.head?).any (fun l => d.rxData (8 * c + l))) || decide (r.acc.n = 0) then
        d.calAbandon c (if r.away then 7 else 3)
      else if r.acc.reason ≠ 0 then d.calAbandon c r.acc.reason
      else if r.stage = 0 then (d.onCal c (fun r => { r with stage := 1 })).measureFrom c
      else d.onCal c (fun r => { r with checks := r.checks + 1, acc := {} }))

/-- A difference lies at or below -40 dB of a signal: the sums of their squares (R451). -/
def below40 (diff sig : Nat) : Bool := decide (10000 * diff ≤ sig)

/-- MATCH_ITERATION_END: the channel's match trims are set (`diff`, `sig`: the sums of squares of the difference between the two
channels' samples and of the signal); a match hands the unit over, four iterations without one end the
run (R451, R454). The values of AGAIN and ADLY are free. DESIGN CHOICE, log entry 4. -/
def execMatchIterationEnd (c : ClusterId) (diff sig : Nat) (s : State) : Host.Outcome State Fault Refusal :=
  s.act (fun d =>
    match (d.cluster c).cal with
    | none => d
    | some r =>
      if r.stage ≠ 2 ∨ (r.iter = 0 ∧ r.checks = 0) ∨ d.measured r 65536 = false then d
      else
        let a := d.freeBelow 128
        let b := a.2.freeBelow 32
        let d := b.2.onCluster c (fun x => { x with again := (a.1 : Int) - 64, adly := (b.1 : Int) - 16 })
        if below40 diff sig then
          ((d.measureFrom c).onCal c (fun r => { r with stage := 3, iter := 0, away := true })).put F.LU_RB_STAT_ALLEY
            (8 * c.val + (r.todo.head?).getD 0) 1
        else if 4 ≤ r.iter + 1 then d.calAbandon c 8
        else (d.measureFrom c).onCal c (fun r => { r with iter := r.iter + 1 }))

/-- The step for an estimated error in 1/256 code: one code where it exceeds 0.5 code (R452). -/
def stepOf (e : Int) : Int := if 128 < e then 1 else if e < -128 then -1 else 0

/-- One trim's step: by one code within the 6-bit range, and for a unit within 3 codes of its start (R452, R453). The code,
whether it stepped, whether it is at the limit. -/
def trimStep (cur start step : Int) (unit : Bool) : Int × Bool × Bool :=
  let x := clampInt (-32) 31 (cur + step)
  if unit = true ∧ 3 ≤ (cur - start).natAbs then (cur, false, true)
  else (x, decide (x ≠ cur), unit && decide (3 ≤ (x - start).natAbs))

/-- Steps every trim of a channel: whether any stepped, whether any is at the limit. -/
def Dev.trimPass (d : Dev) (c ch : Nat) (start : NMap Int) (tdly ofs : List Int) : Bool × Bool × Dev :=
  let keys := (List.range 68).map (fun s => (trimKey ch s false, (tdly[s]?).getD 0)) ++
    (List.range 68).map (fun s => (trimKey ch s true, (ofs[s]?).getD 0))
  keys.foldl (fun a e =>
    let cur := a.2.2.trim c e.1
    let st := (start.find e.1).getD (fgCode (a.2.2.cluster c).fgDraw c e.1)
    let x := trimStep cur st (stepOf e.2) (decide (ch < 8))
    (a.1 || x.2.1, a.2.1 || x.2.2,
      if x.2.1 then a.2.2.onCluster c (fun y => { y with trims := y.trims.insert e.1 x.1 }) else a.2.2)) (false, false, d)

/-- RETUNE_PASS_END: a pass over the spare receive channel or the unit in turn has measured every sub-ADC: the
estimated errors in 1/256 code, positive where the trim has to rise, and the residuals (R452, R453, R455). -/
def execRetunePassEnd (c : ClusterId) (tdly ofs : List Int) (skew ofsRms : Nat) (s : State) :
    Host.Outcome State Fault Refusal :=
  s.act (fun d =>
    match (d.cluster c).cal with
    | none => d
    | some r =>
      if r.checks < 4 ∨ d.measured r 262280 = false then d
      else if r.stage = 1 then
        let p := d.trimPass c 8 r.start tdly ofs
        let n := r.passes + 1
        let d := (p.2.2.measureFrom c).onCal c (fun r => { r with passes := n })
        if p.1 = false ∨ 6 ≤ n then d.nextTurn c r.todo else d
      else if r.stage = 3 then
        match r.todo with
        | [] => d
        | l :: _ =>
          let p := d.trimPass c l r.start tdly ofs
          let n := r.passes + 1
          let d := (p.2.2.measureFrom c).onCal c (fun r => { r with passes := n, skewRms := skew, ofsRms := ofsRms, limit := r.limit || p.2.1 })
          if p.1 = false then d.onCal c (fun r => { r with stage := 4 })
          else if 6 ≤ n then (d.onCal c (fun r => { r with noConv := true })).turnEnd c false false
          else d
      else d)

/-- VERIFY_END: the unit is handed back with its new trims, or with its old ones where the difference of the samples lies above -40 dB
(R451, R455). -/
def execVerifyEnd (c : ClusterId) (diff sig : Nat) (s : State) : Host.Outcome State Fault Refusal :=
  s.act (fun d =>
    match (d.cluster c).cal with
    | none => d
    | some r => if r.stage = 4 ∧ d.measured r 65536 = true then d.turnEnd c (below40 diff sig) (!(below40 diff sig)) else d)

/-! The commit (R446, R447, R456, R458) -/

/-- The band of a run temperature given as twice its value in 0.125 °C, the sum of two temperatures (R443). -/
def bandOf (t : Int) : Nat := if t < 480 then 0 else if t < 800 then 1 else if t < 1120 then 2 else if t < 1440 then 3 else 4

/-- Bytes of 12-bit entries, two to three bytes (R444). -/
def packBytes : List Nat → List Byte
  | a :: b :: r => leBytes (a % 4096 + 4096 * (b % 4096)) 3 ++ packBytes r
  | _ => []

/-- The 4,096 bytes of a cluster's new store: the set of a band replaced by the trims in use, the others as they were. -/
def Dev.storeBytes (d : Dev) (m : Memory) (old : Option Nat) (c b : Nat) (t : Int) : List Byte :=
  let valid (i : Nat) : Bool := match old with | some n => setValid m n i | none => false
  let temp (i : Nat) : Nat := if i = b then code t 16 else match old with
    | some n => if valid i then code (setTemp m n i) 16 else 0
    | none => 0
  let set (i : Nat) : List Byte :=
    if i = b then packBytes ((List.range 8).flatMap (fun l => (List.range 68).map (fun s =>
      code (d.trim c (trimKey l s false)) 6 + 64 * code (d.trim c (trimKey l s true)) 6)))
    else match old with
      | some n => if valid i then m.readBytes (slotBase n + 16 + 816 * i) 816 else List.replicate 816 0
      | none => List.replicate 816 0
  let mask := (List.range 5).foldl (fun a i => if i = b || valid i then a + 2 ^ i else a) 0
  let head := [BitVec.ofNat 8 c, BitVec.ofNat 8 mask] ++ (List.range 5).flatMap (fun i => leBytes (temp i) 2)
  let body := (List.range 5).flatMap set
  head ++ leBytes (crc32 (head ++ body)).toNat 4 ++ body

/-- DRIFT of a converged unit: a new trim more than 8 codes from the interpolation of the sets before the commit. -/
def Dev.drifts (d : Dev) (m : Memory) (old : Option Nat) (c l : Nat) (t : Int) : Bool :=
  match old with
  | none => false
  | some n => (List.range 68).any (fun s => [false, true].any (fun o =>
      match interpolate m n t l s o with
      | some x => decide (8 < (x - d.trim c (trimKey l s o)).natAbs)
      | none => false))

/-- The operations of a run that has completed, by its reason (R458). -/
def calResult (reason : Nat) : Nat := if reason = 0 ∨ reason = 2 then 0 else if reason = 1 then 5 else 1

/-- Ends a completed run with a reason. -/
def Dev.calFinish (d : Dev) (c : Nat) (r : CalRun) (reason : Nat) : Dev :=
  let now := d.time
  let late := (unitsOf c).any (fun u => bitOf (d.get F.CL_CAL_STAT_PART c) (u % 8) && d.is F.LU_CAL_STAT_LIMIT u)
  let d := d.onCluster c (fun x => { x with cal := none, ranSince := true, retry := late, lastEnd := now, doneAt := now })
  let d := { d with hub := { d.hub with commits := d.hub.commits.filter (· ≠ c) } }
  let d := (d.put F.CL_CAL_STAT_REASON c reason).put F.CL_CAL_STAT_STATE c 0
  let d := (d.calSkipped c).put F.CAL_STAT_RUNNING 0 (d.get F.CAL_STAT_RUNNING 0 - 1)
  let d := d.each (r.slot.toList ++ r.followers) (fun d s => d.complete s (calResult reason) (BitVec.ofNat 32 reason))
  d.channelFree c

/-- CL_CAL_PT b: set b of the cluster's store in force (R468). -/
def calPoint (v : Nv) (c b : Nat) : Word :=
  match v.slotOf c with
  | none => 0
  | some n => BitVec.ofNat 32 (b2n (setValid v.mram n b) * 2 ^ 31 +
      (if setValid v.mram n b then code (setTemp v.mram n b) 16 else 0))

/-- CL_CAL_PT0 to CL_CAL_PT4 take the store in force: at each commit, and at start (R468). -/
def Dev.showPoints (d : Dev) (v : Nv) (c : Nat) : Dev :=
  d.each (List.range 5) (fun d b => d.report ((F.CL_CAL_PT_VALID b).addr c) (calPoint v c b))

/-- Steps 3 and 4 of R446: the copy not in force takes SEQ + 1, the cluster's slot and the free slot. The copy with the higher SEQ is
in force; SEQ has 32 bits. -/
def Nv.commitCal (v : Nv) (slots : NMap Nat) (free : Nat) : Nv :=
  let seq := (v.calSeq + 1) % 2 ^ 32
  if v.calSeq < seq then
    { v with
      calSeq := seq, calCopy := 1 - v.calCopy, calSlots := slots, calFree := free
      calOther := some ⟨v.calSeq, v.calSlots, v.calFree⟩ }
  else { v with calOther := some ⟨seq, slots, free⟩ }

/-- A commit that step 2 or step 4 has failed (R447): the free slot was written, and reads back as anything; a step 4 that failed
leaves the copy not in force so that it does not check. Which of the two failed is free. DESIGN CHOICE, log entry 4. -/
def calBroken (v : Nv) (d : Dev) : Nv × Dev :=
  let x := d.freeBelow 2
  let n := x.2.draws
  let v := v.store (slotBase v.calFree) ((List.range 4096).map (fun i => BitVec.ofNat 8 (Config.freeNat (n + i))))
  ((if x.1 = 0 then v else { v with calOther := none }), x.2.setDraws (n + 4096))

/-- CAL_COMMIT: the engine has stored the store of the cluster that asked first, or has failed to (R446, R447, R456). The rounding of
a mean between two codes, and the free slot after a cluster's first store, are free. DESIGN CHOICE, log entry 4. -/
def execCalCommit (ok : Bool) (s : State) : Host.Outcome State Fault Refusal :=
  s.actNv (fun _ v d =>
    match d.hub.commits with
    | [] => (v, d)
    | c :: _ =>
      match (d.cluster c).cal with
      | none => (v, { d with hub := { d.hub with commits := d.hub.commits.tail } })
      | some r =>
        if !ok then
          let y := calBroken v d
          (y.1, (y.2.hubEvent F.CAL_EVT_COMMIT_FAIL 0x68 1).calFinish c r 12)
        else
          let sum := r.startTemp + d.tNow c
          let x := d.freeBelow 2
          let t := if sum % 2 = 0 then sum / 2 else sum / 2 + x.1
          let d := x.2
          let b := bandOf sum
          let old := v.slotOf c
          let was := (v.calSlots.find c).getD 63
          let bytes := d.storeBytes v.mram old c b t
          let d := d.each (r.good.filter (fun l => d.drifts v.mram old c l t)) (fun d l =>
            (d.put F.LU_CAL_STAT_DRIFT (8 * c + l) 1).hubEvent F.CAL_EVT_DRIFT 0x68 16)
          let slots := v.calSlots.insert c v.calFree
          let unused := (List.range 33).filter (fun n => !(slots.any (fun e => decide (e.2 = n))))
          let y := d.freeBelow unused.length
          let free := if was ≤ 32 then was else (unused[y.1]?).getD 0
          let d := y.2
          let v' := ({ v.store (slotBase v.calFree) bytes with epoch := v.epoch + 1 } : Nv).commitCal slots free
          let d := (d.put F.CAL_STAT_REC_SEQ 0 (v'.calSeq % 256)).put F.CAL_STAT_FREE_SLOT 0 v'.calFree
          let d := (d.put F.CAL_STAT_REC_COPY 0 v'.calCopy).wrap F.CAL_STAT_COMMITS 0 1
          let d := (d.put F.CL_CAL_TEMP_T_RUN c (code t 16)).setWord (F.CL_CAL_TIME_TIME.addr c) (BitVec.ofNat 32 d.seconds)
          let d := (d.bump F.CL_CAL_RUNS_DONE c 1).showPoints v' c
          let part := d.get F.CL_CAL_STAT_PART c
          (v', d.calFinish c r (if laneMask r.good = part then 0 else 1)))

end Sys2Proof.Machine
end

