-- ==== Sys2Proof/Machine/Clock.lean ====
section
/-! DEFINITION. The reference clocks: the monitor's states, loss of the active reference, the planned switch (R393 to R405,
R429, R430). -/

namespace Sys2Proof.Machine

/-- State and count of a reference (R427): 0 REFA, 1 REFB. -/
def refSt (r : Nat) : Fld := if r = 0 then F.CLK_STAT_REFA_ST else F.CLK_STAT_REFB_ST
def refCnt (r : Nat) : Fld := if r = 0 then F.CLK_STAT_STAB_A else F.CLK_STAT_STAB_B

/-- The package is in STANDBY (R433). -/
def Dev.inStandby (d : Dev) : Bool := decide (d.get F.PWR_PKG_STATE 0 = 2)

/-- The enable bits of CLK_GATE for the present hub mode (R406, R431). -/
def Dev.gateEnables (d : Dev) : Nat :=
  if d.inStandby then d.get F.CLK_GATE_STBY_EN 0
  else if d.fallback then d.get F.CLK_GATE_FB_EN 0
  else d.get F.CLK_GATE_RUN_EN 0

/-- The clock of a hub block runs free: its enable bit is 1 for the present hub mode, and it is none of those that STANDBY keeps gated
(R406). -/
def Dev.gateFree (d : Dev) (i : Nat) : Bool := bitOf d.gateEnables i && !(d.inStandby && decide (i = 1 ∨ i = 2))

/-- The hub mode or an enable bit has changed: a block whose clock now runs free is gated no more (R406, R431). -/
def Dev.gateCheck (d : Dev) : Dev := { d with hub := { d.hub with gates := d.hub.gates.filter (fun i => !(d.gateFree i)) } }

/-- The number of a reference. -/
def refNum : Ref → Nat
  | .refA => 0
  | .refB => 1

/-- The reference that is active now: that of ACTIVE, or the target once a switch has passed its boundary (R405, R425). -/
def Dev.activeRef (d : Dev) : Nat :=
  match d.hub.swTarget with
  | some t => if d.hub.swPassed then refNum t else d.get F.CLK_STAT_ACTIVE 0
  | none => d.get F.CLK_STAT_ACTIVE 0

/-- UNVERIFIED: the monitor is not STABLE (R398). -/
def Dev.showUnverified (d : Dev) : Dev :=
  d.put F.CLK_STAT_UNVERIFIED 0 (b2n (decide (d.get (refSt (1 - d.activeRef)) 0 ≠ 2)))

/-- A clock event of class D, once per setting of its bit (R399, R429). -/
def Dev.clkEvent (d : Dev) (f : Fld) : Dev := d.hubEvent f 0x67 (BitVec.ofNat 32 (2 ^ f.lo))

/-- Ends a switch that is refused (R404). -/
def Dev.swRefuse (d : Dev) (reason : Nat) : Dev :=
  let d := (d.put F.CLK_SW_LAST_REASON 0 reason).put F.CLK_EVT_SW_REFUSED 0 1
  { d with hub := { d.hub with swTarget := if d.is F.CLK_STAT_SW_PEND 0 then d.hub.swTarget else none } }

/-- Clears a pending switch. -/
def Dev.swClear (d : Dev) : Dev :=
  let d := d.put F.CLK_STAT_SW_PEND 0 0
  { d with hub := { d.hub with swTarget := none, swPassed := false } }

/-- Loss of the active reference: fallback, ACT_LOSS, class A; in STANDBY a class D record (R400, R404, R424).
The heartbeats of every die that has power stop with it, so its link is lost (R400, R477). -/
def Dev.activeLost (d : Dev) : Dev :=
  let act := d.activeRef
  let d := if d.is F.CLK_STAT_SW_PEND 0 then
      (if d.hub.swPassed then d.swClear else (d.swRefuse 6).swClear) else d
  let d := ((d.put F.CLK_STAT_ACTIVE 0 act).put F.CLK_STAT_FALLBACK 0 1).gateCheck
  if d.get F.PWR_PKG_STATE 0 = 2 then d.clkEvent F.CLK_EVT_ACT_LOSS
  else
    let lost := (List.range 4).any (fun n => (d.die n).on)
    let d := { d with flt := { d.flt with linkLost := d.flt.linkLost || lost } }
    d.event F.CLK_EVT_ACT_LOSS 0 ⟨0x01, .package 0, 0, 0⟩

/-- The hub runs on its active reference. -/
def Dev.running (d : Dev) : Bool := d.hub.moved && !d.fallback

/-- The monitor, its counter and its detectors are in reset (R397). -/
def Dev.monitorOff (d : Dev) : Bool := d.hub.resetLow || d.hub.porHold

/-- REF_ABSENT: a reference shows no toggle for 8 fallback cycles (R396, R398 to R400, R403 to R405). A pending switch whose target
it is ends with LOST, on the fallback oscillator too (R404, R425). -/
def execRefAbsent (r : Ref) (s : State) : Host.Outcome State Fault Refusal :=
  s.act (fun d =>
    if d.monitorOff then d else
    let was := d.get (refSt (refNum r)) 0
    let act := d.activeRef
    let d := (d.put (refSt (refNum r)) 0 0).put (refCnt (refNum r)) 0 0
    let d := { d with hub := { d.hub with absent := (refNum r :: d.hub.absent).eraseDups } }
    let d :=
      if decide (refNum r = act) && d.running then d.activeLost
      else
        let d := if decide (refNum r ≠ act ∧ was ≠ 0) then d.clkEvent F.CLK_EVT_MON_LOSS else d
        if d.is F.CLK_STAT_SW_PEND 0 && !d.hub.swPassed && decide (d.hub.swTarget = some r) then (d.swRefuse 5).swClear
        else d
    d.showUnverified)

/-- The state and count of a reference after a window (R398): `whole`: it toggled through the window without a break; `good`:
the window was good; `fail`: it failed the coarse check, or as the monitor REF_TOL. -/
def nextRef (st cnt stab : Nat) (whole good fail : Bool) : Nat × Nat :=
  if st = 0 then (if whole then (1, 0) else (0, 0))
  else
    let n := if good then min (cnt + 1) 15 else 0
    if st = 1 then (if good && decide (stab ≤ n) then (2, n) else (1, n))
    else if fail then (1, n) else (2, n)

/-- A field of CLK_CFG as the counter window in progress uses it (R426). -/
def Dev.clkCfg (d : Dev) (f : Fld) : Nat := bitsOf d.hub.clkCfg f.hi f.lo

/-- The next counter window begins: it takes the CLK_CFG written meanwhile (R397, R426). -/
def Dev.nextWindow (d : Dev) : Dev :=
  { d with hub := { d.hub with absent := [], clkCfg := d.voted (F.CLK_CFG_STAB_N.addr 0) } }

/-- The hub moves off the fallback oscillator to a reference at start-up (R403). -/
def Dev.moveTo (d : Dev) (r : Nat) : Dev :=
  let d := (d.put F.CLK_STAT_ACTIVE 0 r).put F.CLK_STAT_FALLBACK 0 0
  let d := d.put F.CLK_EVT_RETURN 0 1
  ({ d with hub := { d.hub with moved := true } } : Dev).gateCheck

/-- Writes the states of both references after a window. -/
def Dev.refStep (d : Dev) (r : Nat) (mon tolBad : Bool) (whole coarse : Bool) : Dev :=
  let act := d.get (refSt (if mon then 1 - r else r)) 0
  let good := whole && coarse && !(mon && decide (act ≠ 0) && tolBad)
  let x := nextRef (d.get (refSt r) 0) (d.get (refCnt r) 0) (d.clkCfg F.CLK_CFG_STAB_N) whole good
    (!coarse || (mon && tolBad))
  (d.put (refSt r) 0 x.1).put (refCnt r) 0 x.2

/-- The coarse check (R397): a reference that makes n cycles, divided by 4, while the fallback oscillator makes f cycles lies within
±30 % of 1.5625 GHz, the oscillator taken as 380 MHz. -/
def coarseGood (n : Int) (f : Nat) : Bool := decide (17500 * (f : Int) ≤ 24320 * n ∧ 24320 * n ≤ 32500 * (f : Int))

/-- The fallback frequency in 0.1 MHz against an active reference of 1.5625 GHz that makes n cycles, divided by 4, in the window
(R428). What is below 0.1 MHz is cut off. DESIGN CHOICE, log entry 48. -/
def fallbackFreq (n : Int) (f : Nat) : Nat := min 0xFFFF ((15625 * (f : Int) / (4 * n)).toNat)

/-- FREQ_WINDOW: a counter window ends (R397 to R400, R403, R426, R428). A reference that was ABSENT within it did not toggle
through it. -/
def execFreqWindow (m : FreqMeas) (s : State) : Host.Outcome State Fault Refusal :=
  s.act (fun d =>
    if d.monitorOff then d else
    let act := d.activeRef
    let mon := 1 - act
    let monSt := d.get (refSt mon) 0
    let actSt := d.get (refSt act) 0
    let diff := if monSt = 0 then 0 else m.diff
    let tolBad := decide (d.clkCfg F.CLK_CFG_REF_TOL < diff.natAbs)
    let wholeOf (r : Nat) : Bool := (if r = 0 then m.toggleA else m.toggleB) && !(d.hub.absent.contains r)
    let coarseOf (r : Nat) : Bool := coarseGood (if r = act then 2 ^ 22 + diff else 2 ^ 22) m.fbCount
    let d := (d.refStep mon true tolBad (wholeOf mon) (coarseOf mon)).refStep act false false (wholeOf act) (coarseOf act)
    let d := d.put F.CLK_FREQ_DIFF 0 (code (clampInt (-32768) 32767 diff) 16)
    let stable := decide (d.get F.CLK_STAT_REFA_ST 0 = 2 ∨ d.get F.CLK_STAT_REFB_ST 0 = 2)
    let d := d.put F.CLK_FREQ_FB_FREQ 0 (if stable then fallbackFreq (2 ^ 22 + diff) m.fbCount else 0)
    let d := if decide (monSt ≠ 0) && tolBad then d.clkEvent F.CLK_EVT_DIFF else d
    let d := if decide (monSt ≠ 0) && !(coarseOf mon) then d.clkEvent F.CLK_EVT_COARSE_MON else d
    let d := if decide (actSt ≠ 0) && !(coarseOf act) && d.running then d.activeLost else d
    let d := if !d.hub.moved && decide (d.get F.CLK_STAT_REFA_ST 0 = 2) then d.moveTo 0 else d
    d.nextWindow.showUnverified)

/-- BOOT_REFB: 2.0 s after release REFA is not STABLE and REFB is (R403). -/
def execBootRefb (s : State) : Host.Outcome State Fault Refusal :=
  s.act (fun d =>
    if d.time < 2 * 390625000 then d
    else if !d.hub.moved && decide (d.get F.CLK_STAT_REFA_ST 0 ≠ 2 ∧ d.get F.CLK_STAT_REFB_ST 0 = 2) then
      ((d.moveTo 1).put F.CLK_STAT_BOOT_REFB 0 1).showUnverified
    else d)

/-- A sleep transaction is open somewhere. -/
def Dev.anyTxn (d : Dev) : Bool :=
  d.clusters.any (fun e => e.2.txn.isSome) || d.regions.any (fun e => e.2.txn.isSome)

/-- A CLK_SW write with GO (R404): refused with its reason, or pending. -/
def Dev.clkSw (d : Dev) (t : Ref) : Dev :=
  let diff := signed (d.get F.CLK_FREQ_DIFF 0) 16
  if d.get (refSt (refNum t)) 0 ≠ 2 then d.swRefuse 1
  else if !d.fallback && decide (d.clkCfg F.CLK_CFG_SW_TOL < diff.natAbs) then d.swRefuse 2
  else if !d.fallback && decide (d.activeRef = refNum t) then d.swRefuse 3
  else if d.is F.CLK_STAT_SW_PEND 0 || d.anyTxn || decide (d.get F.PWR_PKG_STATE 0 = 1 ∨ d.get F.PWR_PKG_STATE 0 = 3) then
    d.swRefuse 4
  else
    let d := (d.put F.CLK_SW_LAST_REASON 0 0).put F.CLK_STAT_SW_PEND 0 1
    { d with hub := { d.hub with swTarget := some t, swPassed := false } }

def execClkSw (target : Ref) (s : State) : Host.Outcome State Fault Refusal := s.act (fun d => d.clkSw target)

/-- SWITCH_BOUNDARY: dies, PLLs and the hub clock move; the hub leaves the fallback oscillator (R402, R405). -/
def execSwitchBoundary (s : State) : Host.Outcome State Fault Refusal :=
  s.act (fun d =>
    if d.is F.CLK_STAT_SW_PEND 0 && !d.hub.swPassed then
      let d := { d with hub := { d.hub with swPassed := true } }
      if d.fallback then
        let d := (d.put F.CLK_STAT_FALLBACK 0 0).put F.CLK_EVT_RETURN 0 1
        ({ d with hub := { d.hub with moved := true } } : Dev).gateCheck
      else d
    else d)

/-- SW_DONE: ACTIVE changes (R405). -/
def execSwDone (s : State) : Host.Outcome State Fault Refusal :=
  s.act (fun d =>
    if d.is F.CLK_STAT_SW_PEND 0 && d.hub.swPassed then
      let act := d.activeRef
      (((d.put F.CLK_STAT_ACTIVE 0 act).put F.CLK_EVT_SW_DONE 0 1).swClear).showUnverified
    else d)

/-- PLL_UNLOCK: a cluster PLL loses lock with its input present; class B by default, located at the cluster's clock (R429,
R471); none while the bit stays set (R470). -/
def execPllUnlock (c : ClusterId) (s : State) : Host.Outcome State Fault Refusal :=
  s.act (fun d =>
    if d.dieServes (c / 8) && !(d.deep (c / 4)) then
      d.event F.CLK_EVT_PLL_UNLOCK 0 ⟨0x14, .cluster c 6, 0, 0⟩
    else d)

end Sys2Proof.Machine
end

