-- ==== Sys2Proof/Machine/Ecc.lean ====
section
/-! DEFINITION. Memory integrity: what a reader of an array word finds, corrects, counts and reports (R421, R487 to R492). -/

namespace Sys2Proof.Machine

/-- FLT_ECC_LAST and FLT_ECC_INFO (R507). -/
def Dev.eccLast (d : Dev) (l : Loc) (syn : BitVec 8) (ue : Bool) : Dev :=
  let n := (d.get F.FLT_ECC_INFO_COUNT 0 + 1) % 256
  (d.setWord (F.FLT_ECC_LAST_LOCATION.addr 0) (BitVec.ofNat 32 (physicalCode l))).report (F.FLT_ECC_INFO_COUNT.addr 0)
    (BitVec.ofNat 32 (n * 2 ^ 24 + syn.toNat * 2 ^ 16 + b2n ue))

/-- A number for a macro. -/
def macroCode (a o m : Nat) : Nat := (a * 256 + o) * 16 + m

/-- A correctable error: counted, in the macro's bucket too; CE_RATE when the bucket reaches BKT_THR (R488, R492). -/
def Dev.eccFixed (d : Dev) (a o m w : Nat) (syn : BitVec 8) : Dev :=
  let l := Loc.word a o m w
  let d := (d.addCount (F.FLT_ECC_CE_LO_LO.addr 0) 1).eccLast l syn false
  let k := macroCode a (macroOwner a o) m
  let n := satAdd ((d.flt.buckets.find k).getD 0) 1 255
  let d := { d with flt := { d.flt with buckets := d.flt.buckets.insert k n } }
  if d.flt.bktThr ≤ n ∧ d.flt.rated.contains k = false then
    ({ d with flt := { d.flt with rated := k :: d.flt.rated } } : Dev).raise ⟨BitVec.ofNat 8 (0x48 + a), .arrayMacro a (macroOwner a o) m, 0, 0⟩
  else d

/-- What a poisoned word does to its reader, beside its event (R490): the cancellers use zero for its slots, symbols and bits of it
are lost, an operation completes FAILED, a history entry reads POISON, a prefetch page is dropped, a controller data word stops the
firmware until it restarts, an MRAM word reads 0. The history slot of a word is DEDUCED (R487, R505), the place of an MRAM word is
PRESUMED, log entry 14. -/
def Dev.poisonEffect (d : Dev) (v : Nv) (a o m w : Nat) : Nv × Dev :=
  if a = 0 then (v, if m = 0 then d.onCluster o (fun x => { x with
      pool := x.pool.filter (fun e => decide (e.1 / 4 ≠ w)) }) else d)
  else if a = 1 then (v, d.onCanc (8 * o + m) (fun x => { x with
    hist := x.hist.mapIdx (fun i v => if (x.histAt - 1 - i) % 4096 / 8 = w then 0 else v) }))
  else if a = 3 then
    let lost (first : Nat) (bs : List Bool) : List Bool := bs.mapIdx (fun i b => b && decide ((first + i) / 64 % 8 ≠ w % 8))
    (v, d.onUnit o (fun x => { x with host :=
      if w % 16 < 8 then { x.host with rxBuf := lost (x.host.rxAt - x.host.rxBuf.length) x.host.rxBuf }
      else { x.host with outBuf := lost (136 * x.rx.tag - x.host.outBuf.length) x.host.outBuf } }))
  else if a = 4 then (v, d.complete (Config.opSlotOfWord (2048 * m + w) % 1024) 1 0xFFFFFFFF)
  else if a = 5 then (v, { d with flt := { d.flt with histBad := (w / 4) :: d.flt.histBad.filter (· ≠ w / 4) } })
  else if a = 6 then
    let n := Config.controllerWord (4096 * m + w) % 9
    if n = 0 then (v, { d with bus := { d.bus with firmware := false } })
    else (v, { d with bus := { d.bus with pages := d.bus.pages.erase (n - 1) } })
  else if a = 7 then ({ v with mram := v.mram.writeBytes (8 * (4096 * m + w)) (List.replicate 8 0) }, d)
  else (v, d)

/-- The words of the arrays of the hub (R487), numbered through their macros. -/
def hubWord (a m w : Nat) : Nat := (if a = 4 then 2048 else 4096) * m + w

/-- A word is known as poisoned (R489). -/
def Dev.knownBad (d : Dev) (v : Nv) (a o m w : Nat) : Bool :=
  if a = 4 then d.opt.bad.contains (hubWord a m w) else if a = 6 then d.bus.bad.contains (hubWord a m w)
  else if a = 7 then v.bad.contains (hubWord a m w) else d.flt.poison.contains (functionalCode (.word a o m w))

/-- A word's check bits are inverted: it is known as poisoned from here (R489). -/
def Dev.markBad (d : Dev) (v : Nv) (a o m w : Nat) : Nv × Dev :=
  let n := hubWord a m w
  if a = 4 then (v, { d with opt := { d.opt with bad := n :: d.opt.bad } })
  else if a = 6 then (v, { d with bus := { d.bus with bad := n :: d.bus.bad } })
  else if a = 7 then ({ v with bad := n :: v.bad }, d)
  else (v, { d with flt := { d.flt with poison := functionalCode (.word a o m w) :: d.flt.poison } })

/-- ARRAY_UE of a word, with the syndrome (R472, R489). -/
def arrayUe (a o m w : Nat) (syn : BitVec 8) : FltEvent := ⟨BitVec.ofNat 8 (0x40 + a), .word a o m w, syn.setWidth 32, 0⟩

/-- First detection of an uncorrectable word, without its event: counted, located, poisoned, with its effect on the reader (R489,
R490, R507). -/
def Dev.eccLost (d : Dev) (v : Nv) (a o m w : Nat) (syn : BitVec 8) : Nv × Dev :=
  let d := (d.addCount (F.FLT_ECC_UE_LO_LO.addr 0) 1).eccLast (.word a o m w) syn true
  let x := d.markBad v a o m w
  x.2.poisonEffect x.1 a o m w

/-- A reader finds an uncorrectable word: one known as poisoned is counted and raises nothing more; the first detection raises its
event (R489). -/
def Dev.eccUncorrectable (d : Dev) (v : Nv) (a o m w : Nat) (syn : BitVec 8) : Nv × Dev :=
  if d.knownBad v a o m w then (v, d.addCount (F.FLT_ECC_POISON_LO_LO.addr 0) 1)
  else
    let x := d.eccLost v a o m w syn
    (x.1, x.2.raise (arrayUe a o m w syn))

/-- What a reader finds in a word of an array (R488, R489). A word that is known as poisoned stays so. -/
def Dev.eccRead (d : Dev) (v : Nv) (a o m w : Nat) (f : EccFinding) : Nv × Dev :=
  if d.knownBad v a o m w then d.eccUncorrectable v a o m w 0xFF
  else match f with
    | .clean | .poisoned => (v, d)
    | .correctable syn => (v, d.eccFixed a o m w syn)
    | .uncorrectable syn => d.eccUncorrectable v a o m w syn

/-! The restore from retention (R421) -/

/-- A word of the retention SRAM of region q as its restore finds it, without the event of an uncorrectable one. -/
def Dev.restoreWord (d : Dev) (q : Nat) (x : RetWord) : Dev :=
  if x.lost then (d.eccLost {} 2 q x.macroNo x.wordNo x.syndrome).2
  else d.eccFixed 2 q x.macroNo x.wordNo x.syndrome

/-- Uncorrectable words end a wake: RET_UE, and the ARRAY_UE of each word, detected with it before its reset masks the region (R421,
R478, R489). DEDUCED, log entry 68. -/
def Dev.restoreLost (d : Dev) (q : Nat) (xs : List RetWord) : Dev :=
  let d := d.raise ⟨0x12, .region q 6, 0, d.tag⟩
  if d.collectorOff then d
  else (xs.filter (·.lost)).foldl (fun d x => d.takeEvent (arrayUe 2 q x.macroNo x.wordNo x.syndrome)) d

/-! Partial writes (R361, R362) -/

/-- A partial write of tap pool word i meets its array word: a correctable error is corrected and counted, and the write goes on; an
uncorrectable one refuses the write, and the word is poisoned from here (R361, R362). A word whose two slots adapt is not written at
all. Whether the write is refused in part or whole. -/
def Dev.writePoolEcc (d : Dev) (c i : Nat) (w : Word) (f : EccFinding) : Bool × Dev :=
  if d.flt.poison.contains (poolWordCode c (2 * i)) || (d.slotAdapts c (2 * i) && d.slotAdapts c (2 * i + 1)) then d.writePool c i w
  else match f with
    | .clean | .poisoned => d.writePool c i w
    | .correctable syn => (d.eccFixed 0 c 0 (i / 2) syn).writePool c i w
    | .uncorrectable syn => (true, (d.eccUncorrectable {} 0 c 0 (i / 2) syn).2)

/-- TAP_POOL_WRITE: a refused write sets PERR in the next status byte; one to a block under test is dropped (R18). `f`: what the write
finds in its array word. -/
def execTapPoolWrite (c : ClusterId) (i : Fin 2048) (data : Word) (f : EccFinding) (s : State) : Host.Outcome State Fault Refusal :=
  s.act (fun d =>
    if d.off .cl c 0x2000 then { d with port := { d.port with perr := true } }
    else if d.tst .cl c then d
    else
      let r := d.writePoolEcc c i data f
      { r.2 with port := { r.2.port with perr := r.2.port.perr || r.1 } })

end Sys2Proof.Machine
end

