-- ==== Sys2Proof/Machine/Power.lean ====
section
/-! DEFINITION. Power states: sleep transactions, entry, wakes, tolerances (R407 to R422, R425, R435, R437). -/

namespace Sys2Proof.Machine

/-- The members of a domain (R412), in the order of R412. -/
def members (dom : Domain) : List Member :=
  match dom with
  | .doze c => (unitsOf c).map (fun u => .unit (Fin.ofNat 256 u)) ++ [.crosstalk, .spare]
  | .deep _ => (List.range 4).map (fun k => .cluster (Fin.ofNat 4 k)) ++ [.retention]

/-- The transaction open in a domain. -/
def Dev.txnOf (d : Dev) (dom : Domain) : Option TxnSt :=
  match dom with
  | .doze c => (d.cluster c).txn
  | .deep q => (d.region q).txn

/-- Writes the transaction of a domain. -/
def Dev.setTxn (d : Dev) (dom : Domain) (t : Option TxnSt) : Dev :=
  match dom with
  | .doze c => (d.onCluster c (fun x => { x with txn := t })).showTxn c
  | .deep q => d.onRegion q (fun x => { x with txn := t })

/-- A unit's standing conditions for DOZE (R411): both directions QUIET and the echo sections in G4; an idle unit takes no part. -/
def Dev.unitStands (d : Dev) (u : Nat) : Bool :=
  !(d.tst .lu u) && (d.idleUnit u ||
    (d.duplex (u / 8) && d.is F.LU_LINE_FRAME_TX_QUIET u && d.is F.LU_LINE_FRAME_RX_QUIET u &&
      decide (d.get F.LU_RB_STAT_GEAR u = 4)))

/-- The standing conditions of a domain hold now (R409 to R411). -/
def Dev.standing (d : Dev) (dom : Domain) : Bool :=
  match dom with
  | .doze c =>
    let x := d.cluster c
    d.mayDoze c && (unitsOf c).all d.unitStands && x.cal.isNone && x.scan.isNone && decide (x.scanWait = []) && x.diag.isNone
  | .deep q =>
    d.mayDeep q && decide ((d.region q).step = 0) && (clustersOf q).all (fun c => decide ((d.cluster c).power = 2)) &&
    !(d.opt.entries.any (fun e => targetInRegion e.2.target q && decide (e.2.state = .running ∨ e.2.state = .held)))

/-- HYST of a region, and the hysteresis time of a domain in hub cycles: 2^HYST times 14 µs or 1.8 ms (R285, R408, R411). -/
def Dev.hyst (d : Dev) (q : Nat) : Nat := bitsOf ((d.img.pwrWords[1 + q]?).getD 0) 7 4
def Dev.hystTime (d : Dev) (dom : Domain) : Nat :=
  match dom with
  | .doze c => (2 ^ d.hyst (c / 4) * 546875 + 99) / 100
  | .deep q => 2 ^ d.hyst q * 703125

/-- The hysteresis time has passed since the domain's last rollback (R414). -/
def Dev.settledSince (d : Dev) (dom : Domain) : Bool :=
  let t := match dom with
    | .doze c => (d.cluster c).rollAt
    | .deep q => (d.region q).rollAt
  t.all (fun t => decide (t + d.hystTime dom ≤ d.time))

/-- Records the time of a rollback (R414). -/
def Dev.noteRoll (d : Dev) (dom : Domain) : Dev :=
  let now := d.time
  match dom with
  | .doze c => d.onCluster c (fun x => { x with rollAt := some now })
  | .deep q => d.onRegion q (fun x => { x with rollAt := some now })

/-- An offer to a domain may be made (R409 to R412, R414, R425). -/
def Dev.offerable (d : Dev) (dom : Domain) : Bool :=
  !(d.is F.CLK_STAT_SW_PEND 0) && decide (d.get F.PWR_PKG_STATE 0 = 0) && !d.safe && (d.txnOf dom).isNone &&
  d.standing dom && d.settledSince dom &&
  (match dom with
   | .doze c => d.clusterLive c && decide ((d.cluster c).power = 0) && (d.region (c / 4)).txn.isNone
   | .deep q => d.regionLive q && decide (d.get F.RG_PWR_STAT_STATE q = 0) &&
     (clustersOf q).all (fun c => (d.cluster c).txn.isNone))

/-- SLEEP_OFFER: the hub opens a transaction with the next ID (R412). `stood`: the standing conditions have held without a break for
the hysteresis time (R411). -/
def execSleepOffer (dom : Domain) (stood : Bool) (s : State) : Host.Outcome State Fault Refusal :=
  s.act (fun d =>
    if stood && d.offerable dom then
      let n := (d.hub.txnId + 1) % 256
      ({ d with hub := { d.hub with txnId := n } }).setTxn dom (some { id := n })
    else d)

/-- Why a member refuses by what the device itself knows of it (R411, R413); 0: it does not. -/
def Dev.refusal (d : Dev) (dom : Domain) (m : Member) : Nat :=
  match dom, m with
  | .doze c, .unit v =>
    let u := v.val
    let idle := d.idleUnit u
    if u / 8 ≠ c.val then 0
    else if !idle && !(d.duplex c && d.is F.LU_LINE_FRAME_TX_QUIET u && d.is F.LU_LINE_FRAME_RX_QUIET u) then 1
    else if !idle && decide (d.get F.LU_RB_STAT_GEAR u < 4) then 2
    else if d.tst .lu u then 4
    else if decide (d.get F.LU_PAT_CTRL_GEN_PT u ≠ 0 ∨ d.get F.LU_PAT_CTRL_CHK_PT u ≠ 0) ||
        decide ((d.cluster c).diag.map (·.lane) = some (u % 8)) then 5
    else if !(d.ruled (c / 4) 1) || d.is F.RG_PWR_CTRL_STAY_AWAKE (c / 4) || !(d.tolerates u 14000) then 7
    else if d.unitMasked u || d.reacting (c / 4) then 9
    else 0
  | .doze c, .crosstalk => if (d.cluster c).diag.isSome then 5 else if !(d.mayDoze c) then 7 else 0
  | .doze c, .spare =>
    if (d.cluster c).cal.isSome || (d.cluster c).scan.isSome || decide ((d.cluster c).scanWait ≠ []) then 3 else 0
  | .deep q, .cluster k =>
    let c := 4 * q.val + k.val
    if (d.cluster c).power ≠ 2 then 10
    else if d.tst .cl c then 4
    else if d.clusterMasked c || d.reacting q then 9
    else if !(d.mayDeep q) then 7 else 0
  | _, _ => 0

/-- SLEEP_VOTE: a member of the domain votes; one whose own conditions fail refuses with that reason whatever it would say
(R412, R413). A vote that arrives without a refusal the device knows of carries what only the member sees. -/
def execSleepVote (dom : Domain) (m : Member) (v : Vote) (s : State) : Host.Outcome State Fault Refusal :=
  s.act (fun d =>
    match d.txnOf dom with
    | none => d
    | some t =>
      if !((members dom).contains m) then d
      else
        let r := d.refusal dom m
        d.setTxn dom (some (t.add m (if r = 0 then v else .refuse (Fin.ofNat 12 r)))))

/-- The first refusing member of a transaction and its reason: those that voted, in the order of their votes, then a missing
vote; none: every member is READY. -/
def firstRefusal (t : TxnSt) (ms : List Member) : Option (Member × Nat) :=
  match t.votes.findSome? (fun e => match e.2 with | .refuse r => some (e.1, r.val) | .ready => none) with
  | some x => some x
  | none => (ms.find? (fun m => !(t.votes.any (fun e => decide (e.1 = m))))).map (fun m => (m, 8))

/-- MLEVEL and MEMBER of R434. -/
def memberCode (dom : Domain) (m : Member) : Nat × Nat :=
  match m with
  | .unit u => (0, u.val % 32)
  | .cluster k => (1, k.val)
  | .crosstalk | .spare => (2, match dom with | .doze c => c.val % 4 | .deep _ => 0)
  | .retention => (3, 0)

/-- Records a transaction in PWR_TXN (R434). -/
def Dev.recordTxn (d : Dev) (dom : Domain) (id : Nat) (ref : Option (Member × Nat)) : Dev :=
  let x := match dom with | .doze c => (c.val, 0) | .deep q => (q.val, 1)
  let m := match ref with | none => (0, 0) | some r => memberCode dom r.1
  let reason := match ref with | none => 0 | some r => r.2
  d.report (F.PWR_TXN_ID.addr 0) (BitVec.ofNat 32 (id * 2 ^ 24 + x.1 * 2 ^ 19 + x.2 * 2 ^ 18 + b2n ref.isNone * 2 ^ 17 +
    m.1 * 2 ^ 15 + m.2 * 2 ^ 10 + reason))

/-- A posted write to a block of the region is lost when the region commits DEEP (R353, R425). -/
def Dev.postedIn (d : Dev) (q : Nat) : Bool :=
  match d.port.posted with
  | none => false
  | some (a, _) => match locate a with
    | some (.rg, i, _) => decide (i = q)
    | some (.cl, i, _) => decide (i / 4 = q)
    | some (.lu, i, _) => decide (i / 32 = q)
    | _ => false

/-- A tolerance, rule or enable has changed after the offer so that the state is no longer allowed (R413, R420): the member
that then refuses. -/
def Dev.ltrRefusal (d : Dev) (dom : Domain) : Option Member :=
  match dom with
  | .doze c =>
    if d.mayDoze c then none
    else some (.unit (Fin.ofNat 256 (((unitsOf c).find? (fun u => !(d.tolerates u 14000))).getD (8 * c))))
  | .deep q =>
    if d.mayDeep q then none
    else some (.cluster (Fin.ofNat 4 (((unitsOfRegion q).find? (fun u => !(d.tolerates u 1800000))).getD (32 * q) / 8)))

/-- The drivers of a cluster's line and HOST_TX lanes are off (R408, R415). -/
def Dev.driversOff (d : Dev) (c : Nat) : Dev :=
  d.each (unitsOf c) (fun d u => (d.onUnit u (fun x => { x with lineOut := none })).driveHtx u none)

/-- A transaction of a cluster has ended: the spare receive channel that had stopped goes on (R412). On COMMIT the scans that wait end
with reason 4, and a calibration run that waits without a unit that takes part (R257, R460). -/
def Dev.txnOver (d : Dev) (c : Nat) (commit : Bool) : Dev :=
  if commit && (d.cluster c).cal.isSome then d.calAbandon c 3 else d.channelFree c

/-- SLEEP_DECISION: COMMIT when every vote is READY, else ROLLBACK (R412, R414, R433, R434). On COMMIT the domain starts to
enter; a DEEP region asks for its kerbs to close (R360, R407) and discards a posted write to its blocks. -/
def execSleepDecision (dom : Domain) (s : State) : Host.Outcome State Fault Refusal :=
  s.act (fun d =>
    match d.txnOf dom with
    | none => d
    | some t =>
      let t := match d.ltrRefusal dom with
        | some m => t.add m (.refuse 7)
        | none => t
      let r := firstRefusal t (members dom)
      let d := (d.setTxn dom none).recordTxn dom t.id r
      if r.isSome then
        let d := (d.noteRoll dom).wrap F.PWR_PKG_RB_CNT 0 1
        match dom with
        | .doze c => d.txnOver c false
        | .deep _ => d
      else
        let d := d.wrap F.PWR_PKG_TXN_CNT 0 1
        match dom with
        | .doze c =>
          ((d.onCluster c (fun x => { x with power := 1 })).putBit F.RG_PWR_STAT_CL_DOZE (c / 4) (c % 4) true).txnOver c true
        | .deep q =>
          let d := (d.put F.RG_PWR_STAT_STATE q 1).onRegion q (fun x => { x with gating := true })
          if d.postedIn q then d.postLost else d)

/-- SLEEP_ENTRY_DONE: the state is reached, or the wake that came meanwhile starts (R415, R425). -/
def execSleepEntryDone (dom : Domain) (s : State) : Host.Outcome State Fault Refusal :=
  s.act (fun d =>
    match dom with
    | .doze c =>
      if (d.cluster c).power = 1 then
        (d.driversOff c).onCluster c (fun x => { x with power := if x.wakeDue then 3 else 2, wakeDue := false })
      else d
    | .deep q =>
      if d.get F.RG_PWR_STAT_STATE q = 1 then
        (d.put F.RG_PWR_STAT_STATE q (if (d.region q).wakeDue then 3 else 2)).onRegion q
          (fun x => { x with wakeDue := false, gating := false })
      else d)

/-- WAKE_TRIGGER: a detector of a non-idle unit, or an action that needs the domain (R416). -/
def execWakeTrigger (w : WakeCause) (s : State) : Host.Outcome State Fault Refusal :=
  s.act (fun d =>
    match w with
    | .sigdet u => if d.idleUnit u then d else d.wakeUnit u
    | .squelch u =>
      if d.idleUnit u then d
      else if decide ((d.cluster (u / 8)).power = 0) then d.wakeUnit u
      else (d.wakeUnit u).onCluster (u / 8) (fun x => { x with squelched := (x.squelched ++ [u.val % 8]).eraseDups })
    | .region q => d.wakeAll q
    | .cluster c => d.wakeWhole c)

/-- A unit's cancellers go on at G3 for 32,768 tokens with their sections kept (R116, R125). -/
def Dev.warmG3 (d : Dev) (u : Nat) : Dev :=
  let now := d.refa
  ((d.put F.LU_RB_STAT_GEAR u 3).put F.LU_RB_STAT_WARM u 1).onCanc u (fun x => { x with gearAt := now, shortG3 := true, slow := false })

/-- The end of a self-test: cancellers that were in G4 go on at G3 (R118). -/
def Dev.resumeG3 (d : Dev) (u : Nat) : Dev := if d.get F.LU_RB_STAT_GEAR u = 4 then d.warmG3 u else d

/-- A cluster has woken (R116, R417): cancellers at G3; a direction whose far end woke begins resume handling (R419). -/
def Dev.dozeWoken (d : Dev) (c : Nat) : Dev :=
  let ls := (d.cluster c).squelched
  let d := d.onCluster c (fun x => { x with power := 0, squelched := [] })
  let d := d.putBit F.RG_PWR_STAT_CL_DOZE (c / 4) (c % 4) false
  let d := if d.duplex c then d.each (unitsOf c) Dev.warmG3 else d
  d.each ls (fun d l => if d.rxHeld (8 * c + l) then d.resumeHandling (8 * c + l) else d)

/-- What DEEP does not keep (R421): transmit histories, elastic buffers, LQI windows, and what else no register and no retained
item holds of the tokens that have passed. -/
def Dev.notRetained (d : Dev) (q : Nat) : Dev :=
  (d.each (clustersOf q) (fun d c => d.onCluster c (fun x => { x with stdWait := [] }))).each (unitsOfRegion q) (fun d u =>
    let d := ((d.put F.LU_RX_LQI_LQI u 0xFFFF).monStart u).driveHtx u none
    d.onUnit u (fun x => { x with
      fills := (0, 2, 0, 2), dropRx := false, dropHrx := false, txSyms := [], lineOut := none
      canc := { x.canc with
        hist := [], histAt := 0, grads := [], powerIn := 0, powerOut := 0, resid := [], farPower := 0, depth := 0 }
      rx := { x.rx with
        past := [], syms := [], energies := [], silent := 0, energetic := 0, steps := [], varLow := 0, varHigh := 0, stepRun := 0
        lqi := { due := x.rx.lqi.due }, servo := { due := x.rx.servo.due }, slowRx := 0, slowTx := 0
        bodies := [], markBits := [], marks := [] }
      host := { x.host with rxBuf := [], rxAt := 0, outBuf := [], levels := [], txPrev := 0, rxPrev := 0 }
      mon := { x.mon with
        chkBits := [], chkRun := 0, chkWin := [], lineCw := [], hostCw := [], lineOut := [], hostOut := [] } }))

/-! Software access -/

/-- WAKE: the region and all its clusters wake (R416, R437). -/
def execWake (q : RegionId) (s : State) : Host.Outcome State Fault Refusal :=
  s.act (fun d => if d.off .rg q 0x14 then d.refuse else if d.tst .rg q then d else d.wakeAll q)

/-- STAY_AWAKE is set: the region and its clusters wake and stay awake (R420, R437). -/
def Dev.stayAwake (d : Dev) (q : Nat) : Dev := (d.put F.RG_PWR_CTRL_STAY_AWAKE q 1).wakeAll q 7

def execStayAwake (q : RegionId) (s : State) : Host.Outcome State Fault Refusal :=
  s.act (fun d => if d.off .rg q 0x14 then d.refuse else if d.tst .rg q then d else d.stayAwake q)

end Sys2Proof.Machine
end

