-- ==== Sys2Proof/Machine/HostLane.lean ====
section
/-! DEFINITION. Host lanes and ports: HOST_RX bring-up, host idle and QUIET requests, deskew, the source of HOST_TX, port up
(R213 to R234). -/

namespace Sys2Proof.Machine

/-- A HOST_RX lane that is not ignored: mapped, to a unit of a port that can act (R217). -/
def Dev.hrxLive (d : Dev) (u : Nat) : Bool := d.pathLive u && d.mapped u && d.inPort u

/-- State of R218. -/
def Dev.hrx (d : Dev) (u : Nat) : Nat := d.get F.LU_HOST_STAT_HRX_STATE u

/-- Writes the state of R218, which is entered now. -/
def Dev.setHrx (d : Dev) (u st : Nat) : Dev :=
  let now := d.refa
  (d.put F.LU_HOST_STAT_HRX_STATE u st).onHost u (fun x => { x with firstAm := [], badAm := 0, hrxAt := now })

/-- A lane loses its AM lock and goes to a state: AM_LOL (R219, R230). -/
def Dev.amLoss (d : Dev) (u st : Nat) : Dev :=
  let d := ((d.put F.LU_HOST_EVT_AM_LOL u 1).put F.LU_HOST_STAT_AM_LOCK u 0).put F.LU_BU_STAT_HOST_AM u 0
  ((d.setHrx u st).onHost u (fun x => { x with laneAm := false })).amDrop u

/-- Delays a lane and takes its place on the line-bound grid: markers after deskew, which stay where they are while the lane has
lost its lock (R64, R222). -/
def Dev.setHrxDly (d : Dev) (u dly : Nat) : Dev :=
  (d.put F.LU_HOST_STAT_HRX_DLY u dly).onHost u (fun x => { x with txBase := (x.amPos + dly) % amPeriod })

/-- Measures and sets the HOST_RX deskew of port p once every lane has its own lock: delays to the latest lane, or
SKEW_LIMIT, located at the latest lane, by which the port stays down (R222, R223, R228). -/
def Dev.hostDeskew (d : Dev) (p : Nat) : Dev :=
  let us := d.portUnits p
  let c := p / 8
  if !(us.all (fun u => (d.unit u).host.laneAm)) then d
  else
    let pos (u : Nat) : Int := markGap (d.unit u).host.amPos (d.unit p).host.amPos
    let x := spread pos us p
    if 360 < x.2.2 then (d.portFail x.1).unitEvent F.LU_HOST_EVT_SKEW_LIMIT x.1 0x3B 3 0
    else
      let d := us.foldl (fun d u => d.setHrxDly u (pos x.1 - pos u).toNat) d
      (d.onCluster c (fun y => { y with
        hrxDsk := (p % 8) :: y.hrxDsk.filter (· ≠ p % 8), hrxLate := y.hrxLate.insert (p % 8) (x.1 % 8) })).showDsk p

/-- The whole port is deskewed again; while that does not succeed its lanes hold no lock for R68 and R71 (R219, R223). -/
def Dev.redeskew (d : Dev) (p : Nat) : Dev :=
  let d := d.onCluster (p / 8) (fun x => { x with hrxDsk := x.hrxDsk.filter (· ≠ p % 8) })
  let d := (d.showDsk p).hostDeskew p
  if d.hostSet p then d else (d.portUnits p).foldl (fun d u => d.amDrop u) d

/-- A lane's own AM lock is declared at a marker (R219, R223, R237): a port already deskewed takes the lane back on its
grid, unless the marker of its latest lane has moved against the grid by more than 8 bits or the lane does not fit the grid. -/
def Dev.amGain (d : Dev) (u m : Nat) : Dev :=
  let place := (d.unit u).host.txBase
  let d := ((d.setHrx u 4).put F.LU_HOST_STAT_AM_LOCK u 1).put F.LU_BU_STAT_HOST_AM u 1
  let d := d.onUnit u (fun x => { x with
    host := { x.host with laneAm := true, amPos := m }, mon := { x.mon with hostCw := [] } })
  if d.width u = 1 then d.setHrxDly u 0
  else
    let p := d.portOf u
    if !((d.cluster (u / 8)).hrxDsk.contains (p % 8)) then d.hostDeskew p
    else
      let need := markGap place m
      if (d.cluster (u / 8)).hrxLate.find (p % 8) = some (u % 8) ∧ 8 < need.natAbs then
        ((d.put F.LU_HOST_EVT_DESKEW_ERR u 1).portFail u).redeskew p
      else if 0 ≤ need ∧ need ≤ 360 then d.setHrxDly u need.toNat
      else d.redeskew p

/-! Signal and idle (R218, R220, R231, R233) -/

/-- A HOST_RX lane whose unit's region is in DEEP: its detector goes on (R231, R416). -/
def Dev.hrxAsleep (d : Dev) (u : Nat) : Bool :=
  d.dieRuns (u / 64) && d.deep (u / 32) && !(d.regionHeld (u / 32)) && !((d.cluster (u / 8)).inReset) && !((d.unit u).inReset) &&
    d.mapped u && d.inPort u

/-- SIGDET: the lane adapts, or leaves QUIET as a wake request, which in DOZE and DEEP wakes the domain first (R218, R231). -/
def execSigdet (u : UnitId) (s : State) : Host.Outcome State Fault Refusal :=
  s.act (fun d =>
    if !(d.hrxLive u || d.hrxAsleep u) then d
    else
      let d := d.put F.LU_HOST_STAT_SIGDET u 1
      if d.hrx u = 1 then d.setHrx u 2
      else if d.hrx u = 5 then
        let d := d.put F.LU_HOST_STAT_HRX_STATE u 4
        if d.idleUnit u then d else d.wakeUnit u
      else d)

/-- A lane without signal returns to SIGWAIT (R218). -/
def Dev.sigLost (d : Dev) (u : Nat) : Dev :=
  let d := if d.is F.LU_HOST_STAT_CDR_LOCK u then d.put F.LU_HOST_EVT_CDR_LOL u 1 else d
  d.put F.LU_HOST_STAT_CDR_LOCK u 0

/-- HOST_IDLE: in LOCKED a request for QUIET in a DUPLEX cluster, granted or refused (R231, R233, R411); `stood`: the
standing conditions have held for the hysteresis time. TX_QUIET is set when the notice begins. DESIGN CHOICE, log entry 58. -/
def execHostIdle (u : UnitId) (stood : Bool) (s : State) : Host.Outcome State Fault Refusal :=
  s.act (fun d =>
    if !(d.hrxLive u) then d
    else
      let d := (d.put F.LU_HOST_STAT_SIGDET u 0).put F.LU_HOST_EVT_HOST_IDLE u 1
      if d.hrx u = 2 ∨ d.hrx u = 3 then (d.sigLost u).setHrx u 1
      else if d.hrx u = 4 then
        if d.is F.LU_HOST_STAT_AM_LOCK u && d.mayQuiet u stood then
          (d.put F.LU_HOST_STAT_HRX_STATE u 5).onUnit u (fun x => { x with txWant := some .quietNotice, rouse := false })
        else (d.sigLost u).amLoss u 1
      else d)

/-- CDR_LOCK: the CDR is locked and the error has settled: marker search, or the start of the pattern checker that serves the lane
(R218, R250). -/
def execCdrLock (u : UnitId) (s : State) : Host.Outcome State Fault Refusal :=
  s.act (fun d =>
    if !(d.hrxLive u) then d
    else
      let was := d.is F.LU_HOST_STAT_CDR_LOCK u
      let d := d.put F.LU_HOST_STAT_CDR_LOCK u 1
      if d.get F.LU_PAT_CTRL_CHK_PT u = 2 then
        (if was then d else d.onMon u (fun x => { x with chkBits := [], chkRun := 0, chkWin := [] }))
      else if d.hrx u = 2 then d.setHrx u 3
      else d)

/-- CDR_LOL: loss of CDR lock; from LOCKED also of AM lock, at once (R218, R219). In QUIET the CDR phase is frozen. -/
def execCdrLol (u : UnitId) (s : State) : Host.Outcome State Fault Refusal :=
  s.act (fun d =>
    if !(d.hrxLive u) || decide (d.hrx u = 5) then d
    else
      let d := (d.put F.LU_HOST_EVT_CDR_LOL u 1).put F.LU_HOST_STAT_CDR_LOCK u 0
      if d.hrx u = 4 then d.amLoss u 2 else if d.hrx u = 3 then d.setHrx u 2 else d)

/-- HRX_TMO: a limit of R218, counted from the entry to the state; a lane that the pattern checker serves has none (R250). -/
def execHrxTmo (u : UnitId) (s : State) : Host.Outcome State Fault Refusal :=
  s.act (fun d =>
    let lim := if d.hrx u = 2 then 131072 else 331776
    if d.hrxLive u && decide (d.hrx u = 2 ∨ d.hrx u = 3) && decide (d.get F.LU_PAT_CTRL_CHK_PT u ≠ 2) &&
        d.due ((d.unit u).host.hrxAt + lim) then
      (d.unitEvent F.LU_HOST_EVT_HRX_TMO u 0x3A 3 0).setHrx u 2
    else d)

/-! Markers (R64, R219, R223) -/

/-- A marker of HOST_RX is valid: its bits, at a bit time, differ from the fixed ones in no more than 3 (R219); none: they are not in
the buffer. -/
def Dev.hostValid (d : Dev) (u m : Nat) : Option Bool :=
  let h := (d.unit u).host
  let first := h.rxAt - h.rxBuf.length
  let got := (h.rxBuf.drop (m - first)).take 240
  let am := Config.amBits (d.width u) (d.pos u)
  if first ≤ m ∧ got.length = 240 then some (decide (bitDiff got ((List.range 240).map am.getLsbD) ≤ 3)) else none

/-- A marker in AM_HUNT: with a valid one exactly one period before, the lane locks (R219). -/
def Dev.huntMarker (d : Dev) (u m : Nat) : Dev :=
  let found := (d.unit u).host.firstAm
  if amPeriod ≤ m ∧ found.contains (m - amPeriod) = true then d.amGain u m
  else if found.contains m then d
  else d.onHost u (fun x => { x with firstAm := m :: x.firstAm.filter (fun k => decide (m < k + amPeriod)) })

/-- A marker at the expected position of a LOCKED lane: four invalid ones in a row lose the lock, a valid one repeats a deskew that
is not set (R219, R223). -/
def Dev.lockedMarker (d : Dev) (u m : Nat) (valid : Bool) : Dev :=
  let bad := if valid then 0 else (d.unit u).host.badAm + 1
  let d := d.onHost u (fun x => { x with amPos := m, badAm := bad })
  if 4 ≤ bad then d.amLoss u 3
  else if valid && !(d.hostSet (d.portOf u)) then d.hostDeskew (d.portOf u)
  else d

/-- HOST_MARKER: the bits that HOST_RX has brought from a bit time on are held against the alignment marker; in LOCKED only at the
expected position (R219, R223). -/
def execHostMarker (u : UnitId) (m : Nat) (s : State) : Host.Outcome State Fault Refusal :=
  s.act (fun d =>
    if !(d.hrxLive u) then d
    else match d.hostValid u m with
      | none => d
      | some valid =>
        if d.hrx u = 3 then (if valid then d.huntMarker u m else d)
        else if d.hrx u = 4 ∧ (d.unit u).host.amPos < m ∧ m % amPeriod = (d.unit u).host.amPos % amPeriod then
          d.lockedMarker u m valid
        else d)

/-! Ports (R225 to R228, R232) -/

/-- A lane's HOST_TX takes the source that R225 selects; the fill of a wake ends with the first payload (R232). -/
def Dev.htxChange (d : Dev) (u : Nat) : Dev :=
  let d := if (d.unit u).host.fill && d.rxData u then
      d.onUnit u (fun x => { x with host := { x.host with fill := false } }) else d
  d.setHtx u (d.htxWanted u)

/-- HTX_SOURCE_CHANGE: at a codeword boundary, which is the same one on every lane of the port (R227). -/
def execHtxSourceChange (u : UnitId) (s : State) : Host.Outcome State Fault Refusal :=
  s.act (fun d =>
    if !(d.dieRuns (u / 64)) then d
    else if d.inPort u then d.each (d.portUnits (d.portOf u)) Dev.htxChange else d.htxChange u)

/-- PORT_COMES_UP: the conditions of R228 hold at a codeword boundary: UP, and payload on every lane of the port, whose grid the
port takes (R226, R227, R240). -/
def execPortComesUp (p : UnitId) (s : State) : Host.Outcome State Fault Refusal :=
  s.act (fun d =>
    if d.pathLive p && d.isPort p && d.portOk p && !(d.portUp p) then
      ((d.putBit F.CL_PORT_STAT_UP (p / 8) (p % 8) true).takeGrid p).each (d.portUnits p) Dev.htxChange
    else d)

end Sys2Proof.Machine
end

