-- ==== Sys2Proof/Machine/Monitor.lean ====
section
/-! DEFINITION. Monitoring and tests: intervals, counters, patterns, error injection, margin scans, sweeps (R242 to R276). -/

namespace Sys2Proof.Machine

/-! Intervals and counters -/

/-- A condition of R243 at an interval's end: its bit is set while it holds, its event is raised when it begins to hold. -/
def Dev.monCond (d : Dev) (u : Nat) (f : Fld) (bit : Nat) (was now : Bool) : Dev :=
  if now && !was then d.unitEvent f u 0x3C 1 (BitVec.ofNat 32 (2 ^ bit))
  else if now then d.put f u 1 else d

/-- The four words of an interval's record after SEQ n (R243, R248): its counts, its windows, whether it was shortened. -/
def IntSt.record (x : IntSt) (n windows : Nat) (short : Bool) : List Word :=
  let none' := decide (x.est = 0)
  let lqi (v : Nat) : Nat := if none' then 0xFFF else min v 0xFFE
  let noEst := min 255 ((256 * (windows - x.est) + windows - 1) / max 1 windows)
  let w (v : Nat) : Word := BitVec.ofNat 32 (n % 256 * 2 ^ 24 + v)
  [w (lqi x.high * 2 ^ 12 + lqi x.low), w (b2n short * 2 ^ 23 + noEst * 2 ^ 12 + lqi (x.sum / max 1 x.est)),
    w (min x.symErr 0xFFFFFF), w (min x.uncorr 255 * 2 ^ 16 + min x.hdrErr 0xFFFF)]

/-- The next interval starts where the last one stopped and ends at the first multiple of the length in force after that; what it has
counted so far are its counts (R242, R244). -/
def MonSt.roll (m : MonSt) (exp : Nat) : MonSt :=
  let n := 1024 * 2 ^ exp
  { m with exp := exp, start := m.stop, stop := (m.stop / n + 1) * n, acc := m.next, next := {} }

/-- MONITOR_INTERVAL: the interval in progress has ended: the record is replaced whole, the conditions are evaluated, a new MON_EXP
takes effect (R242 to R244, R248). An LQI above 0xFFE and the fraction of the mean are cut off. DESIGN CHOICE, log entry 61. -/
def execMonitorInterval (u : UnitId) (s : State) : Host.Outcome State Fault Refusal :=
  s.act (fun d =>
    let c := u.val / 8
    let m := (d.unit u).mon
    if !(d.live u && d.due m.stop) then d
    else
      let x := m.acc
      let ws := x.record (d.get F.LU_MON_INT0_SEQ u + 1) ((m.stop - m.start) / 1024) (decide (m.stop - m.start < 1024 * 2 ^ m.exp))
      let word (i : Nat) : Word := (ws[i]?).getD 0
      let d := (d.setWord (F.LU_MON_INT0_SEQ.addr u) (word 0)).report (F.LU_MON_INT1_SEQ.addr u) (word 1)
      let d := (d.setWord (F.LU_MON_INT2_SEQ.addr u) (word 2)).setWord (F.LU_MON_INT3_SEQ.addr u) (word 3)
      let low := decide (0 < x.est ∧ x.low < d.get F.CL_MON_CFG_LQI_THR c)
      let high := decide (d.get F.CL_MON_CFG_SYM_M c * 2 ^ d.get F.CL_MON_CFG_SYM_E c < x.symErr)
      let unc := decide (0 < x.uncorr)
      let exp := d.get F.CL_MON_CFG_MON_EXP c
      let d := d.onMon u (fun x => { x.roll exp with lqiLow := low, symHigh := high, uncorr := unc })
      let d := d.monCond u F.LU_MON_EVT_LQI_LOW 0 m.lqiLow low
      let d := d.monCond u F.LU_MON_EVT_SYM_HIGH 1 m.symHigh high
      d.monCond u F.LU_MON_EVT_UNCORR 2 m.uncorr unc)

/-- CNT_CLR: every counter of R247, and its shadow, is zeroed at one token boundary (R246, R352). -/
def Dev.cntClr (d : Dev) (u : Nat) : Dev :=
  let lo := blkBase .lu u + 0x400
  let out (a : Nat) : Bool := decide (a < lo) || decide (lo + 0x100 ≤ a)
  { d with regs := d.regs.filter (fun e => out e.1), shadows := d.shadows.filter (fun e => out e.1) }

def execCntClr (u : UnitId) (s : State) : Host.Outcome State Fault Refusal :=
  s.act (fun d => d.unitCommand u (fun d => d.cntClr u))

/-! Patterns (R249 to R251) -/

/-- GEN_PT_CHANGE: the generator's new point and pattern are taken; they take effect at the point's next codeword boundary, which the
token that holds it finds (R249). -/
def execGenPtChange (u : UnitId) (s : State) : Host.Outcome State Fault Refusal :=
  s.act (fun d =>
    if d.live u then
      let pt := d.get F.LU_PAT_CTRL_GEN_PT u
      let pat := d.get F.LU_PAT_CTRL_GEN_PAT u
      d.onMon u (fun x => { x with genPt := pt, genPat := pat })
    else d)

/-- The checker's point delivers bits: a receive direction in data mode, or a HOST_RX lane with CDR lock (R250). -/
def Dev.patRuns (d : Dev) (u : Nat) : Bool :=
  let pt := d.get F.LU_PAT_CTRL_CHK_PT u
  (decide (pt = 1) && d.rxData u) || (decide (pt = 2) && d.is F.LU_HOST_STAT_CDR_LOCK u)

/-- PAT_LOCK: 256 correct bits in a row (R250). -/
def execPatLock (u : UnitId) (s : State) : Host.Outcome State Fault Refusal :=
  s.act (fun d =>
    if d.live u && d.patRuns u && !(d.is F.LU_PAT_CTRL_PAT_LOCK u) && decide (256 ≤ (d.unit u).mon.chkRun) then
      (d.put F.LU_PAT_CTRL_PAT_LOCK u 1).onMon u (fun x => { x with chkWin := [] })
    else d)

/-- PAT_LOL: 32 errors within 128 compared bits; the checker seeds itself again (R250). -/
def execPatLol (u : UnitId) (s : State) : Host.Outcome State Fault Refusal :=
  s.act (fun d =>
    if d.live u && d.is F.LU_PAT_CTRL_PAT_LOCK u && decide (32 ≤ ((d.unit u).mon.chkWin.filter id).length) then
      ((d.put F.LU_PAT_CTRL_PAT_LOCK u 0).put F.LU_MON_EVT_PAT_LOL u 1).onMon u (fun x => { x with
        chkBits := [], chkRun := 0, chkWin := [] })
    else d)

/-! Error injection (R252, R253) -/

/-- GO takes the parameters into use from the next codeword boundary on; a running injection restarts. -/
def Dev.injGo (d : Dev) (u : Nat) : Dev :=
  let p : InjSt := ⟨d.get F.LU_INJ_CTRL_PERIOD u, d.get F.LU_INJ_CTRL_SYMS u, d.is F.LU_INJ_CTRL_POINT u, 136 * d.refa⟩
  d.onMon u (fun x => { x with inj := some p })

/-- STOP. -/
def Dev.injStop (d : Dev) (u : Nat) : Dev := d.onMon u (fun x => { x with inj := none })

def execInjGo (u : UnitId) (s : State) : Host.Outcome State Fault Refusal :=
  s.act (fun d => d.unitCommand u (fun d => d.injGo u))

def execInjStop (u : UnitId) (s : State) : Host.Outcome State Fault Refusal :=
  s.act (fun d => d.unitCommand u (fun d => d.injStop u))

/-- The line point of injection is there: the payload of a transmitter in data mode, in SIMPLEX of a lane that is up (R252). -/
def Dev.linePayload (d : Dev) (u : Nat) : Bool :=
  if d.duplex (u / 8) then decide ((d.unit u).tx = .data) else decide (d.get F.LU_BU_STAT_STATE u = 10)

/-- INJECTION: the next codeword to be injected at the point is taken, the first one to start at or after the time due; INJ_CNT
advances, a single injection is done, the next one follows PERIOD codewords later (R252). It occurs within 40 tokens ahead of the
codeword, and at the latest before the first symbol that is hit is sent. -/
def execInjection (u : UnitId) (s : State) : Host.Outcome State Fault Refusal :=
  s.act (fun d =>
    let m := (d.unit u).mon
    match m.inj with
    | none => d
    | some p =>
      let t := max p.next (136 * d.refa - 408)
      let open' := (m.hit.map (fun h => decide (136 * d.refa < h.1 + cwBits))).getD false
      let grid := if p.host then d.grid u else d.txGrid u
      let start := t + toCw grid t
      if !(d.live u) || open' || decide (136 * (d.refa + 40) < start) || (!p.host && !(d.linePayload u)) then d
      else
        let next := { p with next := start + cwBits * max 1 p.period }
        let d := (d.addUnitCount u 0x468 1).onMon u (fun x => { x with
          hit := some (start, p.syms), hitHost := p.host, inj := if p.period = 0 then none else some next })
        if p.period = 0 then d.put F.LU_MON_EVT_INJ_DONE u 1 else d)

/-! Margin scans (R254 to R257, R271, R273, R276) -/

/-- The counts measured at a point (h + 32, v + 32). -/
def ScanSt.at (s : ScanSt) (h v : Nat) : Option (Nat × Nat × Nat) :=
  (s.pts.find? (fun p => decide (p.1 = h ∧ p.2.1 = v))).map (fun p => p.2.2)

/-- The k-th point from 0 in a direction of a CROSS scan: left, right, down, up; and how far each direction goes. -/
def dirPoint (dir k : Nat) : Nat × Nat :=
  if dir = 0 then (32 - k, 32) else if dir = 1 then (32 + k, 32) else if dir = 2 then (32, 32 - k) else (32, 32 + k)
def dirEnd (dir : Nat) : Nat := if dir % 2 = 0 then 32 else 31

/-- The next point of a direction from step k on that is not measured; none: the direction has ended, at its last point or at
the first one by which every eye has exceeded TARGET (R255). `past`: the eyes that have. DEDUCED, log entry 46. -/
def ScanSt.dirFrom (s : ScanSt) (dir k : Nat) (past : Bool × Bool × Bool) : Nat → Option (Nat × Nat)
  | 0 => none
  | n + 1 =>
    match s.at (dirPoint dir k).1 (dirPoint dir k).2 with
    | none => some (dirPoint dir k)
    | some c =>
      let x := (past.1 || decide (s.target < c.1), past.2.1 || decide (s.target < c.2.1), past.2.2 || decide (s.target < c.2.2))
      if x.1 && x.2.1 && x.2.2 then none else ScanSt.dirFrom s dir (k + 1) x n

/-- The next point of a direction of a CROSS scan. -/
def ScanSt.dirNext (s : ScanSt) (dir : Nat) : Option (Nat × Nat) := s.dirFrom dir 1 (false, false, false) (dirEnd dir)

/-- The next point of a scan (R255): the origin, then each direction; or the grid, i first. -/
def ScanSt.next (s : ScanSt) : Option (Nat × Nat) :=
  if s.mode = 1 then
    match s.at 32 32 with
    | none => some (32, 32)
    | some _ => (List.range 4).findSome? s.dirNext
  else
    let n := s.pts.length
    if n < 1024 then some (2 * (n % 32), 2 * (n / 32)) else none

/-- Disagreements of an eye. -/
def eyeCount (e : Nat) (c : Nat × Nat × Nat) : Nat := if e = 0 then c.1 else if e = 1 then c.2.1 else c.2.2

/-- The margin of an eye in a direction (R255): the largest magnitude up to which every measured point shows at most TARGET
disagreements. A MAP measures every second point. -/
def ScanSt.margin (s : ScanSt) (e dir : Nat) : Nat :=
  let st := if s.mode = 1 then 1 else 2
  let ok (k : Nat) : Bool := match s.at (dirPoint dir k).1 (dirPoint dir k).2 with
    | some c => decide (eyeCount e c ≤ s.target)
    | none => false
  let good := ((List.range 33).map (· * st)).takeWhile (fun k => decide (k ≤ dirEnd dir) && ok k)
  (good.getLast?).getD 0

/-- Writes a unit's margins, and for a MAP the cluster's map window, when its scan has ended with a result. -/
def Dev.scanWrite (d : Dev) (u : Nat) (s : ScanSt) : Dev :=
  let c := u / 8
  let d := d.each (List.range 3) (fun d e =>
    d.setWord ((F.LU_MS_EYE_H_LEFT e).addr u) (BitVec.ofNat 32 (s.margin e 0 * 2 ^ 24 + s.margin e 1 * 2 ^ 16 +
      s.margin e 2 * 2 ^ 8 + s.margin e 3)))
  let d := d.scanStat u s 0
  if s.mode = 2 then
    let n (i j : Nat) : Nat := ((s.at (2 * i) (2 * j)).map (fun x => min (x.1 + x.2.1 + x.2.2) 0xFFFF)).getD 0
    let d := d.each (List.range 512) (fun d k =>
      let i := 2 * k % 32
      let j := 2 * k / 32
      d.setWord ((F.CL_MS_MAP_COUNTS k).addr c) (BitVec.ofNat 32 (n i j + n (i + 1) j * 2 ^ 16)))
    ((d.put F.CL_MS_MAPU_SEQ c (d.get F.LU_MS_STAT_SEQ u)).put F.CL_MS_MAPU_VALID c 1).put F.CL_MS_MAPU_LANE c (u % 8)
  else d

/-- MSCAN_POINT_END: the next point of the unit's scan has been compared; after the last one the results are written and the
next unit of the scan goes ahead (R254 to R256). -/
def execMscanPointEnd (u : UnitId) (counts : Nat × Nat × Nat) (s : State) : Host.Outcome State Fault Refusal :=
  s.act (fun d =>
    let c := u.val / 8
    match (d.cluster c).scan with
    | none => d
    | some r =>
      if r.lane ≠ u % 8 then d
      else match r.next with
        | none => d
        | some p =>
          let r := { r with pts := (p.1, p.2, counts) :: r.pts }
          match r.next with
          | some _ => d.onCluster c (fun x => { x with scan := some r })
          | none => ((d.scanWrite u r).onEntry r.slot (fun e => { e with noted := e.noted ++ [u.val % 8] })).scanNext c r)

end Sys2Proof.Machine
end

