-- ==== Sys2Proof/Machine/Reset.lean ====
section
/-! DEFINITION. Unit and cluster resets by software (R23 to R25, R366, R576). -/

namespace Sys2Proof.Machine

/-- Asserts a unit reset (R23, R116, R118, R480): masked from here, the port down, the echo sections zeroed and their blocks
returned, the registers at reset; the NEXT cancellers stay frozen until header lock, those of the neighbours against it until its
training starts (R118). -/
def Dev.resetUnit (d : Dev) (u : Nat) : Dev :=
  if (d.unit u).inReset then d
  else
    let c := u / 8
    let d := d.onUnit u (fun x => { x with masked := true })
    let d := ((((d.rescanLost u).sweepLost u).rxGone u 3).portFail u).laneGone u
    let d := (((d.zeroEcho u).setHtx u 0).wipeUnit u).lineGone u
    let d := d.onUnit u (fun x => { x with
      inReset := true, masked := true, mute := true, canc := { x.canc with nextUntilLock := true } })
    d.onCluster c (fun x => { x with silent := x.silent.filter (· ≠ u % 8) })

/-- Asserts a cluster reset: the runs of the cluster end, its ports go down, everything of it but the allocation, the ports
and the trims is at reset (R23, R257, R265, R440, R460). -/
def Dev.resetCluster (d : Dev) (c : Nat) : Dev :=
  if (d.cluster c).inReset then d
  else
    let d := d.onCluster c (fun x => { x with inReset := true, masked := true })
    let d := d.diagAbandon c
    let d := ((d.scansOver c).calAbandon c 11).each (unitsOf c) Dev.portFail
    let d := (d.each (unitsOf c) (fun d u => d.setHtx u 0)).wipeCluster c
    let d := d.onCluster c (fun x => { x with inReset := true, masked := true })
    (d.putBit F.RG_PWR_STAT_CL_DOZE (c / 4) (c % 4) false).putBit F.RG_PWR_STAT_CL_TXN (c / 4) (c % 4) false

/-- A write to a block that is off sets PERR when it finds it so at its commit; one under test drops it (R18, R322). -/
def execUnitRst (u : UnitId) (s : State) : Host.Outcome State Fault Refusal :=
  s.act (fun d => if d.off .lu u 0 then d.refuse else if d.tst .lu u then d else d.resetUnit u)

def execClRst (c : ClusterId) (s : State) : Host.Outcome State Fault Refusal :=
  s.act (fun d => if d.off .cl c 0 then d.refuse else if d.tst .cl c then d else d.resetCluster c)

end Sys2Proof.Machine
end

