-- ==== Sys2Proof/Machine/Access.lean ====
section
/-! DEFINITION. A software write to a register of a unit, cluster, region or die block: which writes are dropped, what the
fields store, what the write-only fields do (R43 to R45, R349 to R357); and buffered values taking effect. -/

namespace Sys2Proof.Machine

/-- An event of the hub's register file, raised when its bit was clear (R351, R355, R368, R470). -/
def Dev.regEvent (d : Dev) (f : Fld) (src : Nat) : Dev := d.hubEvent f src 0

/-- A write whose whole word is dropped and sets PERR (R163, R169, R172, R266, R267, R272). -/
def dropsWhole (b : Blk) (off : Nat) (w : Word) : Bool :=
  let f := bitsOf w
  match b with
  | .lu =>
    if off = 0x100 then decide (f 15 8 ≤ f 23 16)
    else if off = 0x204 then decide (f 2 0 = 0 ∨ 6 ≤ f 2 0)
    else if off = 0x520 then decide (f 15 14 = 3 ∨ 2 ≤ f 13 12 ∨ f 9 8 = 3)
    else false
  | .cl =>
    if off = 0x300 then decide (f 4 0 < 10 ∨ 20 < f 4 0 ∨ f 23 20 = 0)
    else if off = 0x1100 then decide (f 11 0 < 300 ∨ 700 < f 11 0)
    else false
  | .rg =>
    if off = 0x104 then decide (f 23 16 ≤ f 15 8) || (decide (f 7 0 ≠ 0) && decide (f 15 8 ≤ f 7 0)) else false
  | _ => false

/-- The value a register stores for a written one, given what it holds (R124, R163, R207, R208, R268, R340, R426, R461,
R506). -/
def normal (b : Blk) (off : Nat) (old w : Word) : Word :=
  let keep (hi lo : Nat) (w : Word) : Word := putBits w hi lo (bitsOf old hi lo)
  let preset (hi lo : Nat) (w : Word) : Word :=
    if bitsOf w hi lo = 0 ∨ 6 ≤ bitsOf w hi lo then putBits w hi lo (bitsOf old hi lo) else w
  let atLeast (hi lo n : Nat) (w : Word) : Word := if bitsOf w hi lo < n then putBits w hi lo n else w
  let atMost (hi lo n : Nat) (w : Word) : Word := if n < bitsOf w hi lo then putBits w hi lo n else w
  match b with
  | .lu =>
    if off = 0x20 then keep 0 0 (preset 6 4 w)
    else if off = 0x24 then preset 10 8 (atLeast 19 16 1 (atLeast 23 20 1 w))
    else if off = 0x100 then atMost 4 0 30 w
    else if off = 0x180 then atMost 14 12 4 w
    else if off = 0x528 then atMost 10 6 16 (atLeast 10 6 1 w)
    else w
  | .hub =>
    if off = 0x200 then atMost 15 12 6 (atMost 9 8 2 (atLeast 4 0 4 w))
    else if off = 0x10000 then atLeast 3 0 1 w
    else if off = 0x30040 then atLeast 23 16 1 w
    else if off = 0x60000 then atLeast 7 0 8 w
    else w
  | _ => w

/-- A written value that a field leaves unchanged with PERR (R207, R208). -/
def partRefused (b : Blk) (off : Nat) (w : Word) : Bool :=
  match b with
  | .lu => (decide (off = 0x20) && decide (bitsOf w 6 4 = 0 ∨ 6 ≤ bitsOf w 6 4)) ||
      (decide (off = 0x24) && decide (bitsOf w 10 8 = 0 ∨ 6 ≤ bitsOf w 10 8))
  | _ => false

/-- A register whose fields are all write-only reads 0 in its reserved bits too (R356). -/
def woOnly (r : RegRow) : Bool := decide (r.mask .wo ≠ 0) && r.fields.all (fun f => decide (f.acc = .wo ∨ f.acc = .rsv))

/-- Buffers the RWB fields of a written value; a second write replaces the first (R45). -/
def Dev.bufferWrite (d : Dev) (a : Nat) (m w : Word) : Dev :=
  if m = 0 then d else
  let old := (d.buffered.find a).getD (0, 0)
  { d with buffered := d.buffered.insert a (old.1 ||| m, (old.2 &&& ~~~ m) ||| (w &&& m)) }

/-- The first stage of a write (R350): the stored and buffered fields of a register take their values. `free`: reserved
fields may change (R356). -/
def Dev.storeFields (d : Dev) (b : Blk) (off a : Nat) (r : RegRow) (free : Bool) (w : Word) : Dev :=
  let old := d.voted a
  let n := normal b off old w
  let rsv := r.mask .rsv
  let bad := !free && decide ((w ^^^ (if woOnly r then 0 else old)) &&& rsv ≠ 0)
  let d := if bad then (d.refuse).put F.HUB_REG_EVT_RSV_WR 0 1 else d
  let d := if partRefused b off w then d.refuse else d
  let m := r.mask .rw ||| r.mask .rwl ||| r.mask .rwt ||| (if free && !(woOnly r) then rsv else 0)
  let d := if m = 0 then d else d.setAll a ((old &&& ~~~ m) ||| (n &&& m))
  d.bufferWrite a (r.mask .rwb) w

/-! Buffered values (R44, R161, R168, R221, R235) -/

/-- A precoding mode of HOST_RX has changed: the lane adapts again (R235). -/
def Dev.readapt (d : Dev) (u : Nat) : Dev :=
  let st := d.hrx u
  if st = 3 then d.setHrx u 2 else if st = 4 ∨ st = 5 then d.amLoss u 2 else d

/-- A buffered value takes effect in a register, or is discarded as invalid; one of LU_TX_FIR leaves a coefficient step of the same
token pending (R189). -/
def Dev.applyBuffered (d : Dev) (a : Nat) (m v : Word) : Dev :=
  let old := d.word a
  let n := (old &&& ~~~ m) ||| (v &&& m)
  match locate a with
  | some (.lu, u, off) =>
    if off = 0x200 then
      (if firOk n then (d.setWord a n).onCo u (fun c => { c with firNew := true }) else d.unitEvent F.LU_TX_CTRL_FIR_REJ u 0x37 2 0)
    else if off = 0x304 then
      (if htxFirOk n then d.setWord a n else d.unitEvent F.LU_HOST_EVT_HTX_FIR_REJ u 0x37 4 1)
    else if off = 0x300 then
      let d := d.setWord a n
      if bitsOf n 1 1 = bitsOf old 1 1 then d else d.readapt u
    else d.setWord a n
  | _ => d.setWord a n

/-- The load list's buffered value takes effect without a crosswalk (R295). -/
def Dev.flushBuffered (d : Dev) (a : Nat) : Dev :=
  match d.buffered.find a with
  | none => d
  | some (m, v) => ({ d with buffered := d.buffered.erase a }).applyBuffered a m v

/-! What a written register does -/

/-- A change of the pattern generator or checker (R249 to R251): a checker that is set anew seeds itself, the port goes down, a lane
that the checker takes over leaves its marker lock. -/
def Dev.patWritten (d : Dev) (u : Nat) (old : Word) : Dev :=
  let was := bitsOf old 15 14
  let now := d.get F.LU_PAT_CTRL_CHK_PT u
  let d := if decide (was ≠ now) || decide (bitsOf old 13 12 ≠ d.get F.LU_PAT_CTRL_CHK_PAT u) then
      (d.put F.LU_PAT_CTRL_PAT_LOCK u 0).onMon u (fun x => { x with chkBits := [], chkRun := 0, chkWin := [] })
    else d
  let d := if d.get F.LU_PAT_CTRL_GEN_PT u ≠ 0 ∨ now ≠ 0 then d.portFail u else d
  let st := d.hrx u
  if now = 2 ∧ was ≠ 2 then
    (if st = 3 then d.setHrx u 2 else if st = 4 then d.amLoss u 2 else if st = 5 then d.amLoss u 1 else d)
  else if was = 2 ∧ now ≠ 2 ∧ st = 2 ∧ d.is F.LU_HOST_STAT_CDR_LOCK u = true then d.setHrx u 3
  else d

/-- LU_BU_CTRL as written (R174, R191, R205, R207): EN, then CLR_FAIL, REQ_PRESET_GO and RETRAIN. One attempt starts,
whichever of them ask for one. A unit held in its region's reset takes EN as a value: its attempt starts at release (R295). -/
def Dev.bringupWritten (d : Dev) (u : Nat) (w : Word) (load : Bool) : Dev :=
  let b (n : Nat) : Bool := bitOf w.toNat n
  if load then
    let d := d.put F.LU_BU_CTRL_EN u (bitsOf w 0 0)
    if b 2 then d.refuse else d
  else
    let rises := b 0 && !(d.is F.LU_BU_CTRL_EN u)
    let d := d.setEn u (b 0)
    let down := decide (d.get F.LU_BU_STAT_STATE u = 18)
    let d := if b 9 then d.clrFail u else d
    let d := if b 2 && !(partRefused .lu 0x20 w) then
        (let r := d.reqPresetGo u (d.get F.LU_BU_CTRL_REQ_PRESET u)
         if r.1 then r.2.refuse else r.2)
      else d
    if b 1 && !rises && !(down && b 9) then d.retrainUnit u else d

/-- What a write to a register of a unit block does once its fields hold their values. -/
def Dev.unitWritten (d : Dev) (u off : Nat) (old w : Word) (load : Bool) : Dev :=
  let b (n : Nat) : Bool := bitOf w.toNat n
  if off = 0 then (if b 7 && !load then d.resetUnit u else d)
  else if off = 0x20 then d.bringupWritten u w load
  else if off = 0x204 then (if b 4 then d.presetGo u (bitsOf w 2 0) else d)
  else if off = 0x300 then (if b 2 then d.portFail u else d)
  else if off = 0x520 then d.patWritten u old
  else if off = 0x528 then (if b 1 then d.injStop u else if b 0 then d.injGo u else d)
  else if off = 0x534 then (if b 0 then d.cntClr u else d)
  else d

/-- What a write to a register of a cluster block does. -/
def Dev.clusterWritten (d : Dev) (c off : Nat) (w : Word) (load : Bool) : Dev :=
  if off = 0 then (if bitOf w.toNat 8 && !load then d.resetCluster c else d)
  else if off = 0x20C then (if bitOf w.toNat 8 then d.releaseBlock c (bitsOf w 4 0) else d)
  else d

/-- What a write to a register of a region block does: a late refusal of an open transaction gives LTR where STAY_AWAKE is set, else
WAKE (R416, R420, R437). -/
def Dev.regionWritten (d : Dev) (q off : Nat) (w : Word) : Dev :=
  if off ≠ 0x14 then d
  else if bitOf w.toNat 1 then d.wakeAll q 7
  else if bitOf w.toNat 0 then d.wakeAll q
  else d

/-- A software write of a word to a register of a block on a line die, at a block that answers. `free`: reserved fields may
change; `load`: the write comes from a load list, in the region's reset (R295). -/
def Dev.storeBlock (d : Dev) (free load : Bool) (b : Blk) (i off : Nat) (w : Word) : Dev :=
  let a := blkBase b i + off
  if b = .cl ∧ 0x2000 ≤ off then
    let r := d.writePool i ((off - 0x2000) / 4) w
    if r.1 then r.2.refuse else r.2
  else match findReg b off with
    | none => d.refuse
    | some r =>
      if dropsWhole b off w then d.refuse
      else
        let old := d.voted a
        let d := d.storeFields b off a r free w
        let d := if load then d.flushBuffered a else d
        match b with
        | .lu => d.unitWritten i off old w load
        | .cl => d.clusterWritten i off w load
        | .rg => d.regionWritten i off w
        | _ => d

/-- A software write that reaches a block of a line die through its bridge: dropped with OFF or TST (R18, R25). -/
def Dev.writeBlock (d : Dev) (free : Bool) (b : Blk) (i off : Nat) (w : Word) : Dev :=
  if d.off b i off || d.tst b i then d else d.storeBlock free false b i off w

end Sys2Proof.Machine
end

