-- ==== Sys2Proof/Machine/Crosswalk.lean ====
section
/-! DEFINITION. Crosswalks (R43 to R45, R354, R364, R365). -/

namespace Sys2Proof.Machine

/-- The crosswalk group of the block that holds a register; hub and die blocks have none (R43, R366). -/
def Dev.groupOf (d : Dev) (a : Nat) : Option Nat :=
  match locate a with
  | some (.lu, i, _) => some (d.get F.LU_CTRL_GRP i)
  | some (.cl, i, _) => some (d.get F.CL_CTRL_GRP i)
  | some (.rg, i, _) => some (d.get F.RG_CTRL_GRP i)
  | _ => none

/-- The block of a buffered register is off or under test (R44). -/
def Dev.awayAt (d : Dev) (a : Nat) : Bool :=
  match locate a with
  | some (b, i, off) => d.off b i off || d.tst b i
  | none => true

/-- A crosswalk is decoded: the buffered values of the named groups belong to it, its boundary lies 64 REFA cycles ahead; a
mask of 0 has no effect (R44, R354, R364, R365). -/
def Dev.goCrosswalk (d : Dev) (mask : Nat) : Dev :=
  if mask = 0 then d
  else
    let named (a : Nat) : Bool := (d.groupOf a).any (fun g => bitOf mask g)
    let taken := (d.buffered.filter (fun e => named e.1)).map (fun e => (e.1, e.2.1, e.2.2))
    let tag := BitVec.ofNat 32 (d.refa + 64)
    let d := { d with buffered := d.buffered.filter (fun e => !(named e.1)), hub := { d.hub with xw := d.hub.xw ++ [taken] } }
    let d := (d.wrap F.HUB_XW_STAT_COUNT 0 1).put F.HUB_XW_STAT_LAST_MASK 0 mask
    (d.put F.HUB_XW_STAT_PENDING 0 1).setWord (F.HUB_XW_TAG_BOUNDARY.addr 0) tag

def execCrosswalkGo (mask : BitVec 16) (s : State) : Host.Outcome State Fault Refusal :=
  s.act (fun d => d.goCrosswalk mask.toNat)

/-- One value of a crosswalk takes effect at its boundary, or is discarded with XW_DROP. -/
def Dev.crossOne (d : Dev) (e : Nat × Word × Word) : Dev :=
  if d.awayAt e.1 then d.put F.HUB_REG_EVT_XW_DROP 0 1 else d.applyBuffered e.1 e.2.1 e.2.2

/-- CROSSWALK: the boundary of the oldest crosswalk decoded (R44, R354). -/
def execCrosswalk (s : State) : Host.Outcome State Fault Refusal :=
  s.act (fun d =>
    match d.hub.xw with
    | [] => d
    | l :: r =>
      let d := l.foldl Dev.crossOne { d with hub := { d.hub with xw := r } }
      if r = [] then d.put F.HUB_XW_STAT_PENDING 0 0 else d)

end Sys2Proof.Machine
end

