-- ==== Sys2Proof/Machine/Release.lean ====
section
/-! DEFINITION. The release of blocks: a region's section written and the region released (R286, R287, R295, R296, R531),
and the end of unit, cluster and region resets (R576). -/

namespace Sys2Proof.Machine

/-- The current bank of the retained store; none is empty (R291). -/
def Nv.bank (v : Nv) : StoreBank :=
  match v.cur with
  | some true => v.bank1
  | some false => v.bank0
  | none => {}

/-- The state in HUB_IMG_RGN of a region without a section: 8, or 0 where no image has ever given it one (R302). -/
def Nv.noSection (v : Nv) (q : Nat) : Nat := if v.secEver.contains q then 8 else 0

/-- Software may change reserved fields: MANUFACTURE and RETURN (R356, R511). -/
def Fuses.rsvFree (f : Fuses) : Bool := decide (f.state = 0 ∨ f.state = 3)

/-- DENSE_TAPS, WIN_COUNT and NEXT_TAPS of a CL_DESC (R287). -/
def descDense (w : Word) : Nat := 96 + 32 * bitsOf w 5 4
def descWins (w : Word) : Nat := bitsOf w 11 8
def descNext (w : Word) : Nat := 16 + 8 * bitsOf w 13 12

/-- Cluster k of a region takes its mode, allocation and ports (R33, R129, R130, R239, R295). In a SIMPLEX cluster WIN_COUNT and
NX_OFF read 0 as DENSE_TAPS and NEXT_TAPS do. DESIGN CHOICE, log entry 67. -/
def Dev.configCluster (d : Dev) (q k : Nat) (bs : List Byte) : Dev :=
  let c := 4 * q + k
  let w := wordAt bs (1 + k)
  let duplex := bitOf w.toNat 0
  let total := 8 * (descDense w + 48 * descWins w + 7 * descNext w)
  let alloc := if duplex then bitsOf w 19 16 * 2 ^ 24 + descNext w * 2 ^ 16 + descWins w * 2 ^ 8 + descDense w / 16 else 0
  let pool := if duplex then min 32 ((4096 - total) / 48) * 2 ^ 16 + (4096 - total) else 3808
  let d := d.putBit F.HUB_CLUSTER_MODE_DUPLEX 0 c duplex
  let d := d.setWord (F.CL_PORT_MAP_PORTS.addr c) (wordAt bs (5 + k))
  let d := d.report (F.CL_RB_ALLOC_NX_OFF.addr c) (BitVec.ofNat 32 alloc)
  d.report (F.CL_RB_POOL_BLOCKS.addr c) (BitVec.ofNat 32 pool)

/-- Unit j of a region takes its crossbar entry (R241, R286). -/
def Dev.configXbar (d : Dev) (q j : Nat) (bs : List Byte) : Dev :=
  let w := wordAt bs (10 + j) &&& 0xFFFF
  d.report ((F.DIE_XBAR_U_VALID (32 * (q % 2) + j)).addr (q / 2)) (if bitOf w.toNat 15 then w else 0)

/-- A load list write that its register drops (R296): LL_DROP of the load in progress, or of the last one, and its event. -/
def Dev.llDrop (d : Dev) : Dev :=
  let d := match d.img.load with
    | some l => { d with img := { d.img with load := some { l with drops := min 255 (l.drops + 1) } } }
    | none => d.bump F.HUB_IMG_LAST_LL_DROP 0 1
  d.raise ⟨0x64, .package 0, 0, 0⟩

/-- A software write to a register of a block that drops the whole of it (R296). -/
def Dev.dropsWrite (d : Dev) (b : Blk) (i off : Nat) (w : Word) : Bool :=
  if b = .cl ∧ 0x2000 ≤ off then (d.writePool i ((off - 0x2000) / 4) w).1 else (findReg b off).isNone || dropsWhole b off w

/-- One load list entry, written as software writes (R295, R296), with PERR as it was; the units that a SIMPLEX cluster does not have
are off, and a write to them is dropped (R3, R18). -/
def Dev.loadEntry (d : Dev) (free : Bool) (a : Nat) (w : Word) : Dev :=
  let was := d.port.perr
  match locate a with
  | none => d.llDrop
  | some (b, i, off) =>
    if b = Blk.lu ∧ d.duplex (i / 8) = false ∧ 4 ≤ i % 8 then d
    else
      let drops := d.dropsWrite b i off w
      let d := d.storeBlock free true b i off w
      let d := { d with port := { d.port with perr := was } }
      if drops then d.llDrop else d

/-- The load list of a section, in order. -/
def Dev.loadList (d : Dev) (free : Bool) (bs : List Byte) : Dev :=
  d.each (List.range (wordAt bs 42).toNat)
    (fun d i => d.loadEntry free (bitsOf (wordAt bs (43 + 2 * i)) 23 0) (wordAt bs (44 + 2 * i)))

/-- The units that the section's UP ports bring up (R286). -/
def Dev.upUnits (d : Dev) (q : Nat) (bs : List Byte) : List Nat :=
  (unitsOfRegion q).filter (fun u => d.inPort u && bitOf (wordAt bs 9).toNat (8 * (u / 8 % 4) + d.base u))

/-- At a cluster reset the cluster measures the on-die loop delay and the launch response, and sets the hybrid's replica gain and
delay trims of each pair: free values (R89, R137, R260, R576). DESIGN CHOICE, log entry 4. -/
def Dev.measure (d : Dev) (c : Nat) : Dev :=
  let n := d.draws
  let free (k top : Nat) : Nat := Config.freeNat (n + k) % top
  let trim (l : Nat) : Nat × List Nat := (free (2 + 5 * l) 64, (List.range 4).map (fun i => free (3 + 5 * l + i) 64))
  (d.setDraws (n + 42)).onCluster c (fun x => { x with
    loopDie := free 0 8192, launchArea := free 1 65536
    hybrid := (List.range 8).foldl (fun m l => m.insert l (trim l)) [] })

/-- The clusters of a region, or one cluster, come out of reset: measured, each unit's monitor interval in progress begun. -/
def Dev.freshCluster (d : Dev) (c : Nat) : Dev := (d.measure c).each (unitsOf c) Dev.monStart

/-- EN as a section sets it, in the region's reset: the attempt starts with the cluster start (R174, R218, R295). -/
def Dev.enableHeld (d : Dev) (u : Nat) : Dev :=
  ((d.put F.LU_BU_CTRL_EN u 1).put F.LU_HOST_STAT_HRX_STATE u (b2n (d.mapped u))).ownGrid u

/-- Step 3 of R295 for a region without a section: no ports, no lane mapped. -/
def Dev.emptyRegion (d : Dev) (q : Nat) : Dev :=
  let d := d.each (clustersOf q) (fun d c =>
    let d := (d.putBit F.HUB_CLUSTER_MODE_DUPLEX 0 c false).setWord (F.CL_PORT_MAP_PORTS.addr c) 0
    (d.report (F.CL_RB_ALLOC_NX_OFF.addr c) 0).report (F.CL_RB_POOL_BLOCKS.addr c) 0)
  d.each (List.range 32) (fun d j => d.report ((F.DIE_XBAR_U_VALID (32 * (q % 2) + j)).addr (q / 2)) 0)

/-- A region without a section sleeps: DEEP, its clusters in DOZE (R295). -/
def Dev.sleepRegion (d : Dev) (q : Nat) : Dev :=
  let d := (d.putBit F.HUB_TOPO_REGION_LIVE 0 q false).put F.RG_PWR_STAT_STATE q 2
  (d.put F.RG_PWR_STAT_CL_DOZE q 15).each (clustersOf q) (fun d c => d.onCluster c (fun x => { x with power := 2 }))

/-- A ledger action on a unit, after the load list (R531): the conservative preset, or held with EN 0. -/
def Dev.ledgerAct (d : Dev) (hold : Bool) (u : Nat) : Dev :=
  let d := d.putBit (F.SEC_BL_UNITS_BITS (u / 32)) 0 (u % 32) true
  if hold then
    { (((d.put F.LU_BU_CTRL_EN u 0).put F.LU_HOST_STAT_HRX_STATE u 0)) with
        start := { d.start with heldUnits := d.start.heldUnits ++ [u] } }
  else d.put F.LU_BU_CFG_START_PRESET u 5

/-- Steps 3 to 5 of R295: the region takes its section of the current bank and is released with the cold starts of R116; a region
that a discarded load left pending is then in force (R298, R299). `acts`: the units that the ledger acts on, `hold`: TF_POLICY = 1.
-/
def Dev.releaseRegion (d : Dev) (k : Keep) (q : Nat) (acts : List Nat) (hold : Bool) : Dev :=
  let turn := decide (d.hub.sbStep = 7) && !(d.hub.sbDone.contains q)
  let d := d.onRegion q (fun x => { x with
    inReset := false, unreleased := false, step := if decide (x.step = 2) || turn then 6 else 0 })
  let st := d.rgnState q
  let sec := k.nv.bank.regions.find q
  let d := if (d.img.load.isNone && decide (st = 2 ∨ st = 3 ∨ st = 7)) || decide (st = 6) then
      d.setRgn q (if sec.isSome then 1 else k.nv.noSection q) else d
  match sec with
  | none => { ((d.emptyRegion q).sleepRegion q) with img := { d.img with applied := d.img.applied.erase q } }
  | some (hash, bs) =>
    let d := d.each (List.range 4) (fun d i => d.configCluster q i bs)
    let d := d.each (List.range 32) (fun d j => d.configXbar q j bs)
    let d := (d.loadList k.fuses.rsvFree bs).latchPace q
    let d := d.putBit F.HUB_TOPO_REGION_LIVE 0 q true
    let d := d.each ((unitsOfRegion q).filter (fun u => d.is F.LU_BU_CTRL_EN u) ++ d.upUnits q bs) Dev.enableHeld
    let d := d.each (acts.filter (fun u => decide (u / 32 = q))) (fun d u => d.ledgerAct hold u)
    let d := { d with img := { d.img with applied := d.img.applied.insert q hash } }
    d.each (clustersOf q) (fun d c => (d.freshCluster c).clusterStart c)

/-- No step of a STANDBY exit comes for region q: it stays in reset (R424, R479, R525). -/
def Dev.exitSkips (d : Dev) (q : Nat) : Bool :=
  (d.region q).unreleased || decide ((d.region q).step = 9) || d.bit F.FLT_STAT_RG_HELD 0 q || !(d.dieServes (q / 2))

/-- In step 7 of a STANDBY exit the regions take their steps one at a time in ascending order, each when the one before has settled
(R424). -/
def Dev.standbyTurn (d : Dev) (q : Nat) : Bool :=
  decide (d.hub.sbStep = 0) || (decide (d.hub.sbStep = 7) && (List.range 8).all (fun p => decide (q ≤ p) ||
    d.hub.sbDone.contains p || d.exitSkips p))

/-- A region in reset may be released: its die serves, no safe state, not held under R479 or FAILED, a start has reached
APPLY, and no step of STANDBY but the seventh runs (R299, R424, R476, R479, R525). -/
def Dev.mayRelease (d : Dev) (q : Nat) : Bool :=
  (d.region q).inReset && !(d.region q).unreleased && decide ((d.region q).step ≠ 9) && d.standbyTurn q &&
   d.dieServes (q / 2) && !d.safe && !(d.bit F.FLT_STAT_RG_HELD 0 q)

/-- A unit's reset ends: EN is 0, so no attempt starts (R576). -/
def Dev.releaseUnit (d : Dev) (u : Nat) : Dev := (d.onUnit u (fun x => { x with inReset := false })).monStart u

/-- A cluster's reset ends with the cluster start of R116 (R576). -/
def Dev.releaseCluster (d : Dev) (c : Nat) : Dev :=
  let d := d.onCluster c (fun x => { x with inReset := false })
  ((d.each (unitsOf c) (fun d u => d.onUnit u (fun x => { x with inReset := false }))).freshCluster c).clusterStart c

/-- RESET_RELEASE: the hold time of a reset has run (R576). A block whose enclosing block is in reset is released with it. -/
def execResetRelease (b : ResetBlk) (s : State) : Host.Outcome State Fault Refusal :=
  s.actK (fun k d =>
    match b with
    | .unit u =>
      if (d.unit u).inReset && !((d.cluster (u / 8)).inReset) && !(d.regionHeld (u / 32)) then d.releaseUnit u else d
    | .cluster c => if (d.cluster c).inReset && !(d.regionHeld (c / 4)) then d.releaseCluster c else d
    | .region q => if d.mayRelease q then d.releaseRegion k q [] false else d
    | .die _ => d)

/-- REGION_RELEASE: descriptors, maps and the load list are written and the region is released (R295). -/
def execRegionRelease (q : RegionId) (s : State) : Host.Outcome State Fault Refusal :=
  s.actK (fun k d => if d.mayRelease q then d.releaseRegion k q [] false else d)

end Sys2Proof.Machine
end

