-- ==== Sys2Proof/WellFormed.lean ====
section
/-! DEFINITION. The operands that a command of the table can carry. -/

namespace Sys2Proof

/-- The source codes of R472 and R532; the other codes are used by no event. -/
def usedSource (n : Nat) : Bool :=
  decide (1 ≤ n ∧ n ≤ 5) || decide (0x10 ≤ n ∧ n ≤ 0x16) || decide (0x20 ≤ n ∧ n ≤ 0x25) ||
    decide (0x30 ≤ n ∧ n ≤ 0x3D) || decide (0x40 ≤ n ∧ n ≤ 0x4F) || decide (0x60 ≤ n ∧ n ≤ 0x6A) ||
    decide (0xC0 ≤ n ∧ n ≤ 0xC9)

/-- A command's operands are such as an event of the spec carries: a write burst has 1 to 64 words (R314) and a fault event
has a source that R472 lists and lies where R472 locates that source. -/
def Instr.wellFormed : Instr → Bool
  | .writeInc _ _ ws _ => decide (1 ≤ ws.length ∧ ws.length ≤ 64)
  | .writeFix _ _ ws _ => decide (1 ≤ ws.length ∧ ws.length ≤ 64)
  | .faultEvent e => usedSource e.src.toNat && Machine.locatedAt e.src.toNat e.loc
  | _ => true

end Sys2Proof
end

