-- ==== Sys2Proof/Machine/Fault.lean ====
section
/-! DEFINITION. The fault collector's commands: events, recording, windows, masking, the exit from safe state, snapshots,
scrubbing, sensors, hub links (R21, R470 to R492, R521, R575). -/

namespace Sys2Proof.Machine

/-! Events -/

/-- A fixed class A source's condition begins (R472, R477). -/
def Dev.noteCause (d : Dev) (e : FltEvent) : Dev :=
  match e.loc with
  | .die n _ _ =>
    if e.src = 0x02 then d.onDie n (fun x => { x with supplyBad := true })
    else if e.src = 0x03 then d.onDie n (fun x => { x with critical := true }) else d
  | _ => d

/-- The array, owner, macro and word of an ARRAY_UE located at a word of its array (R472, R490). -/
def ueWord (e : FltEvent) : Option (Nat × Nat × Nat × Nat) :=
  match e.loc with
  | .word a o m w => if e.src.toNat = 0x40 + a then some (a, o, m, w) else none
  | _ => none

/-- FAULT_EVENT: a detector raises an event (R470, R480, R481). ARRAY_UE is that of a reader other than the scrub, with the syndrome
in INFO: the word is counted and poisoned as at any first detection (R488 to R490). An event whose source code R472 does not list,
or that lies where R472 does not locate its source, exists nowhere. -/
def execFaultEvent (e : FltEvent) (s : State) : Host.Outcome State Fault Refusal :=
  if usedSource e.src.toNat && locatedAt e.src.toNat e.loc then
    match ueWord e with
    | some (a, o, m, w) => s.actNv (fun _ v d =>
        if d.collectorOff || d.detectorsOff e then (v, d) else d.eccUncorrectable v a o m w (e.info.setWidth 8))
    | none => s.act (fun d => if d.detectorsOff e then d else (d.noteCause e).raise e)
  else .refused (.illFormed "FAULT_EVENT")

/-- Sources whose own rules take the unit or port down (R475). -/
def ownDown (src : Nat) : Bool := decide (src = 0x20 ∨ src = 0x21 ∨ src = 0x22 ∨ src = 0x24 ∨ src = 0x25)

/-- The port-down action on a block (R475): its enabled units start a warm attempt; a unit in DOWN stays there. -/
def Dev.portDownAction (d : Dev) (l : Loc) : Dev :=
  d.each (locUnits l) (fun d u =>
    if d.live u && d.is F.LU_BU_CTRL_EN u && decide (d.get F.LU_BU_STAT_STATE u ≠ 18) then d.retrainUnit u else d)

/-- The held event recorded next (R483): of those detected in the hub cycle of the oldest, the first by class and location code. -/
def Dev.nextHeld (d : Dev) : Option HeldEvent :=
  match d.flt.held with
  | [] => none
  | h :: r =>
    let key (x : HeldEvent) : Nat := d.classOf x.ev.src.toNat * 2 ^ 32 + x.code.toNat
    some (r.foldl (fun a x => if x.time = h.time ∧ key x < key a then x else a) h)

/-- FAULT_RECORD: the hold of 16 hub cycles of the next held event has run; it is recorded and acted on (R473 to R475, R481,
R483). -/
def execFaultRecord (s : State) : Host.Outcome State Fault Refusal :=
  s.act (fun d =>
    match d.nextHeld with
    | none => d
    | some h =>
      if d.time < h.time + 16 then d
      else
        let e := h.ev
        match ({ d with flt := { d.flt with held := d.flt.held.erase h } } : Dev).recordEvent e h.code with
        | (none, d) => d
        | (some cls, d) =>
          if cls = 2 then (if ownDown e.src.toNat then d else d.portDownAction e.loc)
          else d.react cls e.src.toNat e.loc)

/-- ESC_WINDOW: a window of a source begins; its counters of windows past restart at 0 (R473). -/
def execEscWindow (src : BitVec 8) (s : State) : Host.Outcome State Fault Refusal :=
  s.act (fun d => { d with flt := { d.flt with
    esc := d.flt.esc.filter (fun e => decide (e.1 / 16 ≠ src.toNat) ||
      decide ((d.flt.escWin.find e.1).getD 0 = d.escWindow src.toNat)) } })

/-- The masking of a class A reaction's exit has ended in region q (R481). -/
def Dev.exitMaskEnd (d : Dev) (q : Nat) : Dev :=
  let left := d.flt.exitMasks.filter (· ≠ q)
  { d with flt := { d.flt with exitMasks := left, aOpen := d.flt.aOpen && (d.safe || decide (left ≠ [])) } }

/-- MASK_END: 256 hub cycles after a release the detectors report again, and a region's reaction closes (R480, R481). -/
def execMaskEnd (b : ResetBlk) (s : State) : Host.Outcome State Fault Refusal :=
  s.act (fun d =>
    match b with
    | .unit u => if (d.unit u).inReset || (d.unit u).underTest then d else d.onUnit u (fun x => { x with masked := false })
    | .cluster c => if (d.cluster c).inReset || (d.cluster c).underTest then d else d.onCluster c (fun x => { x with masked := false })
    | .die n => if (d.die n).underTest then d else d.onDie n (fun x => { x with masked := false })
    | .region q =>
      if d.regionHeld q || (d.region q).underTest then d
      else ((d.onRegion q (fun x => { x with masked := false })).putBit F.FLT_STAT_RG_REACT 0 q false).exitMaskEnd q)

/-! Commands of FLT_CTRL -/

/-- A die whose supply was found out of range: whether it still is, is the environment's. DESIGN CHOICE, log entry 4. -/
def Dev.supplyCheck (d : Dev) (n : Nat) : Dev :=
  if (d.die n).supplyBad then
    let x := d.freeBelow 2
    x.2.onDie n (fun y => { y with supplyBad := decide (x.1 = 1) })
  else d

/-- The first reason of R477 that refuses the exit from safe state; 0: none. A class A decision of the same hub cycle comes first
(R486). -/
def Dev.exitReason (d : Dev) : Nat :=
  if d.deciding then (if d.flt.aAt.any (·.2) then 2 else 4)
  else if d.fallback ∨ d.get (refSt d.activeRef) 0 ≠ 2 then 1
  else if (List.range 4).any (fun n => (d.die n).supplyBad || (d.die n).critical) then 2
  else if d.flt.linkLost then 3
  else if !d.safe then 4 else 0

/-- SAFE_EXIT (R477, R481): refused with its reason, or the package leaves safe state and every region that is not held is
released. -/
def Dev.exitSafe (d : Dev) (k : Keep) : Dev :=
  let d := d.each (List.range 4) Dev.supplyCheck
  let r := d.exitReason
  let d := d.put F.FLT_STAT_EXIT_REASON 0 r
  if r ≠ 0 then d
  else
    let d := d.put F.FLT_STAT_SAFE 0 0
    let qs := (List.range 8).filter d.mayRelease
    let d := { d with flt := { d.flt with exitMasks := qs, aOpen := decide (qs ≠ []) } }
    d.each qs (fun d q => d.releaseRegion k q [] false)

/-- FLT_CTRL is off until HUB_MBIST has ended: a write there is dropped (R18, R526). -/
def execSafeExit (s : State) : Host.Outcome State Fault Refusal :=
  s.actK (fun k d => if d.servesTable then d.exitSafe k else d.refuse)

/-- HQ_UNFREEZE: recording restarts, LOST is zeroed (R484); a freeze of the same hub cycle stands (R486). -/
def Dev.unfreeze (d : Dev) : Dev := if d.flt.frozeAt = some d.time then d else (d.put F.FLT_HQ_FROZEN 0 0).put F.FLT_HQ_LOST 0 0

def execHqUnfreeze (s : State) : Host.Outcome State Fault Refusal :=
  s.act (fun d => if d.servesTable then d.unfreeze else d.refuse)

/-- SNAP_ACK: the next freeze may replace the snapshot (R485, R503). -/
def Dev.ackSnap (d : Dev) : Dev :=
  let d := d.put F.FLT_HQ_SNAP_KEPT 0 0
  { d with flt := { d.flt with snapFree := true } }

def execSnapAck (s : State) : Host.Outcome State Fault Refusal :=
  s.act (fun d => if d.servesTable then d.ackSnap else d.refuse)

/-- A history slot as it reads: a poisoned one shows POISON alone (R490, R505). -/
def Dev.histEntry (d : Dev) (slot : Nat) : List Word :=
  if d.flt.histBad.contains slot then [0, 0x10000, 0, 0, 0, 0, 0, 0]
  else (d.flt.hist.find slot).getD (List.replicate 8 0)

/-- SNAPSHOT: the entries, FLT_STAT and the class counters are copied into the MRAM (R485). -/
def execSnapshot (s : State) : Host.Outcome State Fault Refusal :=
  s.actNv (fun _ v d =>
    if d.flt.snapDue then
      let ws := (List.range 64).flatMap d.histEntry ++ [d.word (F.FLT_STAT_SAFE.addr 0), d.word (F.FLT_CNT_AB_CNT_A.addr 0),
        d.word (F.FLT_CNT_CD_CNT_C.addr 0)]
      let d := d.put F.FLT_HQ_SNAP_VALID 0 1
      ({ v with snap := ws, epoch := v.epoch + 1 }, { d with flt := { d.flt with snapDue := false } })
    else (v, d))

/-! Memory integrity (R487 to R492) -/

/-- A word is the scrub's next one of its macro (R491). -/
def Dev.scrubsNext (d : Dev) (a o m w : Nat) : Bool := decide ((d.flt.scrubNext.find (macroCode a o m)).getD 0 = w)

/-- The scrub visits a word, or another reader does: it exists, its array is scrubbed, its domain is on and not under test, and
scrubbing is on where it is the scrub's next word (R487, R491). DEDUCED, log entry 68. -/
def Dev.scrubs (d : Dev) (a o m w : Nat) : Bool :=
  wordExists a o m w && decide (a ≠ 2) && (decide (d.getV F.FLT_ECC_CFG_SCRUB_INT 0 ≠ 0) || !(d.scrubsNext a o m w)) &&
    (if a = 0 then d.clusterLive o else if a = 1 then d.clusterLive o && d.live (8 * o + m)
     else if a = 3 then d.dieRuns (o / 64) && !(d.tst .die (o / 64)) else true)

/-- The scrub has read a word: where it was its next one, it goes on to the word after it (R491). -/
def Dev.scrubPast (d : Dev) (a o m w : Nat) : Dev :=
  if d.scrubsNext a o m w then
    { d with flt := { d.flt with
      scrubNext := d.flt.scrubNext.setD (macroCode a o m) 0 ((w + 1) % (arrayBanks a * bankWords a)) } }
  else d

/-- SCRUB_STEP: a scrub engine, or another reader, reads one word (R488 to R491). -/
def execScrubStep (array owner macroNo wordNo : Nat) (f : EccFinding) (s : State) : Host.Outcome State Fault Refusal :=
  s.actNv (fun _ v d =>
    if d.scrubs array owner macroNo wordNo then
      let x := d.eccRead v array owner macroNo wordNo f
      (x.1, x.2.scrubPast array owner macroNo wordNo)
    else (v, d))

/-- The next start of a bucket window, aligned to 2^LEAK_EXP seconds (R363, R492, R506). -/
def Dev.nextLeak (d : Dev) : Nat :=
  let n := 2 ^ d.getV F.FLT_ECC_CFG_LEAK_EXP 0
  (d.flt.leakDue / n + 1) * n

/-- BUCKET_LEAK: a window begins and takes the threshold in force; every bucket loses one; a macro whose bucket has fallen to half
the threshold may report again (R492, R506). -/
def execBucketLeak (s : State) : Host.Outcome State Fault Refusal :=
  s.act (fun d =>
    if d.seconds < d.flt.leakDue then d
    else
    let next := d.nextLeak
    let thr := d.getV F.FLT_ECC_CFG_BKT_THR 0
    let half := thr / 2
    let bs : NMap Nat := (d.flt.buckets.filter (fun e => decide (1 < e.2))).map (fun e => (e.1, e.2 - 1))
    let rated := d.flt.rated.filter (fun k => decide (half < (bs.find k).getD 0))
    { d with flt := { d.flt with bktThr := thr, buckets := bs, rated := rated, leakDue := next } })

/-! Signature tokens, sensors, hub links -/

/-- SIG_TOKEN: 8 s have run: the bucket of signatures gains a token, at most 64 (R521). -/
def execSigToken (s : State) : Host.Outcome State Fault Refusal :=
  s.act (fun d =>
    if d.time < d.hub.sigDue then d
    else
      let next := d.hub.sigDue + 8 * 390625000
      ({ d with hub := { d.hub with sigDue := next } } : Dev).put F.SEC_LC_BUCKET 0 (min 64 (d.get F.SEC_LC_BUCKET 0 + 1)))

/-- SENSOR_UPDATE: the ten sensors of a die; TEMP_CRIT when the die begins to be at 120.0 °C or more, with the first such
sensor (R472, R575). -/
def execSensorUpdate (n : DieId) (temps : List (BitVec 16)) (s : State) : Host.Outcome State Fault Refusal :=
  s.act (fun d =>
    if !((d.die n).on) then d
    else
      let ts := temps.take 10
      let d := d.each (List.range ts.length) (fun d i =>
        d.report ((F.DIE_TEMP_TEMP i).addr n) (BitVec.ofNat 32 (2 ^ 31 + ((ts[i]?).getD 0).toNat)))
      let hot := ts.findIdx? (fun t => decide (960 ≤ t.toInt))
      let was := (d.die n).critical
      let d := d.onDie n (fun x => { x with critical := hot.isSome })
      match hot with
      | some i => if was then d else d.raise ⟨0x03, .die n 6 11, BitVec.ofNat 32 i, 0⟩
      | none => d)

/-- HUB_LINK_LOSS: the blocks of the die answer with OFF; LINK_LOSS (R21, R32, R472). A link that has recovered may be lost again. -/
def execHubLinkLoss (n : DieId) (s : State) : Host.Outcome State Fault Refusal :=
  s.act (fun d =>
    if (d.die n).on && (!((d.die n).lost) || (d.die n).recovered) then
      let d := (d.onDie n (fun x => { x with lost := true, recovered := false })).putBit F.HUB_TOPO_LINK_UP 0 n false
      let d := { (d.put F.DIE_INFO_LINK_UP n 0) with flt := { d.flt with linkLost := true } }
      d.raise ⟨0x04, .die n 0 11, 0, 0⟩
    else d)

/-- HUB_LINK_RECOVERY: heartbeats resume and LINK_UP says so; the blocks answer again once the die is reset, with the package
(R21, R23, R32). -/
def execHubLinkRecovery (n : DieId) (s : State) : Host.Outcome State Fault Refusal :=
  s.act (fun d =>
    if (d.die n).lost then (d.onDie n (fun x => { x with recovered := true })).putBit F.HUB_TOPO_LINK_UP 0 n true else d)

end Sys2Proof.Machine
end

