-- ==== Sys2Proof/Machine/Layout.lean ====
section
/-! DEFINITION. The image as a byte string: its layout and the checks of R278 to R288, R292 and R293. -/

namespace Sys2Proof.Machine

/-- Bytes of a string at an offset. -/
def sub (bs : List Byte) (off len : Nat) : List Byte := (bs.drop off).take len

/-- The little-endian number of n bytes at an offset. -/
def num (bs : List Byte) (off n : Nat) : Nat := ofLe (sub bs off n)

/-- Every byte of a range is zero. -/
def zeros (bs : List Byte) (off len : Nat) : Bool := (sub bs off len).all (fun b => decide (b = 0))

/-! The header (R279) -/

def imgLen (bs : List Byte) : Nat := num bs 8 4
def imgSecVer (bs : List Byte) : Nat := num bs 0x0F 1
def imgVer (bs : List Byte) : Nat := num bs 0x10 4
def imgOwnerSig (bs : List Byte) : Bool := bitOf (num bs 0x14 4) 0
def imgSections (bs : List Byte) : Nat := num bs 0x18 2
def imgSigOff (bs : List Byte) : Nat := num bs 0x20 4

/-- Reason HEADER does not apply (R292). -/
def headerGood (bs : List Byte) : Bool :=
  decide (256 ≤ bs.length ∧ num bs 0 4 = 0x4E444C4E ∧ num bs 4 2 = 1 ∧ num bs 6 2 = 0x100 ∧ num bs 0x1C 4 = 0x100)

/-- PART names this device and its stepping is at or above STEP_MIN (R279, R292). -/
def partGood (f : Fuses) (bs : List Byte) : Bool := decide (num bs 0x0C 2 = 0x256 ∧ num bs 0x0E 1 ≤ f.stepping.toNat)

/-- The reason for which a load ends as soon as its header is in: a header that fails, or a length outside R278, leaves the
number of bytes to take unknown; in the order of R292; 0: none. DEDUCED, log entry 30. -/
def headerReason (f : Fuses) (bs : List Byte) : Nat :=
  if !(headerGood bs) then 2
  else if 256 ≤ imgLen bs ∧ imgLen bs ≤ 0x140000 then 0
  else if !(partGood f bs) then 3 else 4

/-! The directory (R280) -/

/-- A directory entry: type, offset, length, SEC_HASH. -/
structure DirEntry where
  type : Nat
  off : Nat
  len : Nat
  hash : List Byte
  reserved : Bool
  deriving DecidableEq, Repr

/-- The directory of an image. -/
def directory (bs : List Byte) : List DirEntry :=
  (List.range (imgSections bs)).map (fun i =>
    let e := 0x100 + 48 * i
    ⟨num bs e 2, num bs (e + 4) 4, num bs (e + 8) 4, sub bs (e + 16) 32, zeros bs (e + 2) 2 && zeros bs (e + 12) 4⟩)

/-- The directory entry of a type. -/
def entryOf (bs : List Byte) (t : Nat) : Option DirEntry := (directory bs).find? (fun e => decide (e.type = t))

/-- The bytes of the section of a type. -/
def sectionOf (bs : List Byte) (t : Nat) : List Byte :=
  match entryOf bs t with
  | some e => sub bs e.off e.len
  | none => []

/-- Whether a type is used (R280). -/
def typeUsed (t : Nat) : Bool := decide (1 ≤ t ∧ t ≤ 4) || decide (0x100 ≤ t ∧ t ≤ 0x107) || decide (0x8000 ≤ t)

/-- No type occurs twice. -/
def typesOnce : List DirEntry → Bool
  | [] => true
  | e :: r => !(r.any (fun x => decide (x.type = e.type))) && typesOnce r

/-- Spans in rising order do not overlap, and the bytes between them are zero (R278). -/
def spansGood (bs : List Byte) (pos : Nat) : List (Nat × Nat) → Bool
  | [] => zeros bs pos (bs.length - pos)
  | (a, n) :: r => decide (pos ≤ a) && zeros bs pos (a - pos) && spansGood bs (a + n) r

/-- The lengths that R280 gives the package sections; those of region sections are FORMAT of R288. -/
def lengthsGood (bs : List Byte) : Bool :=
  match entryOf bs 1, entryOf bs 2, entryOf bs 3, entryOf bs 4 with
  | some fw, some pkg, some frm, some pwr =>
    decide (4096 ≤ fw.len ∧ fw.len ≤ 0x101000 ∧ pkg.len = 16 ∧ 4 ≤ frm.len ∧ frm.len = 4 + 4 * (num bs frm.off 4 % 512) ∧
      pwr.len = 36)
  | _, _, _, _ => false

/-- Reason LAYOUT does not apply (R278 to R280). -/
def layoutGood (bs : List Byte) : Bool :=
  let dir := directory bs
  let dirEnd := 0x100 + 48 * imgSections bs
  let sig := imgSigOff bs
  let spans := (dir.map (fun e => (e.off, e.len))).mergeSort (fun a b => decide (a.1 < b.1 ∨ (a.1 = b.1 ∧ a.2 ≤ b.2)))
  decide (bs.length = imgLen bs ∧ imgLen bs ≤ 0x140000 ∧ imgLen bs % 4 = 0 ∧ sig % 4 = 0 ∧
    imgLen bs = sig + 5236 * (1 + b2n (imgOwnerSig bs)) ∧ 4 ≤ imgSections bs ∧ imgSections bs ≤ 16 ∧ dirEnd ≤ sig ∧
    num bs 0x14 4 < 2) &&
  zeros bs 0x1A 2 && zeros bs 0x40 0xC0 && typesOnce dir &&
  dir.all (fun e => e.reserved && typeUsed e.type &&
    decide (e.off % 4 = 0 ∧ e.len % 4 = 0 ∧ dirEnd ≤ e.off ∧ e.off + e.len ≤ sig)) &&
  spansGood (bs.take sig) dirEnd spans && lengthsGood bs

/-! Package sections (R282 to R285) -/

/-- Words of a section. -/
def wordsOf (bs : List Byte) (n : Nat) : List Word := (List.range n).map (wordAt bs)

/-- Source codes occur once. -/
def sourcesOnce : List Word → Bool
  | [] => true
  | w :: r => !(r.any (fun x => decide (bitsOf x 31 24 = bitsOf w 31 24))) && sourcesOnce r

/-- Reason PACKAGE does not apply. -/
def packageGood (bs : List Byte) : Bool :=
  let pkg := sectionOf bs 2
  let frm := sectionOf bs 3
  let pwr := sectionOf bs 4
  let n := (wordAt frm 0).toNat
  let es := (List.range n).map (fun i => wordAt frm (1 + i))
  decide ((wordAt pkg 0).toNat < 16 ∧ n ≤ 256 ∧ (wordAt pwr 0).toNat < 2) && zeros pkg 4 12 && sourcesOnce es &&
  es.all (fun w => (srcRow (bitsOf w 31 24)).isSome && decide (bitsOf w 20 20 = 0 ∧ bitsOf w 9 0 = 0)) &&
  (List.range 8).all (fun q =>
    let w := wordAt pwr (1 + q)
    decide (w.toNat < 256 ∧ bitsOf w 3 3 = 0 ∧ bitsOf w 7 4 ≤ 12))

/-- Bytes filled with zeros to a length. -/
def padTo (n : Nat) (bs : List Byte) : List Byte := bs ++ List.replicate (n - bs.length) 0

/-- Entry i of a page table matches code page i (R282). -/
def pageGood (table code : List Byte) (i : Nat) : Bool :=
  let e := sub table (16 * i) 16
  if 4096 * i < code.length then decide ((Config.sha256 (padTo 4096 (sub code (4096 * i) 4096))).take 16 = e)
  else zeros e 0 16

/-- Reason FW does not apply. -/
def firmwareGood (bs : List Byte) (source : Nat) : Bool :=
  let fw := sectionOf bs 1
  let code := fw.drop 4096
  (decide (source ≠ 3) || decide (code.length ≤ 49152)) && (List.range 256).all (pageGood (fw.take 4096) code)

/-! The checks of R292 -/

/-- The owner public key that the device uses: a copy that matches OWNER_HASH (R514, R517). -/
def ownerKey (f : Fuses) (v : Nv) : Option (List Byte) :=
  f.ownerHash.bind (fun h => [v.owner0, v.owner1].find? (fun k => decide (Config.sha256 k = h)))

/-- The owner signature passes: R515 verifies it in DEPLOYED alone. -/
def ownerGood (f : Fuses) (v : Nv) (loaded : Bool) (bs : List Byte) : Bool :=
  if imgOwnerSig bs && decide (f.state = 2) then
    match ownerKey f v with
    | some k => loaded && Config.hssVerify k (Config.sha256 (bs.take (imgSigOff bs))) (sub bs (imgSigOff bs + 5236) 5236)
    | none => false
  else true

/-- The first reason of R292 that refuses an image whose bytes are all in; 0: it passes. `loaded`: OWNER_LOADED. -/
def checkImage (f : Fuses) (v : Nv) (loaded : Bool) (source : Nat) (bs : List Byte) : Nat :=
  if !(headerGood bs) then 2
  else if !(partGood f bs) then 3
  else if !(layoutGood bs) then 4
  else if !((directory bs).all (fun e => decide (Config.sha256 (sub bs e.off e.len) = e.hash))) then 5
  else if !(Config.hssVerify Config.vendorKey (Config.sha256 (bs.take (imgSigOff bs))) (sub bs (imgSigOff bs) 5236)) then 6
  else if !(ownerGood f v loaded bs) then 7
  else if imgSecVer bs < v.arbMin then 8
  else if (f.state = 2 ∧ imgOwnerSig bs = false) ∨ (f.state = 3 ∧ imgOwnerSig bs = true) then 9
  else if !(packageGood bs) then 10
  else if !(firmwareGood bs source) then 11
  else 0

/-! Region sections (R286 to R288, R293) -/

/-- Port nibble and crossbar word of unit j of a section. -/
def secNibble (s : List Byte) (j : Nat) : Nat := bitsOf (wordAt s (5 + j / 8)) (4 * (j % 8) + 3) (4 * (j % 8))
def secXbar (s : List Byte) (j : Nat) : Word := wordAt s (10 + j)
def secDuplex (s : List Byte) (k : Nat) : Bool := bitOf (wordAt s (1 + k)).toNat 0
def secUp (s : List Byte) (j : Nat) : Bool := bitOf (wordAt s 9).toNat j

/-- FORMAT holds; of a SIMPLEX cluster's CL_DESC bits [19:4] are ignored (R287). -/
def formatGood (q : Nat) (s : List Byte) : Bool :=
  let n := (wordAt s 42).toNat
  decide (172 ≤ s.length ∧ (wordAt s 0).toNat = q ∧ n ≤ 512 ∧ s.length = 172 + 8 * n) &&
  (List.range 4).all (fun k =>
    let w := wordAt s (1 + k)
    decide (bitsOf w 31 20 = 0 ∧ bitsOf w 3 1 = 0) &&
      (!(secDuplex s k) || decide (bitsOf w 15 14 = 0 ∧ bitsOf w 7 6 = 0 ∧ bitsOf w 13 12 ≠ 3 ∧ bitsOf w 11 8 ≤ 8))) &&
  (List.range 32).all (fun j => decide (bitsOf (secXbar s j) 31 16 = 0 ∧ bitsOf (secXbar s j) 12 12 = 0)) &&
  (List.range n).all (fun i => decide (bitsOf (wordAt s (43 + 2 * i)) 31 24 = 0))

/-- TAPS holds (R98). -/
def tapsGood (s : List Byte) : Bool :=
  (List.range 4).all (fun k =>
    let w := wordAt s (1 + k)
    !(secDuplex s k) || decide (8 * (descDense w + 48 * descWins w + 7 * descNext w) ≤ 4096))

/-- PORT holds (R215). -/
def portsGood (s : List Byte) : Bool :=
  (List.range 32).all (fun j =>
    let n := secNibble s j
    if n < 8 then decide (n = 0) && !(secUp s j)
    else
      let w := 2 ^ (n % 4)
      let b := j - j % w
      (List.range w).all (fun i => decide (secNibble s (b + i) = n)) && (!(secUp s j) || decide (j = b)) &&
        bitOf (secXbar s j).toNat 15)

/-- SIMPLEX holds (R3, R80, R217). -/
def simplexGood (s : List Byte) : Bool :=
  (List.range 32).all (fun j =>
    secDuplex s (j / 8) ||
      (decide (secNibble s j < 8) || decide (secNibble s j % 4 ≠ 3 ∧ j % 8 < 4)) &&
        (decide (j % 8 < 4) || !(bitOf (secXbar s j).toNat 15)))

/-- HOST_TX and HOST_RX lanes that a section names. -/
def lanesOf (s : List Byte) (hi lo : Nat) : List Nat :=
  ((List.range 32).filter (fun j => bitOf (secXbar s j).toNat 15)).map (fun j => bitsOf (secXbar s j) hi lo)

/-- No lane is named twice in a section. -/
def lanesOnce (s : List Byte) : Bool := decide ((lanesOf s 5 0).Nodup) && decide ((lanesOf s 11 6).Nodup)

/-- Two sections of a die name a lane both. -/
def clash (s t : List Byte) : Bool :=
  (lanesOf s 5 0).any (fun x => (lanesOf t 5 0).contains x) || (lanesOf s 11 6).any (fun x => (lanesOf t 11 6).contains x)

/-- LOADLIST holds (R13, R48). -/
def loadListGood (q : Nat) (s : List Byte) : Bool :=
  (List.range (wordAt s 42).toNat).all (fun i =>
    let a := bitsOf (wordAt s (43 + 2 * i)) 23 0
    decide (a % 4 = 0) &&
      (decide (0x100000 + 0x20000 * q ≤ a ∧ a < 0x100000 + 0x20000 * (q + 1)) ||
        decide (0x200000 + 0x10000 * q ≤ a ∧ a < 0x200000 + 0x10000 * (q + 1) ∧ a % 0x4000 < 0x2000) ||
        decide (0x280000 + 0x4000 * q ≤ a ∧ a < 0x280000 + 0x4000 * (q + 1))))

/-- The first reason of R288 that refuses section s of region q; 0: it passes. `other`: the section whose crossbar the die's
other region has, in force or accepted. -/
def checkSection (q : Nat) (s : List Byte) (other : Option (List Byte)) : Nat :=
  if !(formatGood q s) then 1 else if !(tapsGood s) then 2 else if !(portsGood s) then 3 else if !(simplexGood s) then 4
  else if !(lanesOnce s) || other.any (clash s) then 5
  else if !(loadListGood q s) then 6 else 0

/-- A region's new section: SEC_HASH and bytes. -/
abbrev Sections := NMap (List Byte × List Byte)

/-- The region sections of an image. -/
def imageSections (bs : List Byte) : Sections :=
  (List.range 8).filterMap (fun q => (entryOf bs (0x100 + q)).map (fun e => (q, e.hash, sub bs e.off e.len)))

/-- The die's other region. -/
def otherRegion (q : Nat) : Nat := if q % 2 = 0 then q + 1 else q - 1

/-- The first pass of R293 over the regions in ascending order: the sections accepted, and the reasons of the others. -/
def firstPass (secs old : Sections) : List Nat → Sections × NMap Nat → Sections × NMap Nat
  | [], r => r
  | q :: qs, r =>
    match secs.find q with
    | none => firstPass secs old qs r
    | some s =>
      let o := otherRegion q
      let x := checkSection q s.2 (match r.1.find o with | some t => some t.2 | none => (old.find o).map (·.2))
      firstPass secs old qs (if x = 0 then (r.1.insert q s, r.2) else (r.1, r.2.insert q x))

/-- One repetition of the XBAR check (R293): the lowest region whose accepted section clashes with what its die's other
region will have. -/
def clashing (secs old acc : Sections) : Option Nat :=
  (List.range 8).find? (fun q =>
    match acc.find q with
    | none => false
    | some s =>
      let o := otherRegion q
      let t := match acc.find o with
        | some t => some t
        | none => if (secs.find o).isSome then old.find o else none
      t.any (fun t => clash s.2 t.2))

/-- Repeats the XBAR check until no further section is refused (R293); 8 regions bound the repetitions. -/
def settleXbar (secs old : Sections) : Nat → Sections × NMap Nat → Sections × NMap Nat
  | 0, r => r
  | n + 1, r =>
    match clashing secs old r.1 with
    | none => r
    | some q => settleXbar secs old n (r.1.erase q, r.2.insert q 5)

/-- The sections in force after an image (R293), and the reason of each region refused. -/
def planSections (bs : List Byte) (old : Sections) : Sections × NMap Nat :=
  let secs := imageSections bs
  let r := settleXbar secs old 8 (firstPass secs old (List.range 8) ([], []))
  ((List.range 8).foldl (fun m q =>
    match r.1.find q with
    | some s => m.insert q s
    | none => if (secs.find q).isSome then (match old.find q with | some s => m.insert q s | none => m) else m) [], r.2)

end Sys2Proof.Machine
end

