-- ==== Sys2Proof/Machine/Ledger.lean ====
section
/-! DEFINITION. The boot ledger's header in the MRAM (R527) and the security events (R532, R535). -/

namespace Sys2Proof.Machine

/-- A security event: bit b of SEC_EVT is set, source 0xC0 + b is raised when it was clear (R470, R532). -/
def Dev.secEvent (d : Dev) (f : Fld) (info : Nat) : Dev := d.hubEvent f (0xC0 + f.lo) (BitVec.ofNat 32 info)

/-- Offset in the MRAM of header copy i (R524, R527). The order of its fields, 4 bytes each, is PRESUMED, log entry 3. -/
def headerBase (i : Nat) : Nat := 0x38000 + 64 * i

/-- The CRC-32 of a header copy checks (R446). -/
def headerOk (m : Memory) (i : Nat) : Bool :=
  decide (crc32 (m.readBytes (headerBase i) 12) = wordLe (m.readBytes (headerBase i + 12) 4))

/-- SEQ of a header copy. -/
def headerSeq (m : Memory) (i : Nat) : Nat := ofLe (m.readBytes (headerBase i) 4)

/-- The copy in force: it checks, and its SEQ is the higher (R446). -/
def headerCopy (m : Memory) : Option Nat :=
  if headerOk m 0 && (!(headerOk m 1) || decide (headerSeq m 1 ≤ headerSeq m 0)) then some 0
  else if headerOk m 1 then some 1 else none

/-- Writes the header into the copy not in force, with SEQ + 1 (R446, R527). -/
def Nv.writeHeader (v : Nv) : Nv :=
  let seq := match headerCopy v.mram with | some i => headerSeq v.mram i + 1 | none => 1
  let i := match headerCopy v.mram with | some 0 => 1 | _ => 0
  let bs := leBytes seq 4 ++ leBytes v.bootCount 4 ++ leBytes v.hostStarts 4
  v.store (headerBase i) (bs ++ leBytes (crc32 bs).toNat 4)

/-- HOST_STARTS takes a value, in the ledger's header (R529). -/
def Nv.setHostStarts (v : Nv) (n : Nat) : Nv :=
  if v.hostStarts = n then v else ({ v with hostStarts := n } : Nv).writeHeader

end Sys2Proof.Machine
end

