-- ==== Sys2Proof/Machine/Image.lean ====
section
/-! DEFINITION. Image loads: push, verification, the retained store, the package step, region steps, the firmware switch
(R277, R289 to R305, R516, R529). -/

namespace Sys2Proof.Machine

/-- Changes the load in progress. -/
def Dev.onLoad (d : Dev) (f : LoadSt → LoadSt) : Dev := { d with img := { d.img with load := d.img.load.map f } }

/-- Replaces the load in progress; with it end the yields of its burst (R310). -/
def Dev.setLoad (d : Dev) (l : Option LoadSt) : Dev :=
  { d with img := { d.img with load := l }, bus := { d.bus with yields := if l.isNone then 0 else d.bus.yields } }

/-- A load begins (R289, R303, R512): the reasons are cleared, and the owner's consent to a return is forgotten. -/
def Dev.startLoad (d : Dev) (l : LoadSt) : Dev :=
  let d := (d.setWord (F.HUB_IMG_REASON_REASONS.addr 0) 0).setLoad (some l)
  { d with img := { d.img with consent := [] } }

/-- HUB_IMG_LAST as an operation reports it. -/
def Dev.lastWord (d : Dev) : Word := d.word (F.HUB_IMG_LAST_RESULT.addr 0)

/-- A flash attempt of the start has failed (R529): the slot and its reason are noted, the next slot in order is fetched. -/
def Dev.fetchFailed (d : Dev) (slot reason : Nat) : Dev :=
  let st := d.start
  let rest := st.order.tail
  let d := { d with start := { st with
    failSlots := (slot :: st.failSlots).eraseDups
    reasons := if slot = 0 then (reason, st.reasons.2) else (st.reasons.1, reason)
    tries := st.tries + 1
    order := rest } }
  match rest with
  | [] => d
  | n :: _ => d.startLoad { slot := none, source := n + 1 }

/-- A load ends with an image refused (R292, R304): nothing else changes, and the operation fails. -/
def Dev.refuseLoad (d : Dev) (l : LoadSt) (reason : Nat) : Dev :=
  let d := (d.setLoad none).secEvent F.SEC_EVT_IMG_REFUSED reason
  let d := d.imgLast l 2 reason
  match l.slot with
  | some s => d.complete s 1 d.lastWord
  | none => d.fetchFailed (l.source - 1) reason

/-- Whether every byte of an image is in. -/
def LoadSt.whole (l : LoadSt) : Bool := decide (256 ≤ l.bytes.length ∧ imgLen l.bytes - imgLen l.bytes % 4 ≤ l.bytes.length)

/-- Bytes arrive: the header is checked as soon as it is in (R290, R292). -/
def Dev.takeBytes (d : Dev) (f : Fuses) (bs : List Byte) : Dev :=
  match d.img.load with
  | none => d
  | some l =>
    let all := l.bytes ++ bs
    let l' := { l with bytes := all }
    if l.bytes.length < 256 ∧ 256 ≤ all.length ∧ headerReason f all ≠ 0 then d.refuseLoad l' (headerReason f all)
    else d.setLoad (some l')

/-- IMG_PUSH: a word written to HUB_IMG_PUSH; outside R290 it is dropped and sets PERR (R290, R305). -/
def Dev.pushWord (d : Dev) (f : Fuses) (w : Word) : Dev :=
  match d.img.load with
  | none => d.refuse
  | some l =>
    if l.source = 3 ∧ l.committed = false ∧ l.verified = false ∧ l.whole = false then d.takeBytes f (leBytes w.toNat 4)
    else d.refuse

def execImgPush (data : Word) (s : State) : Host.Outcome State Fault Refusal := s.actK (fun k d => d.pushWord k.fuses data)

/-- PUSH_TIMEOUT: no push word for 1 s while words are due ends the load with reason FETCH (R290). -/
def execPushTimeout (s : State) : Host.Outcome State Fault Refusal :=
  s.act (fun d =>
    match d.img.load with
    | none => d
    | some l => if l.source = 3 ∧ l.committed = false ∧ l.verified = false ∧ l.whole = false then d.refuseLoad l 1 else d)

/-! The retained store and the package step -/

/-- The bank of an image with the sections in force after it (R291). -/
def bankOf (bs : List Byte) (source : Nat) (secs : Sections) : StoreBank :=
  let frm := sectionOf bs 3
  { header := bs.take 256, dir := (bs.drop 256).take (48 * imgSections bs)
    hash := Config.sha256 (bs.take (imgSigOff bs)), imgVer := imgVer bs, secVer := imgSecVer bs, ownerSigned := imgOwnerSig bs
    source := source, fwHash := ((entryOf bs 1).map (·.hash)).getD [], pkg := wordAt (sectionOf bs 2) 0
    frm := (List.range (wordAt frm 0).toNat).map (fun i => wordAt frm (1 + i)), pwr := wordsOf (sectionOf bs 4) 9
    regions := secs }

/-- Writes the bank that is not current and switches the commit record (R291); the anti-rollback minimum follows (R516). -/
def Nv.commitBank (v : Nv) (b : StoreBank) : Nv :=
  let v := if v.cur = some false then { v with bank1 := b, cur := some true } else { v with bank0 := b, cur := some false }
  { v with
    epoch := v.epoch + 1, arbMin := max v.arbMin b.secVer
    secEver := (v.secEver ++ b.regions.map (·.1)).eraseDups }

/-- The package step (R294, R300, R301): PKG, FRM and PWR take effect at one instant. -/
def Dev.packageStep (d : Dev) (b : StoreBank) (consent : List Byte) (resident mixed : Bool) : Dev :=
  let d := d.put F.HUB_TOPO_HIER_VIEW 0 (bitsOf b.pkg 0 0)
  let matrix : NMap Word := b.frm.foldl (fun m w => m.insert (bitsOf w 31 24) w) []
  let d := { d with
    flt := { d.flt with matrix := matrix }
    img := { d.img with pkgWord := b.pkg, pwrWords := b.pwr, consent := consent } }
  let info := b.secVer * 2 ^ 24 + b2n mixed * 2 ^ 15 + b2n b.ownerSigned * 2 ^ 14 + b.source * 2 ^ 12 + b2n resident
  let d := (d.report (F.HUB_IMG_INFO_SOURCE.addr 0) (BitVec.ofNat 32 info)).setWord (F.HUB_IMG_VER_IMG_VER.addr 0)
    (BitVec.ofNat 32 b.imgVer)
  let d := d.each (List.range 8) (fun d i => d.setWord ((F.HUB_IMG_HASH_H i).addr 0) (wordAt b.hash i))
  d.powerCheck

/-- The consent to a return of R512: a section of type 0x8001 of 36 bytes. -/
def consentOf (bs : List Byte) : List Byte :=
  let c := sectionOf bs 0x8001
  if c.length = 36 then c else []

/-- A verified image's store is committed and its package step made; the states and reasons of its refused sections are
shown (R291, R293, R294, R302, R303, R516). -/
def commitImage (v : Nv) (d : Dev) (l : LoadSt) : Nv × Dev :=
  let old := v.bank.regions
  let p := planSections l.bytes old
  let b := bankOf l.bytes l.source p.1
  let changed := decide (b.fwHash ≠ d.img.fwHash)
  let resident := if changed then decide (l.source = 3) else d.is F.HUB_IMG_INFO_RESIDENT 0
  let v' := v.commitBank b
  let d := if v.arbMin < b.secVer then d.secEvent F.SEC_EVT_ARB_ADV b.secVer else d
  let d := d.packageStep b (consentOf l.bytes) resident (decide (p.2 ≠ []))
  let d := d.each (List.range 8) (fun d q =>
    match p.2.find q with
    | some r => (d.setRgn q (if (old.find q).isSome then 4 else 5)).setRgnReason q r
    | none => if (entryOf l.bytes (0x100 + q)).isSome || (d.img.applied.find q).isSome then d.setRgn q 7
      else d.setRgn q (v'.noSection q))
  (v', d.setLoad (some { l with
    committed := true, verified := false, todo := List.range 8, refused := p.2.map (·.1), fwChanged := changed
    bad := l.bad || decide (p.2 ≠ []) }))

/-! Region steps -/

/-- Anything of region q is under self-test (R299). -/
def Dev.regionTested (d : Dev) (q : Nat) : Bool :=
  (d.region q).underTest || (clustersOf q).any (fun c => (d.cluster c).underTest) ||
    (unitsOfRegion q).any (fun u => (d.unit u).underTest)

/-- A sleep transaction is open in region q (R299). -/
def Dev.regionTxn (d : Dev) (q : Nat) : Bool := (d.region q).txn.isSome || (clustersOf q).any (fun c => (d.cluster c).txn.isSome)

/-- Region q is live in the sense of R32. -/
def Dev.regionIsLive (d : Dev) (q : Nat) : Bool :=
  d.bit F.HUB_TOPO_REGION_LIVE 0 q && decide (d.get F.RG_PWR_STAT_STATE q ≠ 2)

/-- Takes the regions in turn, skipping those of R294, up to one whose step has to run. -/
def Dev.nextRegion (d : Dev) (v : Nv) (l : LoadSt) : List Nat → Dev
  | [] => d.setLoad (some { l with todo := [] })
  | q :: qs =>
    if l.refused.contains q then Dev.nextRegion d v l qs
    else
      let applied := d.img.applied.find q
      match v.bank.regions.find q with
      | some s =>
        if !l.force && decide (applied = some s.1) && d.regionIsLive q then Dev.nextRegion (d.setRgn q 1) v l qs
        else (if d.regionTested q then d.setRgn q 3 else d).setLoad (some { l with todo := q :: qs })
      | none =>
        if applied = none then Dev.nextRegion (d.setRgn q (v.noSection q)) v l qs
        else (if d.regionTested q then d.setRgn q 3 else d).setLoad (some { l with todo := q :: qs })

/-- A load completes (R296, R297, R304, R529): RESULT 1 where a region was refused or FAILED; a load from flash clears
HOST_STARTS. -/
def finishLoad (v : Nv) (d : Dev) (l : LoadSt) : Nv × Dev :=
  let d := (d.setLoad none).imgLast l (b2n l.bad) 0
  match l.slot with
  | some s => (if l.source = 3 then v else v.setHostStarts 0, d.complete s 0 d.lastWord)
  | none => (v, d)

/-- Goes on with a load once its head region is done: the next region, the firmware switch to come, or the end. -/
def advanceLoad (v : Nv) (d : Dev) (todo : List Nat) : Nv × Dev :=
  match d.img.load with
  | none => (v, d)
  | some l =>
    let d := d.nextRegion v l todo
    match d.img.load with
    | some l => if l.todo = [] ∧ l.fwChanged = false ∧ l.switching = false then finishLoad v d l else (v, d)
    | none => (v, d)

/-- VERIFICATION: the checks of an image whose last byte is in (R292, R293). A refused image changes nothing; one taken by
the start awaits APPLY (R525, R530); any other is committed and its application begins (R294). -/
def execVerification (s : State) : Host.Outcome State Fault Refusal :=
  s.actNv (fun f v d =>
    match d.img.load with
    | none => (v, d)
    | some l =>
      if l.committed || l.verified || !l.whole then (v, d)
      else
        let r := checkImage f v (d.is F.SEC_LC_OWNER_LOADED 0) l.source l.bytes
        if r ≠ 0 then (v, d.refuseLoad l r)
        else
          let kept := { l with slot := none, verified := true }
          match l.slot with
          | none => (v.setHostStarts 0, { (d.setLoad (some kept)) with start := { d.start with fetched := true } })
          | some t =>
            if d.get F.SEC_BL_STAT_STEP 0 = 8 then
              (v, (({ d with start := { d.start with fetched := true } } : Dev).setLoad (some kept)).complete t 0 d.lastWord)
            else
              let x := commitImage v d l
              advanceLoad x.1 x.2 (List.range 8))

/-- Step 1 of R295 and the reset that follows: the ports go down, the runs of the region end with their own reasons, the
region is held in reset (R234, R257, R265, R299, R458). -/
def Dev.regionDown (d : Dev) (q calReason : Nat) : Dev :=
  let d := d.each (unitsOfRegion q) Dev.portFail
  let d := d.onRegion q (fun x => { x with inReset := true, masked := true })
  let d := d.each (clustersOf q) (fun d c =>
    ((d.diagAbandon c).scansOver c).calAbandon c calReason)
  d.assertRegion q

/-- The step of a region may begin: none is under way, and it has not FAILED in this load; FAILED in an earlier one, it takes its
section now (R294, R299). -/
def Dev.stepOpen (d : Dev) (l : LoadSt) (q : Nat) : Bool :=
  decide ((d.region q).step = 0) || (decide ((d.region q).step = 9) && !(l.failed.contains q))

/-- A region that is not held sleeps in part (R295, R425). -/
def Dev.asleep (d : Dev) (q : Nat) : Bool :=
  !(d.regionHeld q) && (d.deep q || (clustersOf q).any (fun c => decide ((d.cluster c).power ≠ 0)))

/-- REGION_STEP: the step of the region in turn begins, or starts again after a class B reaction (R295, R299). A region under
self-test or with a sleep transaction open waits, one in DEEP or with a cluster in DOZE wakes first; one that a reset has meanwhile
brought up with its new section is skipped (R298). -/
def execRegionStep (q : RegionId) (s : State) : Host.Outcome State Fault Refusal :=
  s.actNv (fun _ v d =>
    match d.img.load with
    | none => (v, d)
    | some l =>
      if !l.committed || decide (l.todo.head? ≠ some q.val) || !(d.stepOpen l q) || d.safe then (v, d)
      else
        let x := if (d.region q).again then (v, d) else advanceLoad v d l.todo
        let d := x.2
        if (d.img.load.map (·.todo.head?)).getD none ≠ some q.val then x
        else if d.regionTested q then (x.1, d.setRgn q 3)
        else if d.regionTxn q then x
        else if d.asleep q then (x.1, d.wakeAll q)
        else (x.1, (((d.setRgn q 2).regionDown q 10).putBit F.FLT_STAT_RG_HELD 0 q false).onRegion q
          (fun r => { r with step := 2, unreleased := false })))

/-- The settling of region q outside a load: that of a STANDBY exit is done (R424). -/
def Dev.settled (d : Dev) (q : Nat) : Dev :=
  let six := decide ((d.region q).step = 6)
  let d := d.onRegion q (fun x => { x with step := if x.step = 6 then 0 else x.step, again := false })
  if six && decide (d.hub.sbStep = 7) then { d with hub := { d.hub with sbDone := q :: d.hub.sbDone } } else d

/-- SETTLE_END: every UP port of the region in turn is up, or the settle limit has run; a FAILED region's step ends too
(R295, R299). Entries held back by the step are QUEUED again (R375). -/
def execSettleEnd (q : RegionId) (s : State) : Host.Outcome State Fault Refusal :=
  s.actNv (fun _ v d =>
    match d.img.load with
    | none => (v, (d.settled q).requeue)
    | some l =>
      let st := (d.region q).step
      if l.committed = false ∨ l.todo.head? ≠ some q.val then (v, d)
      else if st = 6 then
        let d := (d.onRegion q (fun x => { x with step := 0, again := false })).setRgn q
          (if (v.bank.regions.find q).isSome then 1 else v.noSection q)
        advanceLoad v d.requeue l.todo.tail
      else if l.failed.contains q.val then advanceLoad v d l.todo.tail
      else (v, d))

/-- FIRMWARE_SWITCH: the controller restarts on the new firmware; the operation table holds its entries (R282, R294, R297). -/
def execFirmwareSwitch (s : State) : Host.Outcome State Fault Refusal :=
  s.act (fun d =>
    match d.img.load with
    | none => d
    | some l =>
      if l.committed && decide (l.todo = []) && l.fwChanged then
        { d with
          bus := { d.bus with firmware := false, monitor := false, pages := [] }
          img := { d.img with
            fwHash := ((entryOf l.bytes 1).map (·.hash)).getD []
            pageTable := (sectionOf l.bytes 1).take 4096
            fwSlot := l.source - 1
            fwOff := ((entryOf l.bytes 1).map (·.off)).getD 0
            load := some { l with fwChanged := false, switching := true } } }
      else d)

/-- FIRMWARE_RESTART_END: the controller runs the firmware in force; the load that waited for it completes (R297, R490). -/
def execFirmwareRestartEnd (s : State) : Host.Outcome State Fault Refusal :=
  s.actNv (fun _ v d =>
    let up : Dev := if d.bus.monitor then d else d.firmwareUp
    match d.img.load with
    | some l =>
      if l.switching then finishLoad v up { l with switching := false }
      else if d.bus.firmware || d.bus.monitor then (v, d) else (v, up)
    | none =>
      let st := d.get F.SEC_BL_STAT_STEP 0
      if d.bus.firmware || d.bus.monitor || decide (st ≠ 0 ∧ st ≠ 0x0D) then (v, d) else (v, up))

end Sys2Proof.Machine
end

