-- ==== Sys2Proof/Machine/Security.lean ====
section
/-! DEFINITION. Life cycle, keys, attestation (R510 to R523, R536 to R538). -/

namespace Sys2Proof.Machine

/-! Keys (R513, R517, R518). Their encoding is the RFC's, big-endian. PRESUMED, log entry 32. -/

/-- L = 2, the level-0 LMS type and the LM-OTS type that start a public key. -/
def keyHead : List Byte := [0, 0, 0, 2, 0, 0, 0, 7, 0, 0, 0, 3]

/-- The identity public key; all zero while KEY_FUSED = 0 (R518, R537). -/
def Fuses.publicKey (f : Fuses) : List Byte :=
  if f.keyFused then keyHead ++ (f.ident ++ List.replicate 16 0).take 16 ++ (f.root ++ List.replicate 32 0).take 32
  else List.replicate 60 0

/-- DEVICE_ID; zero while KEY_FUSED = 0. -/
def Fuses.deviceId (f : Fuses) : List Byte :=
  if f.keyFused then (Config.sha256 f.publicKey ++ List.replicate 32 0).take 32 else List.replicate 32 0

/-- Bytes of words, lowest byte first. -/
def bytesOf (ws : List Word) : List Byte := ws.flatMap (fun w => leBytes w.toNat 4)

/-- A staged key is well formed (R517). -/
def keyGood (k : List Byte) : Bool :=
  decide (k.length = 60 ∧ k.take 12 = keyHead) && ((k.drop 12).take 16).any (fun b => decide (b ≠ 0))

/-- The staging registers. -/
def Dev.staged (d : Dev) : List Word := (List.range 15).map (fun i => d.word ((F.SEC_OWN_PK_WORD i).addr 0))

/-! Life-cycle changes (R512) -/

/-- The outcome of an LC_CHANGE: DETAIL (0 on success), the LC fuses after it, and whether the owner key is written, erased
or left. -/
inductive KeyAction where
  | left
  | written
  | erased
  deriving DecidableEq, Repr

/-- The transition from a state to a target (R512). `key`: the staged key; `consent`: the section of type 0x8001 applied. -/
def lcPlan (f : Fuses) (target : Nat) (key consent : List Byte) : Nat × BitVec 3 × KeyAction :=
  let st := f.state
  if st = 0 ∧ target = 1 then (if f.keyFused then (0, 1, .left) else (2, f.lc, .left))
  else if st = 1 ∧ target = 2 then (if keyGood key then (0, 3, .written) else (3, f.lc, .left))
  else if st = 2 ∧ target = 2 then
    (if decide (some (Config.sha256 key) = f.ownerHash) then (0, f.lc, .written) else (3, f.lc, .left))
  else if st = 1 ∧ target = 3 then (0, 7, .left)
  else if st = 2 ∧ target = 3 then
    (if consent = f.deviceId ++ [0, 0, 0, 0] then (0, 7, .erased) else (4, f.lc, .left))
  else (1, f.lc, .left)

/-- An LC_CHANGE ends. `bad`: a programmed fuse read back wrong, where the transition programs one; whether the state has then
changed is free (R510). DESIGN CHOICE, log entry 4. -/
def lcChange (k : Keep) (d : Dev) (slot target : Nat) (key : List Byte) (bad : Bool) : Keep × Dev :=
  let f := k.fuses
  let p := lcPlan f target key d.img.consent
  let d := d.put F.SEC_LC_LC_BUSY 0 0
  if p.1 ≠ 0 then (k, d.complete slot 1 (BitVec.ofNat 32 p.1))
  else
    let bad := bad && decide (p.2.1 ≠ f.lc)
    let x := d.freeBelow 2
    let takes := !bad || decide (x.1 = 1)
    let d := if bad then x.2 else d
    let lc := if takes then p.2.1 else f.lc
    let hash := if p.2.2 = .written && f.ownerHash.isNone && takes then some (Config.sha256 key) else f.ownerHash
    let nv : Nv := if bad then k.nv else match p.2.2 with
      | .left => k.nv
      | .written => { k.nv with owner0 := key, owner1 := key }
      | .erased => { k.nv with owner0 := List.replicate 60 0, owner1 := List.replicate 60 0 }
    let d := if bad then d else match p.2.2 with
      | .left => d
      | .written => d.put F.SEC_LC_OWNER_LOADED 0 1
      | .erased => d.put F.SEC_LC_OWNER_LOADED 0 0
    let f' : Fuses := { f with lc := lc, ownerHash := hash }
    let d := if lc ≠ f.lc then d.secEvent F.SEC_EVT_LC_CHANGED f'.state else d
    ({ fuses := f', nv := nv }, if bad then d.complete slot 1 5 else d.complete slot 0 0)

/-! Attestation (R519 to R523) -/

/-- The report body (R523). -/
def Dev.reportBody (d : Dev) (k : Keep) (nonce : List Word) (n : Nat) : List Byte :=
  let low (a : Nat) : Nat := min (d.count a) 0xFFFFFFFF
  let info := b2n (d.is F.HUB_IMG_INFO_MIXED 0) + 2 * b2n (d.is F.HUB_IMG_INFO_OWNER_SIGNED 0) +
    4 * b2n (d.is F.HUB_IMG_INFO_RESIDENT 0) + 8 * b2n d.safe
  leBytes 0x54535441 4 ++ leBytes 1 2 ++ leBytes 192 2 ++ bytesOf nonce ++ k.fuses.deviceId ++
    bytesOf ((List.range 8).map (fun i => d.word ((F.HUB_IMG_HASH_H i).addr 0))) ++ leBytes (d.get F.HUB_IMG_VER_IMG_VER 0) 4 ++
    leBytes (d.get F.HUB_IMG_INFO_SEC_VER 0) 1 ++ leBytes k.fuses.state 1 ++ leBytes k.nv.arbMin 1 ++ leBytes info 1 ++
    leBytes Config.romVersion.toNat 4 ++ List.replicate 4 0 ++ (d.img.fwHash ++ List.replicate 32 0).take 32 ++
    leBytes (d.get F.FLT_CNT_AB_CNT_A 0) 2 ++ leBytes (d.get F.FLT_CNT_AB_CNT_B 0) 2 ++
    leBytes (d.get F.FLT_CNT_CD_CNT_C 0) 2 ++ leBytes (d.get F.FLT_CNT_CD_CNT_D 0) 2 ++
    leBytes (low (F.FLT_ECC_UE_LO_LO.addr 0)) 4 ++ leBytes (low (F.FLT_ECC_CE_LO_LO.addr 0)) 4 ++
    leBytes (d.get F.FLT_HQ_SEQ_SEQ 0) 4 ++ leBytes k.nv.bootCount 4 ++ leBytes d.time 8 ++ leBytes n 4 ++
    leBytes (d.get F.OPT_EPOCH_EPOCH 0) 1 ++ List.replicate 19 0

/-- The DETAIL of a refused ATTEST (R522); 0: none. `bad`: a deferred rebuild does not reproduce ROOT. -/
def Dev.attestRefusal (d : Dev) (k : Keep) (bad : Bool) : Nat :=
  if !k.fuses.keyFused then 1 else if !k.nv.sigOk then 2 else if 2 ^ 25 ≤ k.nv.sigNext then 3
  else if d.get F.SEC_LC_BUCKET 0 = 0 then 4
  else if d.hub.rebuildDue ∧ bad = true then 5 else 0

/-- A deferred rebuild of the key cache inside ATTEST (R519, R529). -/
def Dev.rebuilt (d : Dev) (next : Nat) : Dev :=
  if d.hub.rebuildDue then
    (({ d with hub := { d.hub with rebuildDue := false } } : Dev).put F.SEC_LC_IDENT_READY 0 1).secEvent F.SEC_EVT_KEY_CACHE next
  else d

/-- An index is spent (R520, R521): the token; KEY_LOW when the remaining indices first number fewer than 2^20, KEY_EXHAUSTED at the
end. -/
def Dev.spend (d : Dev) (next : Nat) : Dev :=
  let d := d.put F.SEC_LC_BUCKET 0 (d.get F.SEC_LC_BUCKET 0 - 1)
  let d := if next = 2 ^ 25 - 2 ^ 20 + 1 then d.secEvent F.SEC_EVT_KEY_LOW next else d
  if next = 2 ^ 25 then d.secEvent F.SEC_EVT_KEY_EXHAUSTED next else d

/-- An ATTEST ends (R522): the signing state advances before the report is released (R520). -/
def attest (k : Keep) (d : Dev) (slot : Nat) (nonce : List Word) (bad : Bool) : Keep × Dev :=
  let r := d.attestRefusal k bad
  if r ≠ 0 then (k, d.complete slot 1 (BitVec.ofNat 32 r))
  else
    let n := k.nv.sigNext
    let d := d.rebuilt n
    let body := d.reportBody k nonce n
    let nv := { k.nv with sigNext := n + 1, epoch := k.nv.epoch + 1, cacheOk := k.nv.cacheOk || d.is F.SEC_LC_IDENT_READY 0 }
    let d := { d with hub := { d.hub with report := body ++ Config.hssSign n body } }
    ({ k with nv := nv }, (d.spend (n + 1)).complete slot 0 5428)

/-- A command that changes anything but the queue. -/
def State.actAll (s : State) (f : Keep → Dev → Keep × Dev) : Host.Outcome State Fault Refusal :=
  let r := f s.keep s.dev
  .next { s with keep := r.1, dev := r.2 }

/-- IDENTITY_KEY_FUSE_PROGRAMMING: Henmeura production test fuses SEED, I and ROOT over boundary scan in MANUFACTURE, once
(R510, R511, R518). -/
def execIdentityKeyFuseProgramming (seed ident root : List Byte) (s : State) : Host.Outcome State Fault Refusal :=
  s.actAll (fun k d =>
    if k.fuses.state = 0 ∧ k.fuses.keyFused = false then
      ({ k with fuses := { k.fuses with
          keyFused := true, seed := seed.take 32, ident := ident.take 16, root := root.take 32 } }, d)
    else (k, d))

end Sys2Proof.Machine
end

