-- ==== Sys2Proof/Machine/Post.lean ====
section
/-! DEFINITION. Posting to the operation table, and the rules by which entries start (R370 to R377, R493, R530). -/

namespace Sys2Proof.Machine

/-! The OPT_POST word (R374, R388) -/

/-- TLEVEL and TINDEX of a target. -/
def targetCode (t : Target) : Nat × Nat :=
  match t with
  | .unit u => (0, u.val)
  | .cluster c => (1, c.val)
  | .region q => (2, q.val)
  | .package => (4, 0)
  | .port p => (5, p.val)

/-- The target that TLEVEL and TINDEX name; none outside R374. -/
def targetOf (level index : Nat) : Option Target :=
  if level = 0 ∧ index < 256 then some (.unit (Fin.ofNat 256 index))
  else if level = 1 ∧ index < 32 then some (.cluster (Fin.ofNat 32 index))
  else if level = 2 ∧ index < 8 then some (.region (Fin.ofNat 8 index))
  else if level = 4 ∧ index = 0 then some .package
  else if level = 5 ∧ index < 256 then some (.port (Fin.ofNat 256 index))
  else none

/-- The OPT_POST word of a post. -/
def postWord (op : Nat) (t : Target) (tag : BitVec 8) : Word :=
  BitVec.ofNat 32 ((targetCode t).1 * 2 ^ 29 + (targetCode t).2 * 2 ^ 20 + tag.toNat * 2 ^ 8 + op)

/-! The checks of R373 -/

/-- The opcodes of R377. -/
def opcodes : List Nat := [0x00, 0x01, 0x02, 0x03, 0x08, 0x09, 0x0A, 0x10, 0x18, 0x19, 0x1A, 0x1C, 0x1D, 0x1E]

/-- The target levels that an opcode allows (R377, R493). -/
def allowedLevels (op arg : Nat) : List Nat :=
  if op = 0x01 ∨ op = 0x02 then [5] else if op = 0x03 then [0, 5] else if op = 0x08 ∨ op = 0x09 then [0, 1]
  else if op = 0x0A then [1] else if op = 0x10 then (if arg % 16 = 3 then [2, 4] else [0, 1, 2, 4])
  else if op = 0x1C then [2] else [4]

/-- The target is allowed for the opcode, and a port target names the BASE of a port. -/
def Dev.targetGood (d : Dev) (op arg level : Nat) (t : Option Target) : Bool :=
  match t with
  | none => false
  | some t => (allowedLevels op arg).contains level && (match t with | .port p => d.isPort p | _ => true)

/-- The arguments hold valid codes, and unused bits are zero (R377). -/
def argsGood (op : Nat) (args : List Word) : Bool :=
  let a := ((args[0]?).getD 0).toNat
  let rest := (args.drop 1).all (fun w => decide (w = 0))
  if op = 0x19 then true
  else rest &&
    (if op = 0x03 ∨ op = 0x0A ∨ op = 0x1E then decide (a < 2)
     else if op = 0x08 then decide (1 ≤ a ∧ a ≤ 3)
     else if op = 0x09 then decide (a < 2 ^ 16 ∧ a / 128 % 2 = 0 ∧ (a % 4 = 1 ∨ a % 4 = 2) ∧ 10 ≤ a / 4 % 32 ∧ a / 4 % 32 ≤ 16)
     else if op = 0x10 then decide (1 ≤ a ∧ a ≤ 3)
     else if op = 0x18 then decide (a % 4 ≠ 0 ∧ a / 4 % 4 = 0 ∧ a < 32)
     else if op = 0x1A then decide (a < 4)
     else decide (a = 0))

/-- A kind of self-test is permitted in a life-cycle state, given the image's PKG word (R283, R493). -/
def testPermitted (lc kind : Nat) (pkg : Word) : Bool :=
  if lc = 0 ∨ lc = 3 then true
  else if kind = 3 then false
  else if lc = 1 then true
  else decide (bitsOf pkg 2 2 = 1 ∧ kind = 1) || decide (bitsOf pkg 3 3 = 1 ∧ kind = 2)

/-- The refusal code of a post, the first check of R373 that fails; 0: accepted. Of the opcodes only SELFTEST depends on the
life-cycle state at its post; ATTEST and LC_CHANGE report theirs in DETAIL (R512, R522). DEDUCED, log entry 31. -/
def Dev.postCheck (d : Dev) (f : Fuses) (op level index : Nat) (args : List Word) : Nat :=
  let a := ((args[0]?).getD 0).toNat
  if d.opt.head = none then 1
  else if !(opcodes.contains op) then 2
  else if !(d.targetGood op a level (targetOf level index)) then 3
  else if !(argsGood op args) then 4
  else if op = 0x10 ∧ testPermitted f.state (a % 16) d.img.pkgWord = false then 5
  else 0

/-- Writes OPT_LAST_POST (R389). -/
def Dev.lastPost (d : Dev) (handle tag result : Nat) : Dev :=
  d.report (F.OPT_LAST_POST_HANDLE.addr 0) (BitVec.ofNat 32 (handle * 2 ^ 16 + tag * 2 ^ 8 + result))

/-- A post is accepted: the slot freed longest ago takes it with the next GEN (R370, R373); its words are written whole
(R489). -/
def Dev.accept (d : Dev) (slot : Nat) (w : Word) (args : List Word) (t : Target) : Dev :=
  let gen := nextGen ((d.opt.gens.find slot).getD 0)
  let h := gen * 1024 + slot
  let e : OpEntry := { handle := h, opcode := bitsOf w 7 0, posted := w, args := args, target := t, order := d.opt.nextOrder }
  let o := d.opt.pop
  let d := { d with opt := { o with
    bad := o.bad.filter (fun w => decide (Config.opSlotOfWord w % 1024 ≠ slot))
    entries := o.entries.insert slot e, gens := o.gens.insert slot gen, nextOrder := o.nextOrder + 1 } }
  d.lastPost h (bitsOf w 15 8) 0

/-- The commit of an OPT_POST write with the arguments in effect (R372, R373). -/
def Dev.post (d : Dev) (f : Fuses) (w : Word) : Dev :=
  let args := (List.range 4).map (fun i => d.word ((F.OPT_ARG_ARG i).addr 0))
  let r := d.postCheck f (bitsOf w 7 0) (bitsOf w 31 29) (bitsOf w 28 20) args
  match d.opt.head, targetOf (bitsOf w 31 29) (bitsOf w 28 20) with
  | some slot, some t => if r = 0 then d.accept slot (w &&& 0xFFF0FFFF) args t else (d.lastPost 0 (bitsOf w 15 8) r).refuse
  | _, _ => (d.lastPost 0 (bitsOf w 15 8) r).refuse

/-- A post as software makes it: one WRITE_INC of OPT_ARG0 to OPT_POST (R372). Before the table is served the write meets
OFF (R526). -/
def State.postOp (s : State) (op : Nat) (t : Target) (args : List Word) (tag : BitVec 8) :
    Host.Outcome State Fault Refusal :=
  s.actK (fun k d =>
    if d.servesTable then
      (d.each (List.range 4) (fun d i => d.setWord ((F.OPT_ARG_ARG i).addr 0) ((args[i]?).getD 0))).post k.fuses
        (postWord op t tag)
    else d.refuse)

def execNop (tag : BitVec 8) (s : State) : Host.Outcome State Fault Refusal := s.postOp 0x00 .package [] tag
def execPortUp (p : UnitId) (tag : BitVec 8) (s : State) : Host.Outcome State Fault Refusal := s.postOp 0x01 (.port p) [] tag
def execPortDown (p : UnitId) (tag : BitVec 8) (s : State) : Host.Outcome State Fault Refusal :=
  s.postOp 0x02 (.port p) [] tag
def execOpRetrain (t : Target) (cold : Bool) (tag : BitVec 8) (s : State) : Host.Outcome State Fault Refusal :=
  s.postOp 0x03 t [BitVec.ofNat 32 (b2n cold)] tag
def execDiagSnap (t : Target) (tag : BitVec 8) (s : State) : Host.Outcome State Fault Refusal := s.postOp 0x08 t [1] tag
def execDiagSweep (t : Target) (tag : BitVec 8) (s : State) : Host.Outcome State Fault Refusal := s.postOp 0x08 t [2] tag
def execDiagCold (t : Target) (tag : BitVec 8) (s : State) : Host.Outcome State Fault Refusal := s.postOp 0x08 t [3] tag

/-- ARG0 of a margin scan: MODE, DW, TARGET. -/
def scanArg (mode : Nat) (dw : Fin 32) (target : BitVec 8) : Word := BitVec.ofNat 32 (mode + 4 * dw.val + 256 * target.toNat)

def execMscanCross (t : Target) (dw : Fin 32) (target tag : BitVec 8) (s : State) : Host.Outcome State Fault Refusal :=
  s.postOp 0x09 t [scanArg 1 dw target] tag
def execMscanMap (t : Target) (dw : Fin 32) (target tag : BitVec 8) (s : State) : Host.Outcome State Fault Refusal :=
  s.postOp 0x09 t [scanArg 2 dw target] tag
def execCal (t : Target) (force : Bool) (tag : BitVec 8) (s : State) : Host.Outcome State Fault Refusal :=
  s.postOp 0x0A t [BitVec.ofNat 32 (b2n force)] tag
def execMemorySelftest (t : Target) (tag : BitVec 8) (s : State) : Host.Outcome State Fault Refusal := s.postOp 0x10 t [1] tag
def execAnalogueLoopBack (t : Target) (tag : BitVec 8) (s : State) : Host.Outcome State Fault Refusal :=
  s.postOp 0x10 t [2] tag
def execLogicScan (t : Target) (tag : BitVec 8) (s : State) : Host.Outcome State Fault Refusal := s.postOp 0x10 t [3] tag

/-- SOURCE of an image load (R377). -/
def sourceCode (src : ImgSource) : Nat :=
  match src with
  | .slot0 => 1
  | .slot1 => 2
  | .host => 3

def execImgLoad (src : ImgSource) (force : Bool) (tag : BitVec 8) (s : State) : Host.Outcome State Fault Refusal :=
  s.postOp 0x18 .package [BitVec.ofNat 32 (sourceCode src + 16 * b2n force)] tag
def execAttest (n0 n1 n2 n3 : Word) (tag : BitVec 8) (s : State) : Host.Outcome State Fault Refusal :=
  s.postOp 0x19 .package [n0, n1, n2, n3] tag
def execLcChange (target : Fin 4) (tag : BitVec 8) (s : State) : Host.Outcome State Fault Refusal :=
  s.postOp 0x1A .package [BitVec.ofNat 32 target.val] tag
def execRgnReset (t : Target) (tag : BitVec 8) (s : State) : Host.Outcome State Fault Refusal := s.postOp 0x1C t [] tag
def execPkgReset (tag : BitVec 8) (s : State) : Host.Outcome State Fault Refusal := s.postOp 0x1D .package [] tag
def execStandbyEntry (tag : BitVec 8) (s : State) : Host.Outcome State Fault Refusal := s.postOp 0x1E .package [1] tag
def execStandbyExit (tag : BitVec 8) (s : State) : Host.Outcome State Fault Refusal := s.postOp 0x1E .package [0] tag

/-! The start rule (R375, R376, R530) -/

/-- The units that a target covers, as first and count. -/
def Dev.span (d : Dev) (t : Target) : Nat × Nat :=
  match t with
  | .unit u => (u, 1)
  | .port p => (p, d.width p)
  | .cluster c => (8 * c.val, 8)
  | .region q => (32 * q.val, 32)
  | .package => (0, 256)

/-- Two targets overlap: one contains the other, or they share a unit of a port. -/
def Dev.overlap (d : Dev) (s t : Target) : Bool :=
  let a := d.span s
  let b := d.span t
  decide (a.1 < b.1 + b.2 ∧ b.1 < a.1 + a.2)

/-- The operations of which one runs at a time. -/
def single (op : Nat) : Bool := decide (op = 0x18 ∨ op = 0x1A ∨ op = 0x1E ∨ op = 0x1D)

/-- Two entries conflict (R376). -/
def Dev.conflict (d : Dev) (a b : OpEntry) : Bool :=
  let tests (e : OpEntry) : Bool := decide (e.opcode = 0x1C ∨ e.opcode = 0x10)
  (d.overlap a.target b.target && (decide (a.opcode = b.opcode) || tests a || tests b)) ||
    (single a.opcode && single b.opcode)

/-- The controller serves an opcode: the firmware all, the boot ROM monitor those of R530. -/
def Dev.serves (d : Dev) (e : OpEntry) : Bool :=
  let arg := ((e.args[0]?).getD 0).toNat
  d.bus.firmware || (d.bus.monitor && (decide (e.opcode = 0x00 ∨ e.opcode = 0x19 ∨ e.opcode = 0x1A ∨ e.opcode = 0x1D) ||
    decide (e.opcode = 0x18 ∧ arg % 4 = 3)))

/-- The cluster of a unit or cluster target. -/
def targetCluster (t : Target) : Nat :=
  match t with
  | .unit u => u.val / 8
  | .port p => p.val / 8
  | .cluster c => c.val
  | _ => 32

/-- A diagnostic run waits for the one in progress in its cluster (R265). -/
def Dev.clusterBusy (d : Dev) (e : OpEntry) : Bool :=
  decide (e.opcode = 0x08) && (d.cluster (targetCluster e.target)).diag.isSome

/-- A start is in progress that has not reached the end of FW_START, which a STANDBY entry waits for (R533). -/
def Dev.starting (d : Dev) : Bool := decide (d.get F.SEC_BL_STAT_STEP 0 ≠ 0 ∧ d.get F.SEC_BL_STAT_STEP 0 ≠ 13)

/-- The conditions of R376 hold of an entry, those posted earlier that do not conflict apart. -/
def Dev.startable (d : Dev) (e : OpEntry) : Bool :=
  decide (e.state = .queued ∨ e.state = .held) && !(decide (e.opcode = 0x1E) && d.starting) &&
    decide (d.opt.countState .running < 64) && d.serves e && !(d.clusterBusy e) &&
    !(d.opt.entries.any (fun x => decide (x.2.order < e.order) && decide (x.2.state ≠ .done) && d.conflict x.2 e))

/-- R376 lets an entry start: entries that do not conflict start in the order of their posting. -/
def Dev.mayStart (d : Dev) (e : OpEntry) : Bool :=
  d.startable e && !(d.opt.entries.any (fun x => decide (x.2.order < e.order) && d.startable x.2 && !(d.heldBack x.2)))

end Sys2Proof.Machine
end

