-- ==== Sys2Proof/Machine/SelfTest.lean ====
section
/-! DEFINITION. Self-test: the blocks of a target enter and leave test, results, repairs (R118, R205, R493 to R499,
R508, R509). -/

namespace Sys2Proof.Machine

/-! Entering test -/

/-- The blocks of a target are under test, or no longer (R494); their detectors stay masked until MASK_END (R480). The regions and
dies of a package target are named one by one. -/
def Dev.markTest (d : Dev) (t : Target) (on : Bool) : Dev :=
  match t with
  | .unit u => d.onUnit u (fun x => { x with underTest := on, masked := true })
  | .cluster c => d.onCluster c (fun x => { x with underTest := on, masked := true })
  | .region q => d.onRegion q (fun x => { x with underTest := on, masked := true })
  | .package | .port _ => d

/-- A unit enters test: its scan ends with reason 4, its port goes down, its attempt or backoff ends uncounted, its pair
carries zero; its HOST_TX lane carries the fault stream under memory test, else nothing (R205, R257, R494). -/
def Dev.intoTest (d : Dev) (kind u : Nat) : Dev :=
  let kept := decide (d.get F.LU_BU_STAT_STATE u = 10)
  let d := (d.rxGone u 4).portFail u
  let d := (d.forgetFar u).onUnit u (fun x => { x with tx := .zero, txWant := none, lineOut := none, testKept := kept })
  let d := d.onCluster (u / 8) (fun x => { x with silent := x.silent.filter (· ≠ u % 8) })
  let d := if d.is F.LU_BU_CTRL_EN u then d.put F.LU_BU_STAT_STATE u 19 else d
  d.setHtx u (if kind = 1 && d.mapped u then 1 else 0)

/-- The units of a target. -/
def testUnits (t : Target) : List Nat :=
  match t with
  | .unit u => [u.val]
  | .cluster c => unitsOf c
  | .region q => unitsOfRegion q
  | .package | .port _ => []

/-- The test of a unit that a calibration run has listed abandons the run (R458). -/
def Dev.testCutsRun (d : Dev) (u : Nat) : Dev :=
  if (d.cluster (u / 8)).cal.isSome && bitOf (d.get F.CL_CAL_STAT_PART (u / 8)) (u % 8) then d.calAbandon (u / 8) 11 else d

/-- The blocks of a target enter test (R494). -/
def Dev.enterTest (d : Dev) (kind : Nat) (t : Target) : Dev :=
  ((d.each (testUnits t) Dev.testCutsRun).markTest t true).each (testUnits t) (fun d u => d.intoTest kind u)

/-- The regions as targets. -/
def allRegions : List Target := (List.range 8).map (fun q => .region (Fin.ofNat 8 q))

/-- A self-test entry starts (R494, R495, R498, R499): the results window is cleared. A package memory test takes its regions
and dies one by one. -/
def Dev.testStart (d : Dev) (kind : Nat) (t : Target) : Dev :=
  let d := d.each (List.range 64) (fun d i =>
    (d.setWord ((F.ST_RESULT_W0_LOCATION i).addr 0) 0).setWord ((F.ST_RESULT_W1_KIND i).addr 0) 0)
  let d := ((d.put F.HUB_ST_STAT_ENTRIES 0 0).put F.HUB_ST_STAT_OVERFLOW 0 0).put F.HUB_ST_STAT_KIND 0 kind
  let d := d.put F.HUB_ST_STAT_STATE 0 1
  match t with
  | .package =>
    if kind = 1 then d
    else
      let d := allRegions.foldl (fun d r => d.enterTest kind r) d
      if kind = 3 then d.each (List.range 4) (fun d n => d.onDie n (fun x => { x with underTest := true, masked := true })) else d
  | _ => d.enterTest kind t

/-! Leaving test -/

/-- The words of a poison code lie in what a memory test of a target covers (R495): a unit's delay line; the pool and delay
lines of a cluster; with the retention SRAM, a region. -/
def coveredBy (t : Target) (c : Nat) : Bool :=
  let level := c / 2 ^ 28
  let i := c / 2 ^ 20 % 256
  let m := c / 2 ^ 13 % 16
  match t with
  | .unit u => decide (level = 1 ∧ i = u.val / 8 ∧ m = 2 + u.val % 8)
  | .cluster k => decide (level = 1 ∧ i = k.val)
  | .region q => decide (level = 1 ∧ i / 4 = q.val) || decide (level = 2 ∧ i = q.val)
  | .package | .port _ => false

/-- The arrays of a target were written with valid words by its memory test (R495, R496). -/
def Dev.testedArrays (d : Dev) (t : Target) : Dev :=
  let d := { d with flt := { d.flt with poison := d.flt.poison.filter (fun c => !(coveredBy t c)) } }
  d.each (testUnits t) (fun d u => d.onUnit u (fun x => { x with canc := { x.canc with hist := [] } }))

/-- A unit's test has ended. With EN = 1 an attempt starts (R494): cold where the test cut an attempt or a backoff off, as R205
states for that case; from data mode with its cancellers as they were kept, at G3 for 32,768 tokens (R118), unless R175 makes the
attempt cold. DEDUCED, log entry 63. With EN = 0 the kept cancellers resume. -/
def Dev.testOver (d : Dev) (u : Nat) : Dev :=
  if d.is F.LU_BU_CTRL_EN u && d.live u then
    if (d.unit u).testKept then
      let d := d.startUnit u .relock false
      if d.duplex (u / 8) && !((d.unit u).cold) then
        ((d.put F.LU_RB_STAT_GEAR u 4).resumeG3 u).onCanc u (fun x => { x with nextUntilLock := false })
      else d
    else d.startUnit u .comeback false
  else (if d.get F.LU_BU_STAT_STATE u = 19 then d.put F.LU_BU_STAT_STATE u 0 else d).resumeG3 u

/-- The blocks of a target leave a memory or loop-back test (R118, R205, R494). -/
def Dev.leaveTest (d : Dev) (kind : Nat) (t : Target) : Dev :=
  ((if kind = 1 then d.testedArrays t else d).markTest t false).each (testUnits t) Dev.testOver

/-- A region's logic scan ends: region reset and its release from the retained store (R498). -/
def Dev.scanReset (d : Dev) (k : Keep) (q : Nat) : Dev :=
  let d := d.regionDown q 11
  if d.mayRelease q then d.releaseRegion k q [] false else d

/-- A die's reset after a package logic scan: its registers and its deskew buffers (R25), and a hub link that has recovered serves
again (R21, R23). -/
def Dev.dieReset (d : Dev) (n : Nat) : Dev :=
  let d := (d.clearRange (blkBase .die n) (blkBase .die n + 0x8000)).mendDie n
  let d := d.onDie n (fun x => { x with underTest := false, lost := x.lost && !x.recovered, recovered := false })
  let up := (d.die n).on && !((d.die n).lost)
  (d.put F.DIE_INFO_LINK_UP n (b2n up)).putBit F.HUB_TOPO_LINK_UP 0 n up

/-- A package logic scan ends: die resets, foreground trims, the releases of step 7 of R424 (R498). -/
def Dev.packageScanEnd (d : Dev) (k : Keep) : Dev :=
  let d := (d.each (List.range 8) (fun d q => d.regionDown q 11)).each (List.range 4) Dev.dieReset
  let d := d.each (List.range 32) (fun d c => d.fgTrimmed k.nv c)
  d.each (List.range 8) (fun d q => if d.mayRelease q then d.releaseRegion k q [] false else d)

/-- What is still under test of a target is released, as its kind states (R494, R495, R498). -/
def Dev.testRelease (d : Dev) (k : Keep) (kind : Nat) (t : Target) : Dev :=
  match t with
  | .package =>
    if kind = 3 then d.packageScanEnd k
    else
      let qs := (List.range 8).filter (fun q => (d.region q).underTest)
      let d := d.each qs (fun d q => d.leaveTest kind (.region (Fin.ofNat 8 q)))
      d.each (List.range 4) (fun d n => d.onDie n (fun x => { x with underTest := false }))
  | .region q => if kind = 3 then d.scanReset k q else d.leaveTest kind t
  | _ => d.leaveTest kind t

/-! A package memory test, step by step -/

/-- The die block of a die enters test with its ports down (R495). -/
def Dev.dieTest (d : Dev) (n : Nat) : Dev :=
  (d.each ((List.range 64).map (fun j => 64 * n + j)) Dev.portFail).onDie n (fun x => { x with underTest := true, masked := true })

/-- The die block of a die leaves test; its deskew buffers hold valid words. -/
def Dev.dieTested (d : Dev) (n : Nat) : Dev :=
  (d.onDie n (fun x => { x with underTest := false })).mendDie n

/-- A package memory test goes on to its step: 0 to 7 the regions in ascending q, 8 to 11 the dies; what was under test is
released (R495). DEDUCED, log entry 33. -/
def Dev.testStep (d : Dev) (step : Nat) : Dev :=
  let qs := (List.range 8).filter (fun q => (d.region q).underTest && decide (q ≠ step))
  let d := d.each qs (fun d q => d.leaveTest 1 (.region (Fin.ofNat 8 q)))
  let ns := (List.range 4).filter (fun n => (d.die n).underTest && decide (n + 8 ≠ step))
  let d := d.each ns Dev.dieTested
  let d := d.requeue
  if step < 8 then (if (d.region step).underTest then d else d.enterTest 1 (.region (Fin.ofNat 8 step)))
  else if step < 12 ∧ (d.die (step - 8)).underTest = false then d.dieTest (step - 8)
  else d

/-! Results (R496, R499) -/

/-- The pool slots of a word of the pool's active half, at its cluster (R495, log entry 14). -/
def Dev.zeroPoolWord (d : Dev) (l : Loc) : Dev :=
  match l with
  | .word 0 c 0 w => d.zeroSlots c (4 * w) 4
  | _ => d

/-- A result entry is written while the window has room. -/
def Dev.putResult (d : Dev) (kind outcome : Nat) (x : Failing) : Dev :=
  let n := d.get F.HUB_ST_STAT_ENTRIES 0
  if n < 64 then
    let d := d.setWord ((F.ST_RESULT_W0_LOCATION n).addr 0) (d.locCode x.loc)
    let d := d.setWord ((F.ST_RESULT_W1_KIND n).addr 0)
      (BitVec.ofNat 32 (kind * 2 ^ 28 + outcome * 2 ^ 24 + x.count.toNat))
    d.put F.HUB_ST_STAT_ENTRIES 0 (n + 1)
  else d.put F.HUB_ST_STAT_OVERFLOW 0 1

/-- A hub record of self-test: ST_FAIL or REPAIR_FAIL (R472, R496, R499). -/
def Dev.testEvent (d : Dev) (src : BitVec 8) : Dev := d.raise ⟨src, .package 0, 0, 0⟩

/-- The bank of a row as the repair table names it: its physical code without the word (R30, R496). -/
def bankCode (l : Loc) : Nat := physicalCode l / 2 ^ 17

/-- A repaired row takes the next spare row of its bank; with none left it is unrepairable (R28, R496). The outcome a failing element
has, with the repairs in effect. Repairs fused at manufacture are not in it. DEDUCED, log entry 33. -/
def rowOutcome (v : Nv) (d : Dev) (x : Failing) : Nat :=
  match x.loc with
  | .word a _ _ _ =>
    let used := ((v.rpr ++ d.hub.repairs).filter (fun c => decide (c / 2 ^ 17 = bankCode x.loc))).length
    if x.outcome.val = 1 ∧ spareRows a ≤ used then 2 else x.outcome.val
  | _ => x.outcome.val

/-- A failing element: its result; a repaired row enters the repair table, or is lost to it when it is full, and stays repaired until
the next package reset; an unrepairable row is counted; a word lost at restore is zero (R495, R496, R499). -/
def oneResult (kind : Nat) (a : Nv × Dev) (x : Failing) : Nv × Dev :=
  let v := a.1
  let out := rowOutcome v a.2 x
  let d := a.2.putResult kind out x
  if out = 1 then
    if v.rpr.length < 256 then
      let v' : Nv := { v with rpr := v.rpr ++ [physicalCode x.loc], rprCopy := 1 - v.rprCopy, epoch := v.epoch + 1 }
      (v', (d.put F.HUB_RPR_STAT_USED 0 v'.rpr.length).put F.HUB_RPR_STAT_TBL_COPY 0 v'.rprCopy)
    else (v, ({ d with hub := { d.hub with repairs := physicalCode x.loc :: d.hub.repairs } } : Dev).testEvent 0x6A)
  else if out = 2 then (v, (d.bump F.HUB_RPR_STAT_UNREP 0 1).testEvent 0x6A)
  else if out = 3 then (v, d.zeroPoolWord x.loc)
  else (v, d)

/-- The number of failing elements: an uncorrectable saved word is reported, but it is no failing row (R495, R499). -/
def failCount (fails : List Failing) : Nat := min 0xFFFF (fails.filter (fun x => decide (x.outcome.val ≠ 3))).length

/-- A self-test entry ends: results, release, completion, ST_FAIL (R494, R499). -/
def testEnd (k : Keep) (d : Dev) (slot kind : Nat) (t : Target) (fails : List Failing) : Keep × Dev :=
  let r := fails.foldl (oneResult kind) (k.nv, d)
  let k' : Keep := { k with nv := r.1 }
  let n := failCount fails
  let d := r.2.put F.HUB_ST_STAT_FAILS 0 n
  let d := ((d.testRelease k' kind t).complete slot 0 (BitVec.ofNat 32 n)).testIdle.requeue
  (k', if n = 0 then d else d.testEvent 0x69)

end Sys2Proof.Machine
end

