-- ==== Sys2Proof/Machine/Wake.lean ====
section
/-! DEFINITION. The ends of wakes, and the self-tests that waited for them (R416 to R418). -/

namespace Sys2Proof.Machine

/-- The clusters that an operation's target needs awake; of the package those of the regions that are live. -/
def Dev.needs (d : Dev) (t : Target) : List Nat :=
  match t with
  | .unit u => [u.val / 8]
  | .port p => [p.val / 8]
  | .cluster c => [c.val]
  | .region q => clustersOf q
  | .package => (List.range 32).filter (fun c => d.bit F.HUB_TOPO_REGION_LIVE 0 (c / 4))

/-- A cluster that the target needs is in DOZE or DEEP, entering or leaving it. -/
def Dev.sleeps (d : Dev) (t : Target) : Bool := (d.needs t).any (fun c => d.deep (c / 4) || decide ((d.cluster c).power ≠ 0))

/-- An operation whose action needs its domain wakes it (R416). -/
def Dev.wakeTarget (d : Dev) (t : Target) : Dev :=
  match t with
  | .unit u | .port u => d.wakeUnit u
  | .cluster c => d.wakeWhole c
  | .region q => d.wakeAll q
  | .package => d.each ((List.range 8).filter (fun q => d.bit F.HUB_TOPO_REGION_LIVE 0 q)) (fun d q => d.wakeAll q)

/-- A self-test starts: where its target sleeps, once it is awake (R416, R494). DEDUCED, log entry 73. -/
def Dev.testBegin (d : Dev) (slot : Nat) (e : OpEntry) : Dev :=
  if d.sleeps e.target then (d.wakeTarget e.target).onEntry slot (fun e => { e with asleep := true })
  else (d.onEntry slot (fun e => { e with asleep := false })).testStart (e.arg % 16) e.target

/-- The self-tests that waited for a wake begin when their targets are awake. -/
def Dev.testsWoken (d : Dev) : Dev :=
  d.each ((d.opt.entries.filter (fun e => e.2.asleep && decide (e.2.state = .running) && !(d.sleeps e.2.target))).map (·.1))
    (fun d s => match d.entry s with
      | some e => d.testBegin s e
      | none => d)

/-- DOZE_WAKE_DONE: steps 1 to 3 of R417 are over; a self-test that waited for the wake begins. -/
def execDozeWakeDone (c : ClusterId) (s : State) : Host.Outcome State Fault Refusal :=
  s.act (fun d =>
    if (d.cluster c).power = 3 ∧ d.get F.RG_PWR_STAT_STATE (c / 4) = 0 then (d.dozeWoken c).testsWoken else d)

/-- DEEP_WAKE_DONE: the region is restored; clusters with a trigger go on to their DOZE wake, the others stay in DOZE. `found`: the
retention words in error; an uncorrectable one ends the wake with a region reset and its events (R418, R421, R438, R488). -/
def execDeepWakeDone (q : RegionId) (us : Nat) (found : List RetWord) (s : State) : Host.Outcome State Fault Refusal :=
  s.act (fun d =>
    if d.get F.RG_PWR_STAT_STATE q ≠ 3 then d
    else
    let d := d.put F.RG_PWR_STAT_STATE q 0
    let d := found.foldl (fun d x => d.restoreWord q x) d
    if found.any (·.lost) then
      let d := d.restoreLost q found
      if (d.region q).inReset then d else d.assertRegion q
    else
      let cs := (d.region q).wakes
      let d := d.put F.RG_PWR_STAT_LAST_WAKE q (min us 0xFFFF)
      let d := (d.put F.RG_RET_STAT_RESTORE_FIX q (min found.length 255)).put F.RG_RET_STAT_RET_VALID q 1
      let d := (d.notRetained q).onRegion q (fun x => { x with wakes := [] })
      d.each cs (fun d c => d.wakeCluster c .crosstalk))

end Sys2Proof.Machine
end

