-- ==== Sys2Proof/Machine/Startup.lean ====
section
/-! DEFINITION. Resets of the package, the start and its steps, the boot ledger (R23, R338, R517, R519, R525 to R531,
R554). -/

namespace Sys2Proof.Machine

/-! Package reset -/

/-- The device after a package reset (R23): everything at reset but the count of free draws, the TAP and what is outside the
package. `cause`: RESET_CAUSE of R527. -/
def Dev.fresh (d : Dev) (cause : Nat) : Dev :=
  let plugs : NMap ClusterSt := d.clusters.map (fun e => (e.1, { ({} : ClusterSt) with
    mated := e.2.mated, rotated := e.2.rotated }))
  let n : Dev := { ({} : Dev) with
    draws := d.draws
    clusters := plugs
    flt := { ({} : FltSt) with snapFree := d.flt.snapFree }
    bus := { ({} : BusSt) with faultLow := d.bus.faultLow }
    hub := { ({} : HubSt) with tapIr := d.hub.tapIr, pinsTaken := d.hub.pinsTaken, bsCap := d.hub.bsCap, bsUpd := d.hub.bsUpd } }
  n.put F.SEC_BL_STAT_RESET_CAUSE 0 cause

/-- RESET_N: a low pulse resets the package from 1 µs on, has no effect below 100 ns, and one of the two between (R338). DESIGN
CHOICE, log entry 4. -/
def execResetN (lowNs : Nat) (s : State) : Host.Outcome State Fault Refusal :=
  s.act (fun d =>
    let down : Dev := d.fresh 1
    let down := { down with hub := { down.hub with resetLow := true } }
    if lowNs < 100 then d
    else if 1000 ≤ lowNs then down
    else if Config.resetTakes d.draws then { down with draws := d.draws + 1 }
    else { d with draws := d.draws + 1 })

/-- POWER_ON_RESET: a rail below its threshold resets the package and the TAP (R554, R564). -/
def execPowerOnReset (s : State) : Host.Outcome State Fault Refusal :=
  s.act (fun d =>
    let n := d.fresh 0
    { n with hub := { n.hub with porHold := true, tapIr := 2, pinsTaken := false, bsCap := {}, bsUpd := {} } })

/-- START: reset is released and the straps are sampled; the start begins, unless the boundary register holds the pins (R8,
R525, R564). -/
def execStart (straps : Fin 8) (s : State) : Host.Outcome State Fault Refusal :=
  s.act (fun d =>
    if d.start.begun then d
    else
      let d := { (d.put F.HUB_GRADE_PKG_ID 0 straps) with hub := { d.hub with resetLow := false, porHold := false } }
      if d.hub.pinsTaken then d else { d with start := { d.start with begun := true } })

/-! The boot ledger (R527, R528) -/

/-- Offset in the MRAM of the record of a boot count. -/
def recordBase (n : Nat) : Nat := 0x38100 + 256 * (n % 16)

/-- The words of a record. -/
def recordWords (m : Memory) (n : Nat) : List Nat :=
  (List.range 32).map (fun w => ofLe (m.readBytes (recordBase n + 8 * w) 8))

/-- Writes word w of the record of this start. -/
def Nv.putRecord (v : Nv) (w x : Nat) : Nv :=
  v.store (recordBase v.bootCount + 8 * w) (leBytes x 8)

/-- A step entry. -/
def stepEntry (code outcome way dur start : Nat) : Nat :=
  code + outcome * 2 ^ 8 + way * 2 ^ 12 + min dur 0xFFFF * 2 ^ 16 + start % 2 ^ 32 * 2 ^ 32

/-- OUTCOME of a step in the previous record; one found in progress was cut off and counts as FAILED (R528). -/
def prevOutcome (prev : List Nat) (code : Nat) : Nat :=
  let o := ((prev[code]?).getD 0) / 2 ^ 8 % 16
  if o = 1 then 3 else o

/-- Bits of a word of the previous record. -/
def prevBits (prev : List Nat) (w hi lo : Nat) : Nat := ((prev[w]?).getD 0) / 2 ^ lo % 2 ^ (hi + 1 - lo)

/-- The units that the previous record names (R527, R531). -/
def prevUnits (prev : List Nat) : List Nat := (List.range 256).filter (fun u => bitOf ((prev[17 + u / 64]?).getD 0) (u % 64))

/-- Word 21: TRIM_FAIL, FAIL_SLOTS and the reasons of the slots. -/
def Nv.putFails (v : Nv) (st : StartSt) (trimFail : Nat) : Nv :=
  v.putRecord 21 (trimFail % 2 ^ 32 + laneMask st.failSlots * 2 ^ 32 + st.reasons.1 * 2 ^ 36 + st.reasons.2 * 2 ^ 40)

/-- TRIM_FAIL as this start's record has it. -/
def Nv.trimFail (v : Nv) : Nat := ofLe (v.mram.readBytes (recordBase v.bootCount + 168) 4)

/-- A step begins: STEP, and its entry in progress (R528, R539). -/
def stepBegin (v : Nv) (d : Dev) (code : Nat) : Nv × Dev :=
  (v.putRecord code (stepEntry code 1 0 0 d.start.ms), (d.put F.SEC_BL_STAT_STEP 0 code))

/-- A step ends: its entry, BOOT_ALT or BOOT_FAIL, and the time goes on (R528, R535). -/
def stepEnd (v : Nv) (d : Dev) (code outcome way ms : Nat) : Nv × Dev :=
  let v := v.putRecord code (stepEntry code outcome way ms d.start.ms)
  let d := { d with start := { d.start with ms := d.start.ms + ms } }
  (v, if outcome = 4 ∨ outcome = 5 then d.secEvent F.SEC_EVT_BOOT_ALT code
    else if outcome = 3 then d.secEvent F.SEC_EVT_BOOT_FAIL code else d)

/-! Step MRAM (R446, R447, R485, R496, R517, R520). Its mask tells what does not check: bit 0 both copies of the signing
state, bit 1 both of the calibration commit record, bits 2 and 3 the owner key copies, bit 4 the fault snapshot, bit 5 both
of the retained store's commit record, bit 6 the copy in force and bit 7 the other copy of the calibration commit record. -/

/-- The calibration commit record whose copies are checked: the copy in force, or the other where only that one checks (R446,
R447). -/
def Nv.calChecked (v : Nv) (bad0 bad1 : Bool) : Nv :=
  let v := if bad1 then { v with calOther := none } else v
  if !bad0 then v
  else
    match v.calOther with
    | none => { v with calOk := false }
    | some r => { v with
        calSeq := r.seq, calCopy := 1 - v.calCopy, calSlots := r.slots, calFree := r.free, calOther := none }

/-- The checks of the calibration store. -/
def checkCal (v : Nv) (d : Dev) (lost : Bool) : Nv × Dev :=
  if lost then
    ({ v with
        calSeq := 1, calCopy := 0, calSlots := [], calFree := 32, calOk := true, calOther := none, epoch := v.epoch + 1 },
      d.hubEvent F.CAL_EVT_REC_LOST 0x68 2)
  else if v.calSlots.any (fun e => decide (e.2 ≤ 32) && !(slotOk v.mram e.2)) then (v, d.hubEvent F.CAL_EVT_SLOT_BAD 0x68 4)
  else (v, d)

/-- The checks of the owner key: a copy that does not match is rewritten from the other. -/
def checkOwner (f : Fuses) (v : Nv) (d : Dev) (bad0 bad1 : Bool) : Nv × Dev :=
  match f.ownerHash with
  | none => (v, d)
  | some h =>
    let ok0 := !bad0 && decide (Config.sha256 v.owner0 = h)
    let ok1 := !bad1 && decide (Config.sha256 v.owner1 = h)
    if ok0 then ({ v with owner1 := v.owner0 }, d.put F.SEC_LC_OWNER_LOADED 0 1)
    else if ok1 then ({ v with owner0 := v.owner1 }, d.put F.SEC_LC_OWNER_LOADED 0 1)
    else (v, d.secEvent F.SEC_EVT_OWNER_LOST 0)

/-- Step MRAM ends. -/
def mramStep (f : Fuses) (v : Nv) (d : Dev) (mask : Nat) : Nv × Dev :=
  let prev := recordWords v.mram v.bootCount
  let v := ({ v with bootCount := (v.bootCount + 1) % 2 ^ 32 } : Nv).writeHeader
  let v : Nv := { v.store (recordBase v.bootCount) (List.replicate 256 0) with
    cur := if bitOf mask 5 then none else v.cur
    sigOk := v.sigOk && !(bitOf mask 0)
    snap := if bitOf mask 4 then [] else v.snap }
  let v := v.putRecord 0 (v.bootCount + d.get F.SEC_BL_STAT_RESET_CAUSE 0 * 2 ^ 32)
  let v := d.start.early.foldl (fun v e => v.putRecord e.1 e.2) v
  let d := { d with start := { d.start with prev := prev } }
  let d := if v.sigOk then d else d.secEvent F.SEC_EVT_SIG_STATE v.sigNext
  let v := v.calChecked (bitOf mask 6) (bitOf mask 7)
  let x := checkCal v d (bitOf mask 1 || !v.calOk)
  let y := checkOwner f x.1 x.2 (bitOf mask 2) (bitOf mask 3)
  let v := y.1
  let d := (y.2.put F.CAL_STAT_REC_SEQ 0 (v.calSeq % 256)).put F.CAL_STAT_FREE_SLOT 0 v.calFree
  let d := (d.put F.CAL_STAT_REC_COPY 0 v.calCopy).put F.HUB_RPR_STAT_USED 0 v.rpr.length
  let d := (d.put F.HUB_RPR_STAT_TBL_COPY 0 v.rprCopy).put F.FLT_HQ_SNAP_VALID 0 (b2n (decide (v.snap ≠ [])))
  (v, d)

/-! IDENTITY, FETCH and HOST_WAIT (R519, R529, R530) -/

/-- Step IDENTITY ends: its outcome and WAY. A rebuild that failed is due again inside the next ATTEST, as a deferred one is
(R522). DEDUCED, log entry 34. -/
def identityStep (f : Fuses) (v : Nv) (d : Dev) (ok : Bool) : Nv × Dev × Nat × Nat :=
  let defer := decide (prevOutcome d.start.prev 6 = 3)
  let out := if defer then 4 else 2
  let way := b2n defer
  if !f.keyFused then (v, d, out, way)
  else if v.cacheOk then (v, d.put F.SEC_LC_IDENT_READY 0 1, out, way)
  else if defer then (v, { d with hub := { d.hub with rebuildDue := true } }, 4, 1)
  else if ok then
    ({ v with cacheOk := true, epoch := v.epoch + 1 },
      (d.put F.SEC_LC_IDENT_READY 0 1).secEvent F.SEC_EVT_KEY_CACHE v.sigNext, 2, 0)
  else (v, { d with hub := { d.hub with rebuildDue := true } }, 3, 0)

/-- The slots in the order of their headers: `mask` bit 0 says that slot 1 ranks first, bits 1 and 2 that the header of slot 0,
of slot 1, is invalid. -/
def headerOrder (mask : Nat) : List Nat :=
  if bitOf mask 1 && !(bitOf mask 2) then [1, 1]
  else if bitOf mask 2 && !(bitOf mask 1) then [0, 0]
  else if bitOf mask 0 then [1, 0] else [0, 1]

/-- The slots that FETCH tries and its WAY (R529). With no single slot to name, the headers rank. DEDUCED, log entry 34. -/
def fetchPlan (prev : List Nat) (hostStarts mask : Nat) : List Nat × Nat :=
  let fs := prevBits prev 21 33 32
  let alt := decide (fs ≠ 0) || decide (prevOutcome prev 12 = 3)
  let order := if fs = 1 then [1, 0] else if fs = 2 then [0, 1] else headerOrder mask
  if 2 ≤ hostStarts then ([], 4)
  else if hostStarts = 1 then (order.take 1, 3)
  else (order, b2n alt)

/-- Step FETCH begins: the first attempt. -/
def fetchBegin (v : Nv) (d : Dev) (mask : Nat) : Nv × Dev :=
  let p := fetchPlan d.start.prev v.hostStarts mask
  let x := stepBegin v { d with start := { d.start with order := p.1, way := p.2, tries := 0, fetched := false } } 7
  (x.1, match p.1 with
    | [] => x.2
    | n :: _ => x.2.startLoad { slot := none, source := n + 1 })

/-- Step HOST_WAIT begins: the monitor serves the operation table (R530). -/
def hostWaitBegin (v : Nv) (d : Dev) : Nv × Dev :=
  let x := stepBegin v { d with bus := { d.bus with monitor := true } } 8
  (x.1.setHostStarts (min 15 (v.hostStarts + 1)), x.2)

/-- LINE_ON begins once the hub has moved to a reference; until then the start holds (R525). -/
def lineOnBegin (v : Nv) (d : Dev) : Nv × Dev :=
  if d.hub.moved then stepBegin v { d with start := { d.start with holdRef := false } } 9
  else (v, { d with start := { d.start with holdRef := true } })

/-- Step FETCH ends, once its attempts have (R529). -/
def fetchEnd (v : Nv) (d : Dev) (ms : Nat) : Nv × Dev :=
  let st := d.start
  let v := v.putFails st v.trimFail
  if st.fetched then
    let way := if 0 < st.tries then 2 else st.way
    let x := stepEnd v d 7 (if way = 0 then 2 else 5) way ms
    lineOnBegin x.1 x.2
  else
    let x := stepEnd v d 7 (if st.way = 4 then 4 else 3) st.way ms
    hostWaitBegin x.1 x.2

/-! LINE_ON to WATCH (R525, R531) -/

/-- Step LINE_ON ends: supplies on, hub links up, every region held in reset with its detectors masked (R480). -/
def Dev.linesOn (d : Dev) : Dev :=
  let d := d.each (List.range 8) (fun d q => d.onRegion q (fun x => { x with masked := true }))
  (d.each (List.range 4) (fun d n =>
    (d.onDie n (fun _ => { on := true })).put F.DIE_INFO_LINK_UP n 1)).put F.HUB_TOPO_LINK_UP 0 15

/-- Cluster c has a valid set, so that it can skip its trim (R529). -/
def Nv.hasSet (v : Nv) (c : Nat) : Bool :=
  match v.slotOf c with
  | none => false
  | some sl => decide (validSets v.mram sl ≠ [])

/-- A cluster skips its trim: it starts on the interpolation of R445, or is trimmed without a valid set (R529). -/
def Dev.fgSkip (d : Dev) (v : Nv) (c : Nat) : Dev :=
  match v.slotOf c with
  | none => d.fgTrimmed v c
  | some sl =>
    let p := d.presentTemp c
    let t := p.1
    let d := p.2
    let vals := unitTrims.filterMap (fun k => (interpolate v.mram sl t k.1 k.2.1 k.2.2).map
      (fun x => (trimKey k.1 k.2.1 k.2.2, x)))
    if vals = [] then d.fgTrimmed v c
    else (d.put F.CL_CAL_STAT_STATE c 0).onCluster c (fun x => { x with
      trims := vals.foldl (fun m e => m.insert e.1 e.2) [], again := 0, adly := 0 })

/-- Step FG_TRIM begins: every cluster is trimmed but those that skip it (R465, R529). -/
def trimStepBegin (v : Nv) (d : Dev) : Nv × Dev :=
  let skip := prevBits d.start.prev 21 31 0
  stepBegin v (d.each (List.range 32) (fun d c => if bitOf skip c && v.hasSet c then d else d.fgBegin c)) 10

/-- Step FG_TRIM ends: `mask` holds TRIM_FAIL of the clusters trimmed; a cluster that skips its trim is not in it. DEDUCED, log
entry 34. -/
def trimStepEnd (v : Nv) (d : Dev) (r : StepEnd) : Nv × Dev :=
  let skip := prevBits d.start.prev 21 31 0
  let d := d.each (List.range 32) (fun d c => (if bitOf skip c then d.fgSkip v c else d.fgTrimmed v c).showPoints v c)
  let fails := (List.range 32).filter (fun c => bitOf r.mask.toNat c && !(bitOf skip c && v.hasSet c))
  let v := v.putFails d.start (laneMask fails)
  stepEnd v d 10 (if skip ≠ 0 then 5 else if r.ok then 2 else 3) (b2n (decide (skip ≠ 0))) r.ms

/-- The firmware of a load is in force (R282). -/
def Dev.takeFirmware (d : Dev) (l : LoadSt) : Dev :=
  { d with img := { d.img with
      fwHash := ((entryOf l.bytes 1).map (·.hash)).getD [], pageTable := (sectionOf l.bytes 1).take 4096
      fwSlot := l.source - 1, fwOff := ((entryOf l.bytes 1).map (·.off)).getD 0 } }

/-- Step APPLY ends: the package step, every region released at once, the ledger actions (R525, R531). -/
def applyStep (k : Keep) (d : Dev) (ms : Nat) : Nv × Dev :=
  let acts := prevUnits d.start.prev
  let x := match d.img.load with
    | none => (k.nv, d)
    | some l =>
      let c := commitImage k.nv d l
      let l' := (c.2.img.load).getD l
      (c.1, ((c.2.setLoad none).takeFirmware l').imgLast l' (b2n l'.bad) 0)
  let v := x.1
  let d := x.2.each (List.range 8) (fun d q => d.onRegion q (fun r => { r with inReset := true, unreleased := false }))
  let hold := bitOf d.img.pkgWord.toNat 1
  let k' : Keep := { k with nv := v }
  let d := d.each (List.range 8) (fun d q => if d.mayRelease q then d.releaseRegion k' q acts hold else d)
  let d := d.each (List.range 256) (fun d u => if (d.unit u).farFails = 0 then d else d.onUnit u (fun y => { y with farFails := 0 }))
  let y := stepEnd v d 11 (if acts = [] then 2 else 5) (b2n (decide (acts ≠ []))) ms
  let z := stepBegin y.1 y.2 12
  (z.1.putRecord 13 (stepEntry 13 1 0 0 z.2.start.ms), z.2)

/-- Step FW_START ends: the firmware runs, or its first page fails its check and the monitor runs (R282, R529). -/
def firmwareStep (v : Nv) (d : Dev) (r : StepEnd) : Nv × Dev :=
  if r.ok && !d.bus.monitor then
    let x := stepEnd v d.firmwareUp 12 2 0 r.ms
    (x.1, x.2.put F.SEC_BL_STAT_STEP 0 13)
  else
    let d := { d with
      bus := { d.bus with monitor := true }
      start := { d.start with failSlots := if d.img.fwSlot < 2 then (d.img.fwSlot :: d.start.failSlots).eraseDups else d.start.failSlots } }
    let d := d.hubEvent F.HUB_IMG_LAST_FW_INTEG 0x65 0
    let x := stepEnd (v.putFails d.start v.trimFail) d 12 3 0 r.ms
    (x.1, x.2.put F.SEC_BL_STAT_STEP 0 13)

/-- A start waits before LINE_ON, or its step ends and the next begins. -/
def startStep (k : Keep) (d : Dev) (r : StepEnd) : Nv × Dev :=
  let v := k.nv
  let early (d : Dev) (code next : Nat) : Dev :=
    ({ d with start := { d.start with
      early := d.start.early ++ [(code, stepEntry code 2 0 r.ms d.start.ms)], ms := d.start.ms + r.ms } } : Dev).put
        F.SEC_BL_STAT_STEP 0 next
  let step := d.get F.SEC_BL_STAT_STEP 0
  if d.start.holdRef then lineOnBegin v d
  else if step = 1 then
    (v, if r.ok then early d 1 2 else { d with start := { d.start with halted := true } })
  else if step = 2 then (v, early { d with port := { d.port with answers := true } } 2 3)
  else if step = 3 then
    let x := mramStep k.fuses v d r.mask.toNat
    let y := stepEnd x.1 x.2 3 (if r.ok then 2 else 3) 0 r.ms
    stepBegin y.1 y.2 4
  else if step = 4 then
    let y := stepEnd v d 4 (if r.ok then 2 else 3) 0 r.ms
    stepBegin y.1 y.2 5
  else if step = 5 then
    let late := decide (53 < d.start.ms + r.ms)
    let y := stepEnd v d 5 (if d.hub.moved then (if late then 6 else 2) else 3) 0 r.ms
    stepBegin y.1 y.2 6
  else if step = 6 then
    let x := identityStep k.fuses v d r.ok
    let y := stepEnd x.1 x.2.1 6 x.2.2.1 x.2.2.2 r.ms
    fetchBegin y.1 y.2 r.mask.toNat
  else if step = 7 then
    (if d.img.load.isSome && !d.start.fetched then (v, d) else fetchEnd v d r.ms)
  else if step = 8 then
    (if d.start.fetched then
      let y := stepEnd v { d with bus := { d.bus with monitor := false } } 8 6 0 r.ms
      lineOnBegin y.1 y.2
    else (v, d))
  else if step = 9 then
    let y := stepEnd v d.linesOn 9 (if r.ok then 2 else 3) 0 r.ms
    trimStepBegin y.1 y.2
  else if step = 10 then
    let y := trimStepEnd v d r
    stepBegin y.1 y.2 11
  else if step = 11 then applyStep k d r.ms
  else if step = 12 then firmwareStep v d r
  else (v, d)

/-- START_STEP_DONE: a step of the start ends and the next begins (R525 to R531). A start that has not begun, has halted in
FUSE or has no such step does nothing. -/
def execStartStepDone (r : StepEnd) (s : State) : Host.Outcome State Fault Refusal :=
  s.actNv (fun f v d =>
    if d.start.begun && !d.start.halted then startStep { fuses := f, nv := v } d r else (v, d))

/-- WATCH_END: the units to act on in the next start are recorded (R531). -/
def execWatchEnd (s : State) : Host.Outcome State Fault Refusal :=
  s.actNv (fun _ v d =>
    if d.start.begun && decide (d.get F.SEC_BL_STAT_STEP 0 = 13) then
      let rec? (u : Nat) : Bool := (!(d.unitUp u) && decide (3 ≤ (d.unit u).farFails)) ||
        (d.start.heldUnits.contains u && !(d.is F.LU_BU_CTRL_EN u))
      let word (i : Nat) : Nat := laneMask ((List.range 64).filter (fun j => rec? (64 * i + j)))
      let v := (List.range 4).foldl (fun v i => v.putRecord (17 + i) (word i)) v
      let at' := ofLe (v.mram.readBytes (recordBase v.bootCount + 108) 4)
      (v.putRecord 13 (stepEntry 13 2 0 30000 at'), d.put F.SEC_BL_STAT_STEP 0 0)
    else (v, d))

end Sys2Proof.Machine
end

