-- ==== Sys2Proof/Machine/Optable.lean ====
section
/-! DEFINITION. The operation table at work: entries start, end, time out, report, are read and cancelled; STANDBY (R375 to
R381, R390 to R392, R423, R424). -/

namespace Sys2Proof.Machine

/-! STANDBY -/

/-- Shows the step of a STANDBY entry or exit. -/
def Dev.standbyStep (d : Dev) (n : Nat) : Dev :=
  ({ d with hub := { d.hub with sbStep := n } } : Dev).onEntry d.hub.sbSlot (fun e => { e with stepNo := n })

/-- Why a STANDBY operation fails at its start (R423), the first of the codes that holds; 0: it does not. -/
def Dev.standbyRefusal (d : Dev) (enter : Bool) : Nat :=
  let st := d.get F.PWR_PKG_STATE 0
  if enter then
    (if bitOf (((d.img.pwrWords[0]?).getD 0).toNat) 0 = false then 1 else if st ≠ 0 then 3 else 0)
  else if d.fallback ∨ d.get (refSt d.activeRef) 0 ≠ 2 then 2 else if st ≠ 2 then 3 else 0

/-- STANDBY starts: step 1 takes the ports down and the line transmitters to zero, step 4 begins an exit (R424). -/
def Dev.standbyStart (d : Dev) (slot : Nat) (enter : Bool) : Dev :=
  let r := d.standbyRefusal enter
  if r ≠ 0 then d.complete slot 1 (BitVec.ofNat 32 r)
  else
    let d := { d with hub := { d.hub with sbSlot := slot, sbFailed := [], sbDone := [] } }
    if enter then
      let d := d.each (List.range 256) Dev.portFail
      let d := d.each (d.units.map (·.1)) (fun d u => d.onUnit u (fun x => { x with tx := .zero, txWant := none, lineOut := none }))
      (d.put F.PWR_PKG_STATE 0 1).gateCheck.standbyStep 1
    else (d.put F.PWR_PKG_STATE 0 3).gateCheck.standbyStep 4

/-- The shadow of a cluster's trims is cleared (R440). -/
def Dev.trimsLost (d : Dev) (c : Nat) : Dev :=
  d.onCluster c (fun x => { x with trims := [], again := 0, adly := 0, temp := none })

/-- Step 2 of R424 begins: REGION_LIVE and LINK_UP clear, hub links closed, supplies off; trims are lost (R440). -/
def Dev.linesOff (d : Dev) : Dev :=
  let d := (d.each (List.range 8) (fun d q => d.regionDown q 11)).each (List.range 32) Dev.trimsLost
  let d := d.each (List.range 4) (fun d n =>
    (d.clearRange (blkBase .die n) (blkBase .die n + 0x8000)).onDie n (fun _ => {}))
  d.put F.HUB_TOPO_LINK_UP 0 0

/-- STANDBY is reached or left: PWR_PKG_STATE shows it, gates follow (R406), the operation completes; its entry keeps the step. -/
def Dev.standbyEnd (d : Dev) (st stepNo result detail : Nat) : Dev :=
  let d := (d.put F.PWR_PKG_STATE 0 st).gateCheck.standbyStep stepNo
  ({ d with hub := { d.hub with sbStep := 0, sbDone := [] } } : Dev).complete d.hub.sbSlot result (BitVec.ofNat 32 detail)

/-- Every region has taken its step of the exit, or none comes for it (R424). -/
def Dev.exitDone (d : Dev) : Bool := (List.range 8).all (fun q => d.hub.sbDone.contains q || d.exitSkips q)

/-- A step of STANDBY ends and the next begins. In STANDBY the calibration scheduler is off: a posted write that waits is lost (R353).
Step 5 zeroes the deskew buffers with the other arrays, which the regions' resets zero (R25). Step 7 ends when the last region has
settled, with DETAIL 4 where a class B fault ended a region step (R423). -/
def Dev.standbyNext (d : Dev) (k : Keep) : Dev :=
  let n := d.hub.sbStep
  if n = 1 then d.linesOff.standbyStep 2
  else if n = 2 then ({ d.postLost with bus := { d.postLost.bus with pages := [], lru := [] } } : Dev).standbyEnd 2 3 0 0
  else if n = 4 then d.linesOn.standbyStep 5
  else if n = 5 then ((d.mend (fun p => decide (p / 2 ^ 28 = 0))).each (List.range 32) Dev.fgBegin).standbyStep 6
  else if n = 6 then (d.each (List.range 32) (fun d c => d.fgTrimmed k.nv c)).standbyStep 7
  else if n = 7 ∧ d.exitDone = true then
    (if d.hub.sbFailed = [] then d.standbyEnd 0 8 0 0 else d.standbyEnd 0 8 1 4)
  else d

/-- STANDBY_STEP_DONE (R424). -/
def execStandbyStepDone (s : State) : Host.Outcome State Fault Refusal := s.actK (fun k d => d.standbyNext k)

/-! The start of an entry -/

/-- The units of a unit or port target. -/
def Dev.targetUnits (d : Dev) (t : Target) : List Nat :=
  match t with
  | .unit u => [u.val]
  | .port p => d.portUnits p
  | .cluster c => unitsOf c
  | .region q => unitsOfRegion q
  | .package => []

/-- COLD: FORCE_COLD and RETRAIN on each unit that can be mapped (R264, R265). -/
def Dev.coldStart (d : Dev) (us : List Nat) : Dev :=
  d.each us (fun d u => if d.diagAway u then d else (d.put F.LU_RB_CTRL_FORCE_COLD u 1).retrainUnit u)

/-- A diagnostic run starts in its cluster (R264, R265). -/
def Dev.diagStart (d : Dev) (slot : Nat) (e : OpEntry) : Dev :=
  let c := targetCluster e.target
  let ls := targetLanes e.target
  let run (mode : Nat) (todo : List Nat) : DiagSt := { slot := slot, mode := mode, lane := (ls.head?).getD 0, todo := todo }
  let on (d : Dev) (r : DiagSt) : Dev := d.onCluster c (fun x => { x with diag := some r })
  if e.arg % 4 = 2 then d.sweepNext c (run 3 []) ls
  else if e.arg % 4 = 1 then on d (run 2 ls.tail)
  else on (d.coldStart (ls.map (fun l => 8 * c + l))) (run 4 ls)

/-- A margin scan starts, or waits for the spare receive channel behind those that wait already (R255, R256). -/
def Dev.scanStart (d : Dev) (slot : Nat) (e : OpEntry) : Dev :=
  let c := targetCluster e.target
  let ls := targetLanes e.target
  let a := e.arg
  let s : ScanSt := { slot := slot, lane := (ls.head?).getD 0, todo := ls, mode := a % 4, dw := a / 4 % 32, target := a / 256 % 256 }
  let d := d.onCluster c (fun x => { x with scanWait := x.scanWait ++ [s] })
  if (d.cluster c).scan.isSome || (d.cluster c).cal.isSome then d else d.channelFree c

/-- What an entry does at its start (R377); it opens the gate of the hub block it needs (R406). Actions that take time end at
ENTRY_DONE, or by their own commands. -/
def Dev.beginAction (d : Dev) (k : Keep) (slot : Nat) (e : OpEntry) : Dev :=
  let op := e.opcode
  if op = 0x01 ∨ op = 0x02 ∨ op = 0x03 then d.each (d.targetUnits e.target) Dev.wakeUnit
  else if op = 0x08 then d.diagStart slot e
  else if op = 0x09 then d.scanStart slot e
  else if op = 0x0A then d.calOp (targetCluster e.target) slot (decide (e.arg % 2 = 1))
  else if op = 0x10 then
    (if testPermitted k.fuses.state (e.arg % 16) d.img.pkgWord then (d.ungate 1).testBegin slot e else d.complete slot 1 0)
  else if op = 0x18 then ((d.ungate 0).ungate 3).startLoad { slot := some slot, source := e.arg % 4, force := bitOf e.arg 4 }
  else if op = 0x1A then
    ((d.ungate 0).put F.SEC_LC_LC_BUSY 0 1).onEntry slot (fun e => { e with args := e.args ++ d.staged })
  else if op = 0x1C then
    match e.target with
    | .region q =>
      (((d.regionDown q 11).putBit F.FLT_STAT_RG_HELD 0 q false).onRegion q (fun x => { x with step := 0, again := false })).requeue
    | _ => d
  else if op = 0x1E then d.standbyStart slot (decide (e.arg % 2 = 1))
  else if op = 0x19 then d.ungate 0
  else d

/-- ENTRY_START: the entry of a slot starts, is HELD, or goes back to QUEUED, as R375 and R376 allow. -/
def execEntryStart (slot : Fin 1024) (s : State) : Host.Outcome State Fault Refusal :=
  s.actK (fun k d =>
    match d.entry slot with
    | none => d
    | some e =>
      if !(decide (e.state = .queued ∨ e.state = .held)) then d
      else
        let ready := d.mayStart e
        if d.heldBack e then (if ready then d.setEntry slot { e with state := .held } else d)
        else if ready then
          let r : OpEntry := { e with state := .running, startedAt := some d.time }
          (d.setEntry slot r).beginAction k slot r
        else d.setEntry slot { e with state := .queued })

/-! The end of an entry -/

/-- Completes a multi-unit operation over lanes that were done of those asked. -/
def Dev.completeLanes (d : Dev) (slot : Nat) (asked done : List Nat) : Dev :=
  d.complete slot (multiResult (asked.length - done.length) asked.length) (BitVec.ofNat 32 (laneMask (done.map (· % 8))))

/-- PORT_UP and PORT_DOWN act on their units (R174, R377); a port that the image has since taken away gives no result. -/
def Dev.portAction (d : Dev) (slot : Nat) (p : Nat) (up : Bool) : Dev :=
  if !(d.isPort p) then d.complete slot 1 0
  else
    let us := d.portUnits p
    let ok := us.filter (fun u => !(d.off .lu u 0) && !(d.tst .lu u))
    (d.each ok (fun d u => d.setEn u up)).completeLanes slot us ok

/-- RETRAIN acts on its units: FORCE_COLD if asked on every unit that answers, an attempt on those with EN = 1 (R124, R207, R377). -/
def Dev.retrainAction (d : Dev) (slot : Nat) (t : Target) (cold : Bool) : Dev :=
  let us := d.targetUnits t
  let there := us.filter (fun u => d.live u && !((d.die (u / 64)).lost))
  let ok := there.filter (fun u => d.is F.LU_BU_CTRL_EN u)
  (d.each there (fun d u => (if cold then d.put F.LU_RB_CTRL_FORCE_COLD u 1 else d).retrainUnit u)).completeLanes slot us ok

/-- DETAIL of RGN_RESET: the clusters whose UP ports are all up (R377). -/
def Dev.upClusters (d : Dev) (k : Keep) (q : Nat) : Nat :=
  let up := match k.nv.bank.regions.find q with
    | some s => (wordAt s.2 9).toNat
    | none => 0
  laneMask ((List.range 4).filter (fun i => (List.range 8).all (fun l =>
    !(bitOf up (8 * i + l)) || d.portUp (8 * (4 * q + i) + l))))

/-- ENTRY_DONE: the action of a running entry ends (R377, R379). `fails`: the failing elements of a self-test, or that a fuse or
the key cache failed. Entries that end by their own commands go on. -/
def execEntryDone (slot : Fin 1024) (fails : List Failing) (s : State) : Host.Outcome State Fault Refusal :=
  s.actAll (fun k d =>
    match d.entry slot with
    | none => (k, d)
    | some e =>
      let op := e.opcode
      if e.state ≠ .running ∨ e.asleep = true then (k, d)
      else if op = 0x00 then (k, d.complete slot 0 0)
      else if op = 0x01 ∨ op = 0x02 then
        match e.target with
        | .port p => (k, d.portAction slot p (decide (op = 0x01)))
        | _ => (k, d)
      else if op = 0x03 then (k, d.retrainAction slot e.target (decide (e.arg % 2 = 1)))
      else if op = 0x08 then (k, d.diagEnd (targetCluster e.target) slot e)
      else if op = 0x10 then testEnd k d slot (e.arg % 16) e.target fails
      else if op = 0x19 then attest k d slot (e.args.take 4) (decide (fails ≠ []))
      else if op = 0x1A then lcChange k d slot (e.arg % 4) (bytesOf (e.args.drop 4)) (decide (fails ≠ []))
      else if op = 0x1C then
        match e.target with
        | .region q => (k, d.complete slot 0 (BitVec.ofNat 32 (d.upClusters k q)))
        | _ => (k, d)
      else if op = 0x1D then (k, d.fresh 2)
      else (k, d))

/-! Cancelling and limits (R378, R381) -/

/-- A load that has not committed stops and changes nothing (R381). -/
def Dev.loadStops (d : Dev) (slot : Nat) : Bool :=
  match d.img.load with
  | some l => decide (l.slot = some slot) && !l.committed
  | none => false

/-- A CAL entry is ended: the run it made is abandoned; one that only follows a run leaves it (R381, R458, R459). -/
def Dev.calStop (d : Dev) (slot result : Nat) (e : OpEntry) : Dev :=
  let c := targetCluster e.target
  let d := d.complete slot result 9
  match (d.cluster c).cal with
  | some r =>
    if r.slot = some slot then d.calAbandon c 9
    else d.onCluster c (fun x => { x with cal := some { r with followers := r.followers.filter (· ≠ slot) } })
  | none => d

/-- A scan that waits for the spare receive channel has no unit in progress: it ends at once (R381). -/
def Dev.scanStop (d : Dev) (slot : Nat) (e : OpEntry) : Dev :=
  let c := targetCluster e.target
  if (d.cluster c).scanWait.any (fun s => decide (s.slot = slot)) then
    (d.onCluster c (fun x => { x with scanWait := x.scanWait.filter (fun s => decide (s.slot ≠ slot)) })).endMulti slot
      (targetLanes e.target).length
  else d

/-- Stops a running entry that can be cancelled, with CANCELLED or TIMEOUT; whether it can be. -/
def Dev.stopEntry (d : Dev) (slot : Nat) (e : OpEntry) (late : Bool) : Bool × Dev :=
  let result := if late then 4 else 2
  if e.opcode = 0x08 ∨ e.opcode = 0x09 then
    let e' : OpEntry := { e with cancel := true, late := late }
    let d := d.setEntry slot e'
    (true, if e.opcode = 0x09 then d.scanStop slot e' else d)
  else if e.opcode = 0x0A then (true, d.calStop slot result e)
  else if e.opcode = 0x18 ∧ d.loadStops slot = true then (true, (d.setLoad none).complete slot result d.lastWord)
  else (false, d)

/-- The limit of an opcode in ms, from the start of its entry (R377); PKG_RESET has none. -/
def opLimit (op : Nat) : Nat :=
  if op = 0x00 then 1 else if op ≤ 0x03 then 5 else if op = 0x09 then 400000 else if op = 0x0A ∨ op = 0x10 then 60000
  else if op = 0x18 then 10000 else if op = 0x1A then 1000 else if op = 0x1C then 10 else 5000

/-- A running entry is past its limit. -/
def Dev.pastLimit (d : Dev) (e : OpEntry) : Bool := e.startedAt.any (fun t => decide (t + opLimit e.opcode * 390625 < d.time))

/-- ENTRY_TIMEOUT: a running entry has run past its limit (R377, R378): TIMEOUT and a class D event. An action that cannot be
cancelled is built to finish within its limit. -/
def execEntryTimeout (slot : Fin 1024) (s : State) : Host.Outcome State Fault Refusal :=
  s.act (fun d =>
    match d.entry slot with
    | none => d
    | some e =>
      if e.state ≠ .running ∨ d.pastLimit e = false then d
      else
        let r := d.stopEntry slot e true
        if r.1 then r.2.raise ⟨0x63, .package 0, 0, 0⟩ else d)

/-- A handle written to OPT_CPL_CANCEL (R371, R381, R382). -/
def Dev.cancel (d : Dev) (h : Nat) : Dev :=
  let slot := h % 1024
  let last (d : Dev) (n : Nat) : Dev := d.put F.OPT_STAT_LAST_CANCEL 0 n
  match d.entry slot with
  | none => (last d 3).refuse
  | some e =>
    if e.handle ≠ h then (last d 3).refuse
    else match e.state with
      | .done => last d 2
      | .queued | .held => last (d.complete slot 2 0) 1
      | .running =>
        let r := d.stopEntry slot e false
        if r.1 then last r.2 1 else last d 2

def execOptCplCancel (handle : BitVec 16) (s : State) : Host.Outcome State Fault Refusal :=
  s.act (fun d => if d.servesTable then d.cancel handle.toNat else d.refuse)

/-- OPT_CPL_LO as it reads (R380, R390). -/
def Dev.cplWord (d : Dev) (n : Nat) : Word :=
  match d.opt.cpl[n]? with
  | none => 0
  | some s =>
    match d.entry s with
    | none => 0
    | some e => BitVec.ofNat 32 (e.handle * 2 ^ 16 + e.result * 2 ^ 12 + e.opcode)

/-- DETAIL of the head completion. -/
def Dev.cplDetail (d : Dev) (n : Nat) : Word :=
  match d.opt.cpl[n]? with
  | none => 0
  | some s => ((d.entry s).map (·.detail)).getD 0

/-- A committed read of OPT_CPL_LO (R380): the head is removed, its DETAIL latched, its entry freed. -/
def Dev.readCpl (d : Dev) : Dev :=
  let w := d.cplDetail 0
  ({ d with opt := d.opt.popCpl } : Dev).setWord (F.OPT_CPL_HI_DETAIL.addr 0) w

def execOptCplLo (s : State) : Host.Outcome State Fault Refusal := s.act (fun d => if d.servesTable then d.readCpl else d)

/-- PROGRESS_UPDATE: a running entry reports (R378, R383). A margin scan and a SWEEP or SNAP show the lanes done and the lane in
progress, a STANDBY operation its step. A package memory test goes on to the step reported (R495), a SNAP to the lane (R264). -/
def execProgressUpdate (slot : Fin 1024) (progress stepNo : BitVec 8) (s : State) : Host.Outcome State Fault Refusal :=
  s.act (fun d =>
    match d.entry slot with
    | none => d
    | some e =>
      if e.state ≠ .running ∨ e.asleep = true then d
      else
        let lanes := decide (e.opcode = 0x09 ∨ (e.opcode = 0x08 ∧ e.arg % 4 ≠ 3))
        let own := lanes || decide (e.opcode = 0x08 ∨ e.opcode = 0x1E)
        let d := d.setEntry slot { e with
          progress := if lanes then e.progress else progress.toNat, stepNo := if own then e.stepNo else stepNo.toNat }
        if e.opcode = 0x10 ∧ e.arg % 16 = 1 ∧ e.target = .package then d.testStep stepNo.toNat
        else if e.opcode = 0x08 then d.snapStep (targetCluster e.target) slot stepNo.toNat
        else d)

end Sys2Proof.Machine
end

