-- ==== Sys2Proof/Machine/Pins.lean ====
section
/-! DEFINITION. The connector sites and the TAP (R547, R548, R562 to R564). -/

namespace Sys2Proof.Machine

/-- PLUG_CHANGE: a plug is mated or unmated, straight or rotated (R547, R548). What the link sees of it comes at its
receivers. -/
def execPlugChange (c : ClusterId) (mated rotated : Bool) (s : State) : Host.Outcome State Fault Refusal :=
  s.act (fun d => d.onCluster c (fun x => { x with mated := mated, rotated := mated && rotated }))

/-- An instruction is updated (R562, R564). `takes`: it is one that takes the pins; it does so only while RESET_N is low, with
the line-die supplies on, and behaves as BYPASS otherwise. A package that waits for Test-Logic-Reset goes on waiting. -/
def Dev.tapUpdate (d : Dev) (op : Nat) (takes : Bool) : Dev :=
  let held := d.hub.pinsTaken && !d.hub.resetLow
  let taken := held || (takes && d.hub.resetLow)
  let d := { d with hub := { d.hub with tapIr := op, pinsTaken := taken } }
  d.each (List.range 4) (fun d n => if (d.die n).on = taken then d else
    if d.start.begun then d else d.onDie n (fun x => { x with on := taken }))

/-- The instruction whose behaviour the TAP has: one that takes the pins is BYPASS unless it has them (R564). -/
def Dev.tapActs (d : Dev) : Nat :=
  let op := d.hub.tapIr
  if op = 0x01 ∨ op = 0x02 then op
  else if (op = 0x00 ∨ op = 0x05 ∨ op = 0x06 ∨ op = 0x08 ∨ op = 0x09) ∧ d.hub.pinsTaken then op
  else 0xFF

/-- The identification register (R562): version, part, manufacturer, 1. -/
def idcodeWord (f : Fuses) : Word := BitVec.ofNat 32 (f.stepping.toNat / 16 * 2 ^ 28 + 0x2560 * 2 ^ 12 + 0x4E5 * 2 + 1)

/-- What the update latches take of the bits shifted in: straps, inputs, test receivers and references are observe-only (R306,
R563). -/
def drivingCells (b : Boundary) : Boundary := { b with port := b.port &&& 0x01FFD, hrx := 0, lineRx := 0, refs := 0 }

/-- The scan that follows the update of a boundary instruction: the cells capture what they meet, the update latches take what was
shifted in. An instruction that behaves as BYPASS leaves the boundary register alone (R563, R564). Which cell of a row is which is
log entry 64. -/
def Dev.boundaryScan (d : Dev) (x : BoundaryScan) : Dev :=
  let op := d.tapActs
  if op = 0x00 ∨ op = 0x01 ∨ op = 0x08 ∨ op = 0x09 then
    { d with hub := { d.hub with bsCap := x.pins, bsUpd := drivingCells x.data } }
  else d

/-- What the boundary register drives: nothing while the pins are under functional control or at high impedance (R562, R564). -/
def Dev.boundaryDrives (d : Dev) : Option Boundary :=
  if d.hub.pinsTaken && decide (d.tapActs ≠ 0x06) then some d.hub.bsUpd else none

def execExtest (x : BoundaryScan) (s : State) : Host.Outcome State Fault Refusal :=
  s.act (fun d => (d.tapUpdate 0x00 true).boundaryScan x)
def execSamplePreload (x : BoundaryScan) (s : State) : Host.Outcome State Fault Refusal :=
  s.act (fun d => (d.tapUpdate 0x01 false).boundaryScan x)
def execIdcode (s : State) : Host.Outcome State Fault Refusal := s.act (fun d => d.tapUpdate 0x02 false)
def execClamp (s : State) : Host.Outcome State Fault Refusal := s.act (fun d => d.tapUpdate 0x05 true)
def execHighz (s : State) : Host.Outcome State Fault Refusal := s.act (fun d => d.tapUpdate 0x06 true)
def execExtestPulse (x : BoundaryScan) (s : State) : Host.Outcome State Fault Refusal :=
  s.act (fun d => (d.tapUpdate 0x08 true).boundaryScan x)
def execExtestTrain (x : BoundaryScan) (s : State) : Host.Outcome State Fault Refusal :=
  s.act (fun d => (d.tapUpdate 0x09 true).boundaryScan x)
def execBypass (s : State) : Host.Outcome State Fault Refusal := s.act (fun d => d.tapUpdate 0xFF false)

/-- TEST_LOGIC_RESET: IDCODE is loaded; a package that waited for it switches the line-die supplies off and starts; a start in
progress goes on (R562, R564). -/
def execTestLogicReset (s : State) : Host.Outcome State Fault Refusal :=
  s.act (fun d =>
    let took := d.hub.pinsTaken
    let d := { d with hub := { d.hub with tapIr := 2, pinsTaken := false } }
    if took then
      let d := d.each (List.range 4) (fun d n => d.onDie n (fun x => { x with on := false }))
      if d.hub.resetLow then d else { d with start := { d.start with begun := true } }
    else d)

end Sys2Proof.Machine
end

