-- ==== Sys2Proof/Machine/RegPort.lean ====
section
/-! DEFINITION. The register file as the management port and the controller see it: which addresses answer, what a read
returns, what a committed read and a committed write do (R13 to R18, R46 to R49, R349 to R362, R526). -/

namespace Sys2Proof.Machine

/-! Which addresses answer -/

/-- The gated hub block that an address of the hub range needs (R406). -/
def gateOf (a : Nat) : Option Nat :=
  if 0x50000 ≤ a ∧ a < 0x60000 then some 0
  else if 0x300 ≤ a ∧ a < 0x308 ∨ 0x4000 ≤ a ∧ a < 0x4200 then some 1
  else if 0x60000 ≤ a ∧ a < 0x70000 then some 2
  else none

/-- Until HUB_MBIST has ended, only part of the hub range answers (R526). -/
def Dev.portOpen (d : Dev) (a : Nat) : Bool :=
  d.servesTable || decide (a < 0x1000) || decide (0x10000 ≤ a ∧ a < 0x20000) || decide (0x50000 ≤ a ∧ a < 0x60000)

/-- The OFF bit of a status byte for an address (R17, R18, R323, R406, R407, R526). -/
def Dev.offAt (d : Dev) (a : Nat) : Bool :=
  !(d.portOpen a) ||
  match locate a with
  | some (.hub, _, _) => d.inStandby && decide (gateOf a = some 1 ∨ gateOf a = some 2)
  | some (b, i, off) => d.off b i off
  | none => false

/-- The TST bit of a status byte for an address (R18, R494). -/
def Dev.tstAt (d : Dev) (a : Nat) : Bool :=
  match locate a with
  | some (b, i, _) => d.tst b i
  | none => false

/-- An access opens the gate of the hub block that it needs (R360, R406). -/
def Dev.openGate (d : Dev) (a : Nat) : Dev :=
  match gateOf a with
  | none => d
  | some g => d.ungate g

/-- ADDR_ERR: an access to an address that no register has (R14, R324, R342). -/
def Dev.addrErr (d : Dev) : Dev := d.put F.HUB_MP_EVT_ADDR_ERR 0 1

/-! Reads -/

/-- The register at an address holds anything but 0. -/
def Dev.pendingAt (d : Dev) (f : Fld) : Nat := b2n (decide (d.word (f.addr 0) ≠ 0))

/-- HUB_ALERT_STAT: levels that their sources hold (R367). -/
def Dev.alertStat (d : Dev) : Nat :=
  b2n (decide (d.opt.cpl ≠ [])) + 2 * b2n (decide (d.get F.FLT_ALERT_PENDING 0 ≠ 0)) + 4 * d.pendingAt F.CLK_EVT_RETURN +
    8 * d.pendingAt F.SEC_EVT_IMG_REFUSED + 16 * d.pendingAt F.HUB_REG_EVT_LKV_STICKY + 32 * d.pendingAt F.HUB_MP_EVT_ADDR_ERR

/-- ALRT and ALERT_N (R336, R367). -/
def Dev.alert (d : Dev) : Bool :=
  decide (BitVec.ofNat 32 d.alertStat &&& d.word (F.HUB_ALERT_EN_EN.addr 0) ≠ 0)

/-- The controller executes from flash: the firmware that runs came from a slot (R334, R341). A load changes that only at its
firmware switch (R282, R335). -/
def Dev.fromFlash (d : Dev) : Bool := d.bus.firmware && decide (d.img.fwSlot < 2)

/-- HUB_MP_STAT (R341). The model's accesses are whole, so none is in progress when it is read and MASTER reads 0. -/
def Dev.mpStat (d : Dev) : Word :=
  let valid := (d.bus.pages.filter (fun e => decide (e.1 < 8))).foldl (fun n e => setBit n e.1 true) 0
  BitVec.ofNat 32 (d.get F.HUB_MP_STAT_CONT0 0 * 2 ^ 24 + valid * 2 ^ 16 + b2n d.fromFlash * 2 ^ 15 + b2n d.fallback * 2 ^ 13 +
    min (if d.bus.burst then d.bus.yields else if d.bus.ctl then d.bus.ctlYields else d.bus.pageYields) 15 * 2 ^ 8)

/-- OPT_STAT (R391). -/
def Dev.optStat (d : Dev) : Word :=
  BitVec.ofNat 32 (d.opt.countState .running * 2 ^ 25 + d.opt.entries.length * 2 ^ 14 +
    d.get F.OPT_STAT_LAST_CANCEL 0 * 2 ^ 12 + d.opt.cpl.length)

/-- STATE of an entry (R375, R383). -/
def opStateCode : OpState → Nat
  | .queued => 1
  | .held => 2
  | .running => 3
  | .done => 4

/-- The four words of entry s of the operation table; a FREE slot reads 0 (R383). -/
def Dev.entryWords (d : Dev) (s : Nat) : List Word :=
  match d.entry s with
  | none => [0, 0, 0, 0]
  | some e =>
    let done := decide (e.state = .done)
    [BitVec.ofNat 32 (e.handle * 2 ^ 16 + opStateCode e.state * 2 ^ 12 + (if done then e.result else 0) * 2 ^ 8 + e.opcode),
      e.posted,
      BitVec.ofNat 32 ((if done then 255 else e.progress) * 2 ^ 24 + e.stepNo * 2 ^ 16 +
        (if done then e.elapsed else d.elapsedOf e)),
      if done then e.detail else 0]

/-- The words that follow a latching word, and the key of their shadow; none: the address latches nothing (R15, R352, R383,
R505, R509). -/
def Dev.latched (d : Dev) (a : Nat) : Option (Nat × List Word) :=
  if a = 0x30048 ∨ a = 0x30050 ∨ a = 0x30058 then some (a, [d.word (a + 4)])
  else if 0x4000 ≤ a ∧ a < 0x4200 ∧ a % 8 = 0 then some (0x4000, [d.word (a + 4)])
  else if 0x31000 ≤ a ∧ a < 0x31800 ∧ a % 32 = 0 then some (0x31000, (d.histEntry ((a - 0x31000) / 32)).tail)
  else if 0x44000 ≤ a ∧ a < 0x48000 ∧ a % 16 = 0 then some (0x44000, (d.entryWords ((a - 0x44000) / 16)).tail)
  else match locate a with
    | some (.lu, _, off) => if 0x400 ≤ off ∧ off < 0x500 ∧ off % 8 = 0 then some (a, [d.word (a + 4)]) else none
    | _ => none

/-- The shadow that serves an address, and the place in it; none: the address is not read through a shadow. -/
def shadowOf (a : Nat) : Option (Nat × Nat) :=
  if a = 0x3004C ∨ a = 0x30054 ∨ a = 0x3005C then some (a - 4, 0)
  else if 0x4000 ≤ a ∧ a < 0x4200 ∧ a % 8 = 4 then some (0x4000, 0)
  else if 0x31000 ≤ a ∧ a < 0x31800 ∧ a % 32 ≠ 0 then some (0x31000, a % 32 / 4 - 1)
  else if 0x44000 ≤ a ∧ a < 0x48000 ∧ a % 16 ≠ 0 then some (0x44000, a % 16 / 4 - 1)
  else match locate a with
    | some (.lu, _, off) => if 0x400 ≤ off ∧ off < 0x500 ∧ off % 8 = 4 then some (a - 4, 0) else none
    | _ => none

/-- Word i of the MRAM window (R47, R524): the ledger and the calibration slots are bytes, signing state and keys read 0, the
structures whose layout the spec does not give are free (log entry 3). -/
def Nv.windowWord (v : Nv) (o : Nat) : Word :=
  if 0x3A000 ≤ o then 0
  else if 0x14000 ≤ o ∧ o < 0x35000 ∨ 0x38000 ≤ o then wordLe (v.mram.readBytes o 4)
  else Config.mramWord v.epoch o

/-- SEC_LC (R534): the life cycle and what the fuses and the MRAM say of the keys. -/
def secLc (k : Keep) (d : Dev) : Word :=
  (d.word (F.SEC_LC_LC.addr 0) &&& 0x7F64) |||
    BitVec.ofNat 32 (k.nv.arbMin * 2 ^ 24 + b2n (!k.nv.sigOk) * 2 ^ 7 + b2n k.fuses.ownerHash.isSome * 2 ^ 4 +
      b2n k.fuses.keyFused * 2 ^ 3 + k.fuses.state)

/-- What a hub register reads as: what it holds, or what hardware reports there. -/
def Dev.hubView (d : Dev) (k : Keep) (a : Nat) : Word :=
  if a = 0 then BitVec.ofNat 32 (0x4E525600 + k.fuses.stepping.toNat)
  else if a = 4 then BitVec.ofNat 32 (d.get F.HUB_GRADE_PKG_ID 0 * 16 + k.fuses.screen.toNat * 4 + k.fuses.tgrade.toNat)
  else if a = 8 then
    let live := (List.range 8).foldl (fun n q => setBit n q (d.bit F.HUB_TOPO_REGION_LIVE 0 q &&
      !(decide (d.get F.RG_PWR_STAT_STATE q = 2)) && !(d.region q).inReset)) 0
    putBits (d.word 8) 15 8 live
  else if a = 0x20 then BitVec.ofNat 32 d.alertStat
  else if a = 0x204 then d.mpStat
  else if 0x30400 ≤ a ∧ a < 0x30800 then d.matrix ((a - 0x30400) / 4)
  else if 0x31000 ≤ a ∧ a < 0x31800 then ((d.histEntry ((a - 0x31000) / 32)).head?).getD 0
  else if a = 0x40018 then d.cplWord 0
  else if a = 0x40020 then d.optStat
  else if 0x44000 ≤ a ∧ a < 0x48000 then ((d.entryWords ((a - 0x44000) / 16)).head?).getD 0
  else if a = 0x50000 then secLc k d
  else if a = 0x50008 then BitVec.ofNat 32 (k.nv.sigNext % 2 ^ 26)
  else if 0x50010 ≤ a ∧ a < 0x50030 then (if k.fuses.keyFused then wordAt k.fuses.deviceId ((a - 0x50010) / 4) else 0)
  else if 0x50030 ≤ a ∧ a < 0x5006C then (if k.fuses.keyFused then wordAt k.fuses.publicKey ((a - 0x50030) / 4) else 0)
  else if a = 0x50200 then putBits (putBits (d.word a) 31 16 k.nv.bootCount) 11 8 k.nv.hostStarts
  else if 0x52000 ≤ a ∧ a < 0x54000 then wordAt d.hub.report ((a - 0x52000) / 4)
  else if 0x80000 ≤ a ∧ a < 0xC0000 then k.nv.windowWord (a - 0x80000)
  else d.voted a

/-- The lane that holds an extra block, with HELD, as CL_RB_XOWN shows it (R133). -/
def Dev.blockOwner (d : Dev) (c b : Nat) : Nat :=
  match (unitsOf c).find? (fun u => (d.unit u).canc.blocks.contains b || decide ((d.unit u).canc.probe = some b)) with
  | some u => 8 + u % 8
  | none => 0

/-- CL_RB_XOWN register i. -/
def Dev.xown (d : Dev) (c i : Nat) : Word :=
  BitVec.ofNat 32 ((List.range 8).foldl (fun n j => n + d.blockOwner c (8 * i + j) * 2 ^ (4 * j)) 0)

/-- A pool word as software reads it; a poisoned one reads 0 (R49, R490). -/
def Dev.poolWord (d : Dev) (c i : Nat) : Word :=
  if d.flt.poison.contains (poolWordCode c (2 * i)) then 0
  else
    let p := (d.cluster c).pool
    ((p.find (2 * i)).getD 0).setWidth 32 ||| ((((p.find (2 * i + 1)).getD 0).setWidth 32 : Word) <<< 16)

/-- BO_LEFT: what is left of a unit's backoff in ms, rounded up; 0 outside BACKOFF (R210). -/
def Dev.backoffLeft (d : Dev) (u : Nat) : Nat :=
  if d.get F.LU_BU_STAT_STATE u = 17 then ((d.unit u).boEnd - d.time + 390624) / 390625 else 0

/-- What a register of a unit, cluster, region or die block reads as. -/
def Dev.blockView (d : Dev) (b : Blk) (i off a : Nat) : Word :=
  match b with
  | .lu =>
    if off = 0x2C then putBits (d.word a) 31 16 (d.backoffLeft i)
    else if off = 0x104 then putBits (d.word a) 4 4 (d.get F.RG_PACE_STAT_SHED (i / 32))
    else if off = 0x184 then putBits (putBits (d.word a) 6 6 (b2n (d.nextFrozen i))) 5 5 (b2n (d.echoFrozen i))
    else if 0x190 ≤ off ∧ off < 0x1A0 ∧ d.wins (i / 8) ≤ (off - 0x190) / 4 then 0
    else d.voted a
  | .cl =>
    if 0x2000 ≤ off then d.poolWord i ((off - 0x2000) / 4)
    else if 0x210 ≤ off ∧ off < 0x220 then d.xown i ((off - 0x210) / 4)
    else d.voted a
  | .die => if off = 0 then BitVec.ofNat 32 (4 + i) else d.voted a
  | _ => d.voted a

/-- What a read of an address returns at the gather: 0 where it is beyond the space, unassigned, off or under test; the
shadow where it is read through one (R14, R15, R18, R324, R349). WO fields read 0; reserved fields read the bits they hold, 0
unless MANUFACTURE or RETURN wrote them (R16, R356), and some always 0 (R390, R505, R509). -/
def Dev.readWord (d : Dev) (k : Keep) (a : Nat) : Word :=
  match regAt a with
  | none => 0
  | some r =>
    if d.offAt a || d.tstAt a then 0
    else match shadowOf a with
      | some (key, j) => (((d.shadows.find key).getD [])[j]?).getD 0
      | none =>
        match locate a with
        | some (.hub, _, _) => (d.hubView k a ||| (d.voted a &&& rsvMask a)) &&& ~~~ r.mask .wo
        | some (b, i, off) => (d.blockView b i off a ||| (d.voted a &&& rsvMask a)) &&& ~~~ r.mask .wo
        | none => 0

/-- An access latches the shadow that its address latches (R15, R321, R352). -/
def Dev.latch (d : Dev) (a : Nat) : Dev :=
  match d.latched a with
  | none => d
  | some (key, ws) => { d with shadows := d.shadows.insert key ws }

/-- The part of a committed read that a later word of the same burst sees at the gather (R321, R380). -/
def Dev.gatherStep (d : Dev) (a : Nat) : Dev :=
  if (regAt a).isNone || d.offAt a || d.tstAt a then d
  else if a = 0x40018 then d.readCpl
  else d.latch a

/-- The words that a read of these addresses gathers, in ascending order (R317, R321). -/
def Dev.gather (d : Dev) (k : Keep) : List Nat → List Word
  | [] => []
  | a :: r => d.readWord k a :: (d.gatherStep a).gather k r

/-- A read meets a poisoned word: POISON advances; a tap pool word sets PERR (R489, R490). -/
def Dev.poisonRead (d : Dev) (a : Nat) : Dev :=
  let n := F.FLT_ECC_POISON_LO_LO.addr 0
  match locate a with
  | some (.cl, c, off) =>
    if 0x2000 ≤ off ∧ d.flt.poison.contains (poolWordCode c ((off - 0x2000) / 2)) = true then (d.addCount n 1).refuse else d
  | some (.hub, _, _) =>
    if 0x31000 ≤ a ∧ a < 0x31800 ∧ a % 32 = 0 ∧ d.flt.histBad.contains ((a - 0x31000) / 32) = true then d.addCount n 1 else d
  | _ => d

/-- The commit of a read of one word (R16, R320): shadows are latched, RC fields return to their reset values, the head
completion is removed. A word of a burst commits after those below it (R321). -/
def Dev.commitRead (d : Dev) (a : Nat) : Dev :=
  match regAt a with
  | none => d.addrErr
  | some r =>
    if d.offAt a || d.tstAt a then d
    else if a = 0x40018 then d.readCpl
    else
      let d := ((d.openGate a).latch a).poisonRead a
      let m := r.mask .rc
      if m = 0 then d else d.setWord a ((d.word a &&& ~~~ m) ||| (r.resetWord &&& m))

/-! Writes -/

/-- The bits of a hub register that are locked (R351, R357, R358). -/
def Dev.lockedBits (d : Dev) (a : Nat) (r : RegRow) : Word :=
  if a = 0x30 then d.word a &&& r.mask .rwl
  else if a = 0x200 then (if d.is F.HUB_CFG_LOCK_LK_MP 0 then r.mask .rwl else 0)
  else if a = 0x10014 then (if d.is F.HUB_CFG_LOCK_LK_CLK 0 then r.mask .rwl else 0)
  else 0

/-- A write that would change a locked field: the whole write is ignored (R351, R369). -/
def Dev.lockViolation (d : Dev) (a : Nat) : Dev :=
  let d := { d with port := { d.port with lkv := true } }
  (d.put F.HUB_LKV_ADDR_ADDR 0 a).regEvent F.HUB_REG_EVT_LKV_STICKY 0x60

/-- What a write to a hub register does beside storing its fields: the actions of its WO fields, lowest bit first, and what
follows a new value (R350, R364, R372, R381, R404, R420, R477, R484, R485). -/
def Dev.hubWritten (d : Dev) (k : Keep) (a : Nat) (w : Word) : Dev :=
  let b (n : Nat) : Bool := bitOf w.toNat n
  if a = 0x10 then d.goCrosswalk (bitsOf w 15 0)
  else if a = 0x10010 then (if b 8 then d.clkSw (if b 0 then .refB else .refA) else d)
  else if a = 0x30004 then
    let d := if b 0 then d.exitSafe k else d
    let d := if b 1 then d.unfreeze else d
    if b 2 then d.ackSnap else d
  else if a = 0x40010 then d.post k.fuses w
  else if a = 0x40024 then d.cancel (bitsOf w 15 0)
  else if a = 0x10014 then d.gateCheck
  else if a = 0x20000 ∨ 0x21000 ≤ a ∧ a < 0x21400 then d.powerCheck
  else d

/-- A committed write to a hub register (R47, R290, R349 to R353, R356, R538). -/
def Dev.writeHub (d : Dev) (k : Keep) (a : Nat) (r : RegRow) (w : Word) : Dev :=
  let free := k.fuses.rsvFree
  if a = 0x140 then d.pushWord k.fuses w
  else if 0x80000 ≤ a then d.refuse
  else if 0x60000 ≤ a ∧ a < 0x70000 ∧ d.port.posted.isSome = true then d.refuse
  else if 0x50100 ≤ a ∧ a < 0x5013C ∧ free = true then d.refuse
  else if (normal .hub a (d.voted a) w ^^^ d.voted a) &&& d.lockedBits a r ≠ 0 then d.lockViolation a
  else
    let d := (d.openGate a).storeFields .hub a a r free w
    let d := if r.mask .rwp = 0 then d else { d with port := { d.port with posted := some (a, w) } }
    d.hubWritten k a w

/-- A committed write of one word (R14, R18, R324, R349): dropped with PERR and ADDR_ERR at an address that no register has,
dropped where the target is off or under test. -/
def Dev.writeReg (d : Dev) (k : Keep) (a : Nat) (w : Word) : Dev :=
  match regAt a with
  | none => d.addrErr.refuse
  | some r =>
    if d.offAt a || d.tstAt a then d
    else match locate a with
      | some (.hub, _, _) => d.writeHub k a r w
      | some (b, i, off) => d.writeBlock k.fuses.rsvFree b i off w
      | none => d

/-- REGISTER_WRITE: a committed write acts under the access codes (R349). -/
def execRegisterWrite (addr : BitVec 24) (data : Word) (s : State) : Host.Outcome State Fault Refusal :=
  s.actK (fun k d => d.writeReg k addr.toNat data)

/-- PWR_LTR: a tolerance is written, and domains that it no longer allows wake (R420, R435). -/
def execPwrLtr (p : UnitId) (data : Word) (s : State) : Host.Outcome State Fault Refusal :=
  s.actK (fun k d => d.writeReg k ((F.PWR_LTR_VALUE p).addr 0) data)

/-- POSTED_WRITE_APPLY: the pending posted write takes effect in the calibration scheduler, or is lost when that is off (R353,
R406). -/
def execPostedWriteApply (s : State) : Host.Outcome State Fault Refusal :=
  s.act (fun d =>
    match d.port.posted with
    | none => d
    | some (a, w) =>
      if d.offAt a then d.postLost
      else
        let m := ((regAt a).map (fun r => r.mask .rwp)).getD 0
        let old := d.word a
        let d := { d with port := { d.port with posted := none } }
        (d.openGate a).setWord a ((old &&& ~~~ m) ||| (normal .hub a old w &&& m)))

/-! The scrub of triplicated fields (R355) -/

/-- The registers with triplicated fields: CLK_CFG, PWR_CFG, FLT_ECC_CFG, and RG_PACE_CFG of each region (R357). -/
def rwtAddrs : List Nat :=
  [0x10000, 0x20000, 0x30040] ++ (List.range 8).map (fun q => blkBase .rg q + 0x104)

/-- The event of a field whose three copies differ. -/
def rwtFailEvent (a : Nat) : FltEvent :=
  match locate a with
  | some (.rg, q, _) => ⟨0x11, .region q 0, 0, 0⟩
  | _ => ⟨0x05, .package 0, 0, 0⟩

/-- The scrub of one field. -/
def Dev.scrubField (a : Nat) (d : Dev) (f : FieldRow) : Dev :=
  let x := bitsOf (d.word a) f.hi f.lo
  let y := bitsOf (d.copyB a) f.hi f.lo
  let z := bitsOf (d.copyC a) f.hi f.lo
  if x = y ∧ y = z then d
  else
    let lost := decide (x ≠ y ∧ y ≠ z ∧ x ≠ z)
    let v := if lost then f.reset else bitsOf (d.voted a) f.hi f.lo
    let d := { d with
      rwtB := d.rwtB.insert a (putBits (d.copyB a) f.hi f.lo v)
      rwtC := d.rwtC.insert a (putBits (d.copyC a) f.hi f.lo v)
      regs := d.regs.insert a (putBits (d.word a) f.hi f.lo v) }
    if lost then d.event F.HUB_REG_EVT_RWT_FAIL 0 (rwtFailEvent a) else d.regEvent F.HUB_REG_EVT_RWT_FIX 0x62

/-- The scrub of one register; a block that answers with OFF is skipped. -/
def Dev.scrubReg (d : Dev) (a : Nat) : Dev :=
  if d.offAt a || d.tstAt a then d
  else match regAt a with
    | none => d
    | some r => (r.fields.filter (fun f => f.acc = .rwt)).foldl (Dev.scrubField a) d

/-- RWT_SCRUB: every triplicated field is voted again (R355, R357). -/
def execRwtScrub (s : State) : Host.Outcome State Fault Refusal := s.act (fun d => rwtAddrs.foldl Dev.scrubReg d)

end Sys2Proof.Machine
end

