-- ==== Sys2Proof/Machine/Port.lean ====
section
/-! DEFINITION. The management port: slave transactions and their commit, the hub write queue and the clock gates in its
way, master accesses to the flash, FAULT_N (R306 to R345, R360, R406). -/

namespace Sys2Proof.Machine

/-! The write queue (R317, R346, R360) -/

/-- The region whose kerbs an access to an address crosses; the fields of R26 are reached through closed kerbs too. -/
def kerbsOf (a : Nat) : Option Nat :=
  match locate a with
  | some (.lu, i, _) => some (i / 32)
  | some (.cl, i, _) => some (i / 4)
  | some (.rg, i, off) => if deepAnswers off then none else some i
  | _ => none

/-- An address lies in a region whose kerbs are asked to close: the access waits until they have (R360, R407). -/
def Dev.waits (d : Dev) (a : Nat) : Bool := ((kerbsOf a).map (fun q => (d.region q).gating)).getD false

/-- A word that has waited is served; a target that went off meanwhile drops it and sets PERR (R322). -/
def Dev.serveLate (k : Keep) (d : Dev) (x : Nat × Word) : Dev :=
  if d.offAt x.1 || d.tstAt x.1 then d.refuse else d.writeReg k x.1 x.2

/-- Words leave the queue in order until one has to wait. -/
def Dev.flow (k : Keep) (late : Bool) : List (Nat × Word) → Dev → Dev
  | [], d => { d with port := { d.port with queue := [] } }
  | x :: r, d =>
    if d.waits x.1 then { d with port := { d.port with queue := x :: r } }
    else Dev.flow k late r (if late then Dev.serveLate k d x else d.writeReg k x.1 x.2)

/-- Before a transaction's first status byte the outcome of every earlier write is known (R322). -/
def Dev.drain (d : Dev) (k : Keep) : Dev :=
  d.port.queue.foldl (Dev.serveLate k) { d with port := { d.port with queue := [] } }

/-- The commit of written words: push words go straight to the image engine, the others through the queue (R317, R321). -/
def Dev.commitWrites (d : Dev) (k : Keep) (ws : List (Nat × Word)) : Dev :=
  let d := (ws.filter (fun x => decide (x.1 = 0x140))).foldl (fun d x => d.writeReg k x.1 x.2) d
  Dev.flow k false (d.port.queue ++ ws.filter (fun x => decide (x.1 ≠ 0x140))) d

/-- BRIDGE_WRITE_ACCEPT: the die's bridge takes the word at the head of the queue, and the words behind it that need not wait
leave too (R317, R346). -/
def execBridgeWriteAccept (n : DieId) (s : State) : Host.Outcome State Fault Refusal :=
  s.actK (fun k d =>
    match d.port.queue with
    | [] => d
    | (a, w) :: r =>
      match locate a with
      | some (b, i, _) => if dieOf b i = n.val then Dev.flow k true ((a, w) :: r) d else d
      | none => d)

/-- An access that a gate aborts (R360). -/
def Dev.gateAbort (d : Dev) : Dev := (d.put F.HUB_REG_EVT_GATE_ABORT 0 1).refuse

/-- An action is under way that needs a gated hub block (R406): 0 attestation, a life-cycle change, the verification of an image;
1 a self-test; 2 a calibration run, a commit, a posted write; 3 an image fetch. -/
def Dev.gateBusy (d : Dev) (i : Nat) : Bool :=
  let runs (ops : List Nat) : Bool := d.opt.entries.any (fun e => decide (e.2.state = .running) && ops.contains e.2.opcode)
  if i = 0 then runs [0x19, 0x1A] || d.img.load.any (fun (l : LoadSt) => !l.verified && !l.committed)
  else if i = 1 then runs [0x10]
  else if i = 2 then d.clusters.any (fun e => e.2.cal.isSome) || d.port.posted.isSome
  else d.img.load.any (fun (l : LoadSt) => !l.verified && !l.committed)

/-! Slave transactions (R314 to R324) -/

/-- The status byte with RDY = 1 for the targets of a transaction (R17, R322, R323). -/
def Dev.statusByte (d : Dev) (as : List Nat) : Byte :=
  BitVec.ofNat 8 (128 + 64 * b2n d.port.perr + 32 * b2n d.port.posted.isSome + 16 * b2n d.alert + 8 * b2n d.port.lkv +
    4 * b2n (as.any d.tstAt) + 2 * b2n (as.any d.offAt) + b2n d.safe)

/-- What the package drives in a transaction. -/
def Dev.respond (d : Dev) (r : Option (List Byte)) : Dev := { d with port := { d.port with resp := r } }

/-- A failed transaction: its flag, FAILS, and PERR in the next status byte; no other effect (R320, R343). -/
def Dev.failed (d : Dev) (f : Fld) (r : Option (List Byte)) : Dev :=
  (((d.put f 0 1).bump F.HUB_MP_CNT_FAILS 0 1).refuse).respond r

/-- An access in progress at a gate is aborted (R360): a read returns zero, a write has no effect. The access comes with the command
that aborts it. DESIGN CHOICE, log entry 15. -/
def Dev.cutAccess (d : Dev) (crosses : Nat → Bool) (c : Option CutAccess) : Dev :=
  match c with
  | none => d
  | some (.write a) => if crosses a.toNat then d.gateAbort else d
  | some (.read a n) =>
    if crosses a.toNat then
      (d.respond (some (d.statusByte [a.toNat] :: List.replicate (4 * (n.val + 1)) 0))).gateAbort
    else d

/-- GATE_CLOSE: an idle hub block is gated, or a region's kerbs close; an access in progress whose acknowledge has not come is
aborted (R360, R406, R407). Words that came after the request wait on, and meet OFF. -/
def execGateClose (g : Gate) (cut : Option CutAccess) (s : State) : Host.Outcome State Fault Refusal :=
  s.act (fun d =>
    match g with
    | .hubBlock i =>
      if d.gateFree i || d.gateBusy i then d
      else
        ({ d with hub := { d.hub with gates := i.val :: d.hub.gates.filter (· ≠ i.val) } } : Dev).cutAccess
          (fun a => decide (gateOf a = some i.val)) cut
    | .kerbs q =>
      if (d.region q).gating then
        (d.onRegion q (fun x => { x with gating := false })).cutAccess (fun a => decide (kerbsOf a = some q.val)) cut
      else d)

/-- The commit clears PERR and LKV before the transaction's own outcome (R322). -/
def Dev.cleared (d : Dev) : Dev := { d with port := { d.port with perr := false, lkv := false } }

/-- The response: the status byte, and the gathered words lowest byte first (R315, R316). -/
def Dev.response (d : Dev) (k : Keep) (as : List Nat) (reads : Bool) : List Byte :=
  d.statusByte as :: (if reads then (d.gather k as).flatMap (fun w => leBytes w.toNat 4) else [])

/-- A slave transaction on target addresses: who answers, how it ends, and its commit (R314, R319, R320, R338). -/
def Dev.transaction (d : Dev) (k : Keep) (pkg : Fin 8) (fr : Framing) (as : List Nat) (reads : Bool)
    (commit : Dev → Dev) : Dev :=
  if !d.port.answers then d.respond none
  else
    let d := d.drain k
    if fr = .invalid then d.failed F.HUB_MP_EVT_CMD_ERR none
    else if pkg.val ≠ d.get F.HUB_GRADE_PKG_ID 0 then d.respond none
    else match fr with
      | .short => d.failed F.HUB_MP_EVT_SHORT none
      | .long => d.failed F.HUB_MP_EVT_LONG (some (d.response k as reads))
      | _ => commit ((d.respond (some (d.response k as reads))).cleared)

/-- The addresses of a burst of n words from an address (R315, R324). -/
def burst (a n : Nat) : List Nat := (List.range n).map (fun i => a + 4 * i)

def execStatus (pkg : Fin 8) (fr : Framing) (s : State) : Host.Outcome State Fault Refusal :=
  s.actK (fun k d => d.transaction k pkg fr [] false id)

def execRead (pkg : Fin 8) (addr : BitVec 24) (fr : Framing) (s : State) : Host.Outcome State Fault Refusal :=
  s.actK (fun k d => d.transaction k pkg fr [addr.toNat] true (fun d => d.commitRead addr.toNat))

def execWrite (pkg : Fin 8) (addr : BitVec 24) (data : Word) (fr : Framing) (s : State) :
    Host.Outcome State Fault Refusal :=
  s.actK (fun k d => d.transaction k pkg fr [addr.toNat] false (fun d => d.commitWrites k [(addr.toNat, data)]))

/-- The commit of a word of a burst read: one beyond the space is not accessed and sets PERR (R324). -/
def Dev.commitBurst (d : Dev) (a : Nat) : Dev := if 0xFFFFFC < a then d.addrErr.refuse else d.commitRead a

/-- The commit of a burst read. Its words commit in ascending order (R321), and yet in one instant (R320): an ADDR_ERR that one of
them sets wins over the clear of HUB_MP_EVT that another of them makes, whichever stands first (R16, R342). DEDUCED, log entry
62. -/
def Dev.commitReads (d : Dev) (as : List Nat) : Dev :=
  let d := as.foldl Dev.commitBurst d
  if as.any (fun a => (regAt a).isNone) then d.addrErr else d

def execReadInc (pkg : Fin 8) (addr : BitVec 24) (cnt : Fin 64) (fr : Framing) (s : State) :
    Host.Outcome State Fault Refusal :=
  s.actK (fun k d =>
    let as := burst addr.toNat (cnt.val + 1)
    d.transaction k pkg fr as true (fun d => d.commitReads as))

/-- WRITE_INC: a count byte says 1 to 64 words (R315); no event carries another number. -/
def execWriteInc (pkg : Fin 8) (addr : BitVec 24) (ws : List Word) (fr : Framing) (s : State) :
    Host.Outcome State Fault Refusal :=
  if ws.length = 0 ∨ 64 < ws.length then .refused (.illFormed "WRITE_INC")
  else
    let as := burst addr.toNat ws.length
    s.actK (fun k d => d.transaction k pkg fr as false (fun d => d.commitWrites k (as.zip ws)))

/-- READ_FIX: N successive reads of one address; of OPT_CPL_LO, the first N heads (R315, R380). -/
def execReadFix (pkg : Fin 8) (addr : BitVec 24) (cnt : Fin 64) (fr : Framing) (s : State) :
    Host.Outcome State Fault Refusal :=
  s.actK (fun k d =>
    let as := List.replicate (cnt.val + 1) addr.toNat
    d.transaction k pkg fr as true (fun d => d.commitReads as))

def execWriteFix (pkg : Fin 8) (addr : BitVec 24) (ws : List Word) (fr : Framing) (s : State) :
    Host.Outcome State Fault Refusal :=
  if ws.length = 0 ∨ 64 < ws.length then .refused (.illFormed "WRITE_FIX")
  else
    let as := List.replicate ws.length addr.toNat
    s.actK (fun k d => d.transaction k pkg fr as false (fun d => d.commitWrites k (as.zip ws)))

/-- RD_TMO: a read of cnt + 1 words, of successive addresses or of one, that has waited 1,024 status bytes is answered with zeros
and fails (R315, R318, R320). -/
def execRdTmo (pkg : Fin 8) (addr : BitVec 24) (cnt : Fin 64) (fix : Bool) (s : State) :
    Host.Outcome State Fault Refusal :=
  s.actK (fun k d =>
    if !d.port.answers then d.respond none
    else
      let d := d.drain k
      if pkg.val ≠ d.get F.HUB_GRADE_PKG_ID 0 then d.respond none
      else
        let n := cnt.val + 1
        let as := if fix then List.replicate n addr.toNat else burst addr.toNat n
        d.failed F.HUB_MP_EVT_RD_TMO (some (d.statusByte as :: List.replicate (4 * n) 0)))

/-! The port as master (R308 to R310, R327 to R335) -/

/-- A bit of HUB_MP_EVT that raises a class D event, with HUB_MP_EVT as INFO (R342, R472). -/
def Dev.mpEvent (d : Dev) (f : Fld) : Dev :=
  if d.is f 0 then d
  else
    let d := d.put f 0 1
    d.raise ⟨0x66, .package 0, d.word (f.addr 0), 0⟩

/-- A load waits for bytes from flash. -/
def Dev.fetching (d : Dev) : Bool :=
  match d.img.load with
  | none => false
  | some l => decide (l.source = 1 ∨ l.source = 2) && !l.committed && !l.verified && !l.whole

/-- An image fetch ends with reason FETCH (R310, R329, R330). -/
def Dev.fetchLost (d : Dev) : Dev :=
  match d.img.load with
  | none => d
  | some l => if d.fetching then d.refuseLoad l 1 else d

/-- The controller's firmware from flash starts anew: FW_START, or a restart (R297, R529). -/
def Dev.firmwareStarts (d : Dev) : Bool :=
  let st := d.get F.SEC_BL_STAT_STEP 0
  !d.bus.firmware && !d.bus.monitor && (decide (st = 12 ∨ st = 13 ∨ st = 0) || d.img.load.any (fun (l : LoadSt) => l.switching))

/-- The controller executes, or starts to execute, from flash: pages may be fetched (R334). -/
def Dev.pageFetching (d : Dev) : Bool := decide (d.img.fwSlot < 2 ∧ d.img.pageTable ≠ []) && (d.bus.firmware || d.firmwareStarts)

/-- The package may master the bus with an access. -/
def Dev.masters (d : Dev) (acc : BusAccess) : Bool :=
  match acc with
  | .burst => d.fetching
  | .page => d.pageFetching
  | .controller _ => d.bus.firmware || d.bus.monitor

/-- One more consecutive yield of an access; what was in select code 0's continuous-read mode must leave it (R310, R331). The number
of yields. -/
def Dev.countYield (d : Dev) (acc : BusAccess) : Nat × Dev :=
  match acc with
  | .burst =>
    let n := d.bus.yields + 1
    (n, { d with bus := { d.bus with burst := true, ctl := false, yields := n, exitDue := true } })
  | .page =>
    let n := d.bus.pageYields + 1
    (n, { d with bus := { d.bus with burst := false, ctl := false, pageYields := n, exitDue := true } })
  | .controller again =>
    let n := (if again then d.bus.ctlYields else 0) + 1
    (n, { d with bus := { d.bus with burst := false, ctl := true, ctlYields := n } })

/-- YIELD: MSEL_N falls while the package masters the bus with an access (R309, R310, R331, R332). -/
def execYield (acc : BusAccess) (s : State) : Host.Outcome State Fault Refusal :=
  s.act (fun d =>
    if d.masters acc then
      let x := d.countYield acc
      let d := (x.2.bump F.HUB_MP_CNT_YIELDS 0 1).mpEvent F.HUB_MP_EVT_YIELD
      if x.1 % 16 = 0 then
        let d := d.mpEvent F.HUB_MP_EVT_YIELD_FAIL
        if acc = .burst then d.fetchLost else d
      else d
    else d)

/-- HUB_MP_FLASH as a discovery leaves it (R345). -/
def Discovery.word (x : Discovery) : Word :=
  BitVec.ofNat 32 (x.readOp.toNat * 2 ^ 24 + x.modeKeep.toNat * 2 ^ 16 + (if x.hasExit then 1 else 2) * 2 ^ 6 + 2 ^ 5 +
    x.dummy.toNat)

/-- The flash address at which a slot starts (R289). -/
def flashBase (slot : Nat) : Nat := if slot = 0 then 0x0000000 else 0x0200000

/-- A read of n bytes of flash device 0 from an address, for an image burst or a page: the mode exit that is due, the discovery when
none has succeeded, then the read (R329 to R331). Its outcome. -/
def Dev.flashRead (d : Dev) (r : FlashRead) (burst : Bool) (addr n : Nat) : Bool × Dev :=
  let need := !(d.is F.HUB_MP_FLASH_DISC_OK 0)
  let d := if need || d.bus.exitDue then d.put F.HUB_MP_STAT_CONT0 0 0 else d
  if need && r.disc.isNone then
    (false, (d.report (F.HUB_MP_FLASH_DISC_OK.addr 0) 0).mpEvent F.HUB_MP_EVT_DISC_FAIL)
  else
    let d := match need, r.disc with
      | true, some x => d.report (F.HUB_MP_FLASH_DISC_OK.addr 0) (Discovery.word x)
      | _, _ => d
    let d := { d.ungate 3 with bus := { d.bus with exitDue := false, readAt := addr, readLen := n } }
    if r.strobes && decide (n ≤ r.bytes.length) then
      (true, ({ d with bus := { d.bus with
        yields := if burst then 0 else d.bus.yields, pageYields := if burst then d.bus.pageYields else 0 } } : Dev).put
          F.HUB_MP_STAT_CONT0 0 1)
    else (false, ({ d with bus := { d.bus with exitDue := true } } : Dev).mpEvent F.HUB_MP_EVT_MDS_ERR)

/-- The bytes of the next access of an image fetch: the header, then bursts of 2^BURST_EXP KiB (R333). -/
def Dev.burstLength (d : Dev) (l : LoadSt) : Nat :=
  if l.bytes.length < 256 then 256 - l.bytes.length
  else min (imgLen l.bytes - l.bytes.length) (1024 * 2 ^ d.get F.HUB_MP_CFG_BURST_EXP 0)

/-- IMAGE_BURST: one access of an image fetch (R289, R329, R330, R333). -/
def execImageBurst (r : FlashRead) (s : State) : Host.Outcome State Fault Refusal :=
  s.actK (fun k d =>
    match d.img.load with
    | none => d
    | some l =>
      if d.fetching then
        let n := d.burstLength l
        let x := d.flashRead r true (flashBase (l.source - 1) + l.bytes.length) n
        if x.1 then x.2.takeBytes k.fuses (r.bytes.take n) else x.2.fetchLost
      else d)

/-- The slot of the prefetch buffer that a page replaces: an invalid one first, else the least recently used (R334). -/
def Dev.victim (d : Dev) : Nat :=
  match (List.range 8).find? (fun i => (d.bus.pages.find i).isNone) with
  | some i => i
  | none => (d.bus.lru.head?).getD 0

/-- The controller has executed from a slot (R334). -/
def Dev.touchPage (d : Dev) (slot : Nat) : Dev :=
  if (d.bus.pages.find slot).isNone then d
  else { d with bus := { d.bus with lru := d.bus.lru.filter (· ≠ slot) ++ [slot] } }

/-- A page has arrived and its hash matches (R334); its words are written whole (R489). -/
def Dev.takePage (d : Dev) (page : Nat) : Dev :=
  let i := d.victim
  ({ d with bus := { d.bus with
    pages := d.bus.pages.insert i page, bad := d.bus.bad.filter (fun w => decide (Config.controllerWord w % 9 ≠ i + 1)) } } : Dev).touchPage i

/-- A page fails its check: the boot ROM's monitor runs in place of the firmware (R282). -/
def Dev.pageBad (d : Dev) : Dev :=
  let d := { d with bus := { d.bus with firmware := false, monitor := true } }
  d.hubEvent F.HUB_IMG_LAST_FW_INTEG 0x65 0

/-- The flash address of a code page of the firmware in force (R334). -/
def Dev.pageAt (d : Dev) (page : Nat) : Nat := flashBase d.img.fwSlot + d.img.fwOff + 4096 + 4096 * page

/-- PAGE_FETCH: a miss or a look-ahead fetches a firmware page, which becomes valid when its hash matches (R282, R334). `used`: the
slots that the controller has executed from since the fetch before, in order. -/
def execPageFetch (page : Fin 256) (miss : Bool) (used : List (Fin 8)) (r : FlashRead) (s : State) : Host.Outcome State Fault Refusal :=
  s.act (fun d =>
    if d.pageFetching && !(d.bus.pages.any (fun e => decide (e.2 = page.val))) then
      let d := d.each (used.map (·.val)) Dev.touchPage
      let d := if miss then d.bump F.HUB_MP_PFMISS_PF_MISS 0 1 else d
      let x := d.flashRead r false (d.pageAt page) 1
      if x.1 then
        (if (Config.sha256 (padTo 4096 (r.bytes.take 4096))).take 16 = sub d.img.pageTable (16 * page.val) 16 then
          x.2.takePage page
        else x.2.pageBad)
      else x.2
    else d)

/-! FAULT_N (R337) -/

/-- The level that the package leaves on FAULT_N: low in safe state, and once a start has halted in FUSE (R337, R525). -/
def Dev.faultN (d : Dev) : Bool := !(d.safe || d.start.halted)

/-- FAULT_EXT: FAULT_N has been low for 100 ns while the package's own FLT is 0, once for each low period. -/
def execFaultExt (s : State) : Host.Outcome State Fault Refusal :=
  s.act (fun d =>
    if d.bus.faultLow || d.safe then d
    else ({ d with bus := { d.bus with faultLow := true } } : Dev).mpEvent F.HUB_MP_EVT_FAULT_EXT)

/-- FAULT_N_RELEASE: the line is high again; the next low period counts anew. -/
def execFaultNRelease (s : State) : Host.Outcome State Fault Refusal :=
  s.act (fun d => { d with bus := { d.bus with faultLow := false } })

end Sys2Proof.Machine
end

