-- ==== Sys2Proof/Machine/Dispatch.lean ====
section
/-! DEFINITION. Every command's meaning, one arm per row of the table. -/

namespace Sys2Proof.Machine

/-- The effect of a command on everything but the queue. -/
def exec (i : Instr) (s : State) : Host.Outcome State Fault Refusal :=
  match i with
  -- the management port as slave
  | .status pkg fr => Sys2Proof.Machine.execStatus pkg fr s
  | .read pkg addr fr => Sys2Proof.Machine.execRead pkg addr fr s
  | .write pkg addr data fr => Sys2Proof.Machine.execWrite pkg addr data fr s
  | .readInc pkg addr cnt fr => Sys2Proof.Machine.execReadInc pkg addr cnt fr s
  | .writeInc pkg addr ws fr => Sys2Proof.Machine.execWriteInc pkg addr ws fr s
  | .readFix pkg addr cnt fr => Sys2Proof.Machine.execReadFix pkg addr cnt fr s
  | .writeFix pkg addr ws fr => Sys2Proof.Machine.execWriteFix pkg addr ws fr s
  | .rdTmo pkg addr cnt fix => Sys2Proof.Machine.execRdTmo pkg addr cnt fix s
  | .registerWrite addr data => Sys2Proof.Machine.execRegisterWrite addr data s
  | .postedWriteApply => Sys2Proof.Machine.execPostedWriteApply s
  | .rwtScrub => Sys2Proof.Machine.execRwtScrub s
  | .gateClose g cut => Sys2Proof.Machine.execGateClose g cut s
  -- the management port as master
  | .yield acc => Sys2Proof.Machine.execYield acc s
  | .imageBurst r => Sys2Proof.Machine.execImageBurst r s
  | .pageFetch page miss used r => Sys2Proof.Machine.execPageFetch page miss used r s
  | .faultExt => Sys2Proof.Machine.execFaultExt s
  -- reset and start-up
  | .resetN lowNs => Sys2Proof.Machine.execResetN lowNs s
  | .powerOnReset => Sys2Proof.Machine.execPowerOnReset s
  | .start straps => Sys2Proof.Machine.execStart straps s
  | .startStepDone r => Sys2Proof.Machine.execStartStepDone r s
  | .watchEnd => Sys2Proof.Machine.execWatchEnd s
  | .hubLinkLoss d => Sys2Proof.Machine.execHubLinkLoss d s
  -- crosswalks and block resets
  | .crosswalkGo mask => Sys2Proof.Machine.execCrosswalkGo mask s
  | .crosswalk => Sys2Proof.Machine.execCrosswalk s
  | .unitRst u => Sys2Proof.Machine.execUnitRst u s
  | .clRst c => Sys2Proof.Machine.execClRst c s
  | .resetRelease b => Sys2Proof.Machine.execResetRelease b s
  -- the token path and the line
  | .lineToken u t => Sys2Proof.Machine.execLineToken u t s
  | .hostRxToken u t => Sys2Proof.Machine.execHostRxToken u t s
  | .elasticSlip u b => Sys2Proof.Machine.execElasticSlip u b s
  | .lineMarker u => Sys2Proof.Machine.execLineMarker u s
  | .controlBlock u => Sys2Proof.Machine.execControlBlock u s
  | .quietNotice u => Sys2Proof.Machine.execQuietNotice u s
  | .holdNotice u => Sys2Proof.Machine.execHoldNotice u s
  | .retrainAnnouncement u => Sys2Proof.Machine.execRetrainAnnouncement u s
  | .resumeSequence u => Sys2Proof.Machine.execResumeSequence u s
  | .resumeStart u => Sys2Proof.Machine.execResumeStart u s
  | .resumeSendEnd u => Sys2Proof.Machine.execResumeSendEnd u s
  | .wakeEnergy u => Sys2Proof.Machine.execWakeEnergy u s
  | .silence u => Sys2Proof.Machine.execSilence u s
  | .silHold u => Sys2Proof.Machine.execSilHold u s
  | .headerLock u => Sys2Proof.Machine.execHeaderLock u s
  | .headerLockLoss u => Sys2Proof.Machine.execHeaderLockLoss u s
  | .descrLock u => Sys2Proof.Machine.execDescrLock u s
  | .descrUnlock u => Sys2Proof.Machine.execDescrUnlock u s
  | .rxInv u => Sys2Proof.Machine.execRxInv u s
  | .precodeSet u => Sys2Proof.Machine.execPrecodeSet u s
  | .switchStart u => Sys2Proof.Machine.execSwitchStart u s
  | .dataModeEntry u => Sys2Proof.Machine.execDataModeEntry u s
  | .rxDataStart u => Sys2Proof.Machine.execRxDataStart u s
  -- the cancellers
  | .gearChange u => Sys2Proof.Machine.execGearChange u s
  | .surveyDwellEnd u p => Sys2Proof.Machine.execSurveyDwellEnd u p s
  | .windowCheck u => Sys2Proof.Machine.execWindowCheck u s
  | .rescan u => Sys2Proof.Machine.execRescan u s
  | .rescanDwellEnd u => Sys2Proof.Machine.execRescanDwellEnd u s
  | .clRbRelease c b => Sys2Proof.Machine.execClRbRelease c b s
  | .tapPoolWrite c w data f => Sys2Proof.Machine.execTapPoolWrite c w data f s
  -- the receiver
  | .vgaHold u gain => Sys2Proof.Machine.execVgaHold u gain s
  | .lqiWindow u => Sys2Proof.Machine.execLqiWindow u s
  | .trLock u => Sys2Proof.Machine.execTrLock u s
  | .trLockLoss u => Sys2Proof.Machine.execTrLockLoss u s
  | .trRange u => Sys2Proof.Machine.execTrRange u s
  | .servoWindow u latency => Sys2Proof.Machine.execServoWindow u latency s
  | .paceWindow q => Sys2Proof.Machine.execPaceWindow q s
  | .presetGo u preset => Sys2Proof.Machine.execPresetGo u preset s
  -- bring-up
  | .en u v => Sys2Proof.Machine.execEn u v s
  | .retrain u => Sys2Proof.Machine.execRetrain u s
  | .clrFail u => Sys2Proof.Machine.execClrFail u s
  | .reqPresetGo u preset => Sys2Proof.Machine.execReqPresetGo u preset s
  | .stateLimit u => Sys2Proof.Machine.execStateLimit u s
  | .lostFar u => Sys2Proof.Machine.execLostFar u s
  | .failureClassification u => Sys2Proof.Machine.execFailureClassification u s
  | .backoffEnd u => Sys2Proof.Machine.execBackoffEnd u s
  | .boWake u => Sys2Proof.Machine.execBoWake u s
  | .coefApply u => Sys2Proof.Machine.execCoefApply u s
  | .coefTmo u => Sys2Proof.Machine.execCoefTmo u s
  -- host lanes
  | .sigdet u => Sys2Proof.Machine.execSigdet u s
  | .hostIdle u stood => Sys2Proof.Machine.execHostIdle u stood s
  | .cdrLock u => Sys2Proof.Machine.execCdrLock u s
  | .cdrLol u => Sys2Proof.Machine.execCdrLol u s
  | .hrxTmo u => Sys2Proof.Machine.execHrxTmo u s
  | .hostMarker u m => Sys2Proof.Machine.execHostMarker u m s
  | .portComesUp p => Sys2Proof.Machine.execPortComesUp p s
  | .htxSourceChange u => Sys2Proof.Machine.execHtxSourceChange u s
  -- monitoring and tests
  | .monitorInterval u => Sys2Proof.Machine.execMonitorInterval u s
  | .cntClr u => Sys2Proof.Machine.execCntClr u s
  | .genPtChange u => Sys2Proof.Machine.execGenPtChange u s
  | .patLock u => Sys2Proof.Machine.execPatLock u s
  | .patLol u => Sys2Proof.Machine.execPatLol u s
  | .injGo u => Sys2Proof.Machine.execInjGo u s
  | .injStop u => Sys2Proof.Machine.execInjStop u s
  | .injection u => Sys2Proof.Machine.execInjection u s
  | .mscanPointEnd u counts => Sys2Proof.Machine.execMscanPointEnd u counts s
  | .sweepDwellEnd u => Sys2Proof.Machine.execSweepDwellEnd u s
  -- the image
  | .imgPush data => Sys2Proof.Machine.execImgPush data s
  | .pushTimeout => Sys2Proof.Machine.execPushTimeout s
  | .verification => Sys2Proof.Machine.execVerification s
  | .regionStep q => Sys2Proof.Machine.execRegionStep q s
  | .regionRelease q => Sys2Proof.Machine.execRegionRelease q s
  | .settleEnd q => Sys2Proof.Machine.execSettleEnd q s
  | .firmwareSwitch => Sys2Proof.Machine.execFirmwareSwitch s
  | .firmwareRestartEnd => Sys2Proof.Machine.execFirmwareRestartEnd s
  -- posts to the operation table
  | .nop tag => Sys2Proof.Machine.execNop tag s
  | .portUp p tag => Sys2Proof.Machine.execPortUp p tag s
  | .portDown p tag => Sys2Proof.Machine.execPortDown p tag s
  | .opRetrain t cold tag => Sys2Proof.Machine.execOpRetrain t cold tag s
  | .diagSnap t tag => Sys2Proof.Machine.execDiagSnap t tag s
  | .diagSweep t tag => Sys2Proof.Machine.execDiagSweep t tag s
  | .diagCold t tag => Sys2Proof.Machine.execDiagCold t tag s
  | .mscanCross t dw target tag => Sys2Proof.Machine.execMscanCross t dw target tag s
  | .mscanMap t dw target tag => Sys2Proof.Machine.execMscanMap t dw target tag s
  | .cal t force tag => Sys2Proof.Machine.execCal t force tag s
  | .memorySelftest t tag => Sys2Proof.Machine.execMemorySelftest t tag s
  | .analogueLoopBack t tag => Sys2Proof.Machine.execAnalogueLoopBack t tag s
  | .logicScan t tag => Sys2Proof.Machine.execLogicScan t tag s
  | .imgLoad src force tag => Sys2Proof.Machine.execImgLoad src force tag s
  | .attest n0 n1 n2 n3 tag => Sys2Proof.Machine.execAttest n0 n1 n2 n3 tag s
  | .lcChange target tag => Sys2Proof.Machine.execLcChange target tag s
  | .rgnReset t tag => Sys2Proof.Machine.execRgnReset t tag s
  | .pkgReset tag => Sys2Proof.Machine.execPkgReset tag s
  | .standbyEntry tag => Sys2Proof.Machine.execStandbyEntry tag s
  | .standbyExit tag => Sys2Proof.Machine.execStandbyExit tag s
  | .standbyStepDone => Sys2Proof.Machine.execStandbyStepDone s
  -- the operation table
  | .entryStart slot => Sys2Proof.Machine.execEntryStart slot s
  | .entryDone slot fails => Sys2Proof.Machine.execEntryDone slot fails s
  | .entryTimeout slot => Sys2Proof.Machine.execEntryTimeout slot s
  | .progressUpdate slot progress stepNo => Sys2Proof.Machine.execProgressUpdate slot progress stepNo s
  | .optCplLo => Sys2Proof.Machine.execOptCplLo s
  | .optCplCancel handle => Sys2Proof.Machine.execOptCplCancel handle s
  -- the references
  | .refAbsent r => Sys2Proof.Machine.execRefAbsent r s
  | .freqWindow m => Sys2Proof.Machine.execFreqWindow m s
  | .bootRefb => Sys2Proof.Machine.execBootRefb s
  | .clkSw target => Sys2Proof.Machine.execClkSw target s
  | .switchBoundary => Sys2Proof.Machine.execSwitchBoundary s
  | .swDone => Sys2Proof.Machine.execSwDone s
  | .pllUnlock c => Sys2Proof.Machine.execPllUnlock c s
  -- power states
  | .sleepOffer dom stood => Sys2Proof.Machine.execSleepOffer dom stood s
  | .sleepVote dom m v => Sys2Proof.Machine.execSleepVote dom m v s
  | .sleepDecision dom => Sys2Proof.Machine.execSleepDecision dom s
  | .sleepEntryDone dom => Sys2Proof.Machine.execSleepEntryDone dom s
  | .wakeTrigger w => Sys2Proof.Machine.execWakeTrigger w s
  | .dozeWakeDone c => Sys2Proof.Machine.execDozeWakeDone c s
  | .deepWakeDone q us found => Sys2Proof.Machine.execDeepWakeDone q us found s
  | .pwrLtr p data => Sys2Proof.Machine.execPwrLtr p data s
  | .wake q => Sys2Proof.Machine.execWake q s
  | .stayAwake q => Sys2Proof.Machine.execStayAwake q s
  -- calibration
  | .calEvaluation c => Sys2Proof.Machine.execCalEvaluation c s
  | .tempUpdate c t => Sys2Proof.Machine.execTempUpdate c t s
  | .calCheckEnd c => Sys2Proof.Machine.execCalCheckEnd c s
  | .matchIterationEnd c diff sig => Sys2Proof.Machine.execMatchIterationEnd c diff sig s
  | .retunePassEnd c tdly ofs skew ofsRms => Sys2Proof.Machine.execRetunePassEnd c tdly ofs skew ofsRms s
  | .verifyEnd c diff sig => Sys2Proof.Machine.execVerifyEnd c diff sig s
  | .calCommit ok => Sys2Proof.Machine.execCalCommit ok s
  -- the fault collector
  | .faultEvent e => Sys2Proof.Machine.execFaultEvent e s
  | .faultRecord => Sys2Proof.Machine.execFaultRecord s
  | .escWindow src => Sys2Proof.Machine.execEscWindow src s
  | .maskEnd b => Sys2Proof.Machine.execMaskEnd b s
  | .safeExit => Sys2Proof.Machine.execSafeExit s
  | .hqUnfreeze => Sys2Proof.Machine.execHqUnfreeze s
  | .snapAck => Sys2Proof.Machine.execSnapAck s
  | .snapshot => Sys2Proof.Machine.execSnapshot s
  | .scrubStep array owner macroNo wordNo f => Sys2Proof.Machine.execScrubStep array owner macroNo wordNo f s
  | .bucketLeak => Sys2Proof.Machine.execBucketLeak s
  | .sigToken => Sys2Proof.Machine.execSigToken s
  | .sensorUpdate d temps => Sys2Proof.Machine.execSensorUpdate d temps s
  -- pins and boundary scan
  | .plugChange c mated rotated => Sys2Proof.Machine.execPlugChange c mated rotated s
  | .extest x => Sys2Proof.Machine.execExtest x s
  | .samplePreload x => Sys2Proof.Machine.execSamplePreload x s
  | .idcode => Sys2Proof.Machine.execIdcode s
  | .clamp => Sys2Proof.Machine.execClamp s
  | .highz => Sys2Proof.Machine.execHighz s
  | .extestPulse x => Sys2Proof.Machine.execExtestPulse x s
  | .extestTrain x => Sys2Proof.Machine.execExtestTrain x s
  | .bypass => Sys2Proof.Machine.execBypass s
  | .testLogicReset => Sys2Proof.Machine.execTestLogicReset s
  -- rows added at the end of the table
  | .hubLinkRecovery d => Sys2Proof.Machine.execHubLinkRecovery d s
  | .stdTrainingEnd u ok => Sys2Proof.Machine.execStdTrainingEnd u ok s
  | .stdLinkLoss u => Sys2Proof.Machine.execStdLinkLoss u s
  | .faultNRelease => Sys2Proof.Machine.execFaultNRelease s
  | .bridgeWriteAccept d => Sys2Proof.Machine.execBridgeWriteAccept d s
  | .identityKeyFuseProgramming seed ident root => Sys2Proof.Machine.execIdentityKeyFuseProgramming seed ident root s

end Sys2Proof.Machine
end

