-- ==== Sys2Proof/Machine/Tick.lean ====
section
/-! DEFINITION. What the hub clock does by itself. -/

namespace Sys2Proof.Machine

/-- One hub cycle: the time base counts (R363, R577), and the REFA count gains four edges while the hub runs on a
reference (R37). DESIGN CHOICE, log entry 2. -/
def Dev.tick (d : Dev) : Dev :=
  { d with time := d.time + 1, refa := if d.fallback then d.refa else d.refa + 4 }

end Sys2Proof.Machine
end

