-- ==== Sys2Proof/Safety.lean ====
section
/-! DEFINITION. What claims about the block speak of: the invariants of a run, and what a command leaves as it was. -/

namespace Sys2Proof.Machine

/-! Invariants -/

/-- The byte list of the MRAM is in canonical form. -/
abbrev State.memOk (s : State) : Prop := Memory.wf s.keep.nv.mram = true

/-- The fuses after a step against those before: no programmed fuse is lost (R510, R514, R518). -/
def Fuses.keeps (f g : Fuses) : Prop :=
  (∀ i, f.lc.getLsbD i = true → g.lc.getLsbD i = true) ∧
  (f.keyFused = true → g.keyFused = true ∧ g.seed = f.seed ∧ g.ident = f.ident ∧ g.root = f.root) ∧
  (∀ h, f.ownerHash = some h → g.ownerHash = some h) ∧
  g.tgrade = f.tgrade ∧ g.screen = f.screen ∧ g.stepping = f.stepping

/-! What stays -/

/-- Every register bit outside the listed fields and the listed whole registers is as it was. -/
def Dev.fieldsKept (d e : Dev) (fs : List (Fld × Nat)) (as : List Nat) : Prop :=
  ∀ a i, a ∉ as → (∀ p ∈ fs, a = p.1.addr p.2 → ¬(p.1.lo ≤ i ∧ i ≤ p.1.hi)) →
    (e.word a).getLsbD i = (d.word a).getLsbD i

/-- Only registers changed, and of them only the listed fields and whole registers. -/
def State.regsOnly (s t : State) (fs : List (Fld × Nat)) (as : List Nat) : Prop :=
  t = { s with dev := { s.dev with regs := t.dev.regs } } ∧ s.dev.fieldsKept t.dev fs as

/-- Only the record of unit u and registers changed, of them only the listed fields and whole registers. -/
def State.unitOnly (s t : State) (u : Nat) (fs : List (Fld × Nat)) (as : List Nat) : Prop :=
  t = { s with dev := { s.dev with regs := t.dev.regs, units := t.dev.units } } ∧
  (∀ v, v ≠ u → t.dev.unit v = s.dev.unit v) ∧ s.dev.fieldsKept t.dev fs as

/-- Only the record of cluster c and registers changed, of them only the listed fields and whole registers. -/
def State.clusterOnly (s t : State) (c : Nat) (fs : List (Fld × Nat)) (as : List Nat) : Prop :=
  t = { s with dev := { s.dev with regs := t.dev.regs, clusters := t.dev.clusters } } ∧
  (∀ v, v ≠ c → t.dev.cluster v = s.dev.cluster v) ∧ s.dev.fieldsKept t.dev fs as

/-- Only the record of region q and registers changed, of them only the listed fields and whole registers. -/
def State.regionOnly (s t : State) (q : Nat) (fs : List (Fld × Nat)) (as : List Nat) : Prop :=
  t = { s with dev := { s.dev with regs := t.dev.regs, regions := t.dev.regions } } ∧
  (∀ v, v ≠ q → t.dev.region v = s.dev.region v) ∧ s.dev.fieldsKept t.dev fs as

/-- Only the record of unit u, registers and the events held by the collector changed. -/
def State.unitEventOnly (s t : State) (u : Nat) (fs : List (Fld × Nat)) (as : List Nat) : Prop :=
  t = { s with dev := { s.dev with
    regs := t.dev.regs, units := t.dev.units, flt := { s.dev.flt with held := t.dev.flt.held } } } ∧
  (∀ v, v ≠ u → t.dev.unit v = s.dev.unit v) ∧
  s.dev.fieldsKept t.dev ((F.FLT_SUPPR_MASKED, 0) :: fs) as

/-! The fault collector -/

/-- The collector works: no reset is held and the boundary register has not taken the pins (R554, R564). -/
abbrev Dev.collects (d : Dev) : Prop := d.hub.resetLow = false ∧ d.hub.porHold = false ∧ d.hub.pinsTaken = false

/-- A source's events are held and recorded later: the class in force is C or D (R474, R481). -/
abbrev Dev.mild (d : Dev) (src : Nat) : Prop := 2 ≤ d.classOf src

/-- What raising an event of class C or D does (R422, R470, R480, R481): its sticky bit is set; when the bit was clear and the
detectors are on, the event is counted as masked or held, with the time of its detection and its location code. -/
def State.signals (s t : State) (f : Fld) (i : Nat) (e : FltEvent) : Prop :=
  t.dev.is f i = true ∧
  (s.dev.is f i = true → t.dev.flt.held = s.dev.flt.held) ∧
  (s.dev.is f i = false → s.dev.collects → s.dev.detectorsOff e = false → (s.dev.maskedAt e.loc = false ∨ isFixed e.src.toNat = true) →
    t.dev.flt.held = s.dev.flt.held ++ [⟨s.dev.time, s.dev.locCode e.loc, e⟩])

end Sys2Proof.Machine
end

