-- ==== Sys2Proof/Certificates/Slice0/Obligations.lean ====
section
/-! DEFINITION. The statements for the provers, by group of commands. -/

open Sys2Proof Sys2Proof.Machine

/-! The machine -/

/-- A step takes the command at the front of the queue and answers what that command does on the rest. -/
def Obligations.StepRunsTheFrontCommand : Prop :=
  ∀ (c : Instr) (s : State), step { s with pending := c :: s.pending } = exec c s

/-- On an empty queue the hub clock ticks: the time base gains one, and the REFA count four while a reference clocks the
hub (R37, R363, R577). That a step without a command is one hub cycle is the model's choice (log entry 2). -/
def Obligations.IdleStepTicks : Prop :=
  ∀ s : State, s.pending = [] → ∃ t, step s = .next t ∧ t.dev.time = s.dev.time + 1 ∧
    (s.dev.is F.CLK_STAT_FALLBACK 0 = true → t.dev.refa = s.dev.refa) ∧
    (s.dev.is F.CLK_STAT_FALLBACK 0 = false → t.dev.refa = s.dev.refa + 4) ∧
    t = { s with dev := { s.dev with time := t.dev.time, refa := t.dev.refa } }

/-- Every well-formed command completes; a burst of no words or of more than 64 (R314, R315) and a fault event of no
source of R472 are turned away by name; nothing faults. -/
def Obligations.CommandsComplete : Prop :=
  ∀ (c : Instr) (s : State), (c.wellFormed = true → ∃ t, exec c s = .next t) ∧
    (c.wellFormed = false → ∃ m, exec c s = .refused (.illFormed m))

/-- Every step keeps the MRAM in its canonical form. -/
def Obligations.MramStaysCanonical : Prop :=
 ∀ s t : State, s.memOk → step s = .next t → t.memOk

/-- The machine at reset meets the invariants: no command waits, the MRAM is canonical, every register holds the reset
value of its table, no copy of a triplicated field differs (R349, R355). That the MRAM lists nothing is the model's
choice (log entry 3). Reset values of the tables of R162, R169, R364, R365, R403, R426 and R521 by field. -/
def Obligations.ResetLeavesTheTables : Prop :=
  (State.reset.memOk ∧ State.reset.pending = [] ∧ (∀ a, State.reset.dev.word a = resetOf a) ∧
     (∀ a, State.reset.dev.voted a = resetOf a) ∧ State.reset.dev.port.resp = none ∧ State.reset.dev.safe = false) ∧
  (∀ u : UnitId,
     (State.reset.dev.get F.LU_TX_CTRL_PRESET u = 3 ∧ State.reset.dev.get F.LU_BU_STAT_STATE u = 0) ∧
     (State.reset.dev.get F.LU_BU_CTRL_EN u = 0 ∧ State.reset.dev.get F.LU_RX_LQI_LQI u = 0xFFFF) ∧
     (State.reset.dev.word (F.LU_TX_FIR_C0.addr u) = presetWord 3 ∧ State.reset.dev.get F.HUB_XW_STAT_COUNT 0 = 0) ∧
     (State.reset.dev.get F.SEC_LC_BUCKET 0 = 8 ∧ State.reset.dev.get F.CLK_STAT_FALLBACK 0 = 1))

/-- No step loses a programmed fuse: the life cycle only gains bits, the identity fuses and the owner hash stay once
they are programmed (R510, R514, R518). No step lowers the anti-rollback minimum, and none takes the signing index back
(R516, R520). -/
def Obligations.SecurityStateNeverGoesBack : Prop :=
  (∀ s t : State, step s = .next t → s.keep.fuses.keeps t.keep.fuses) ∧
  (∀ s t : State, step s = .next t → s.keep.nv.arbMin ≤ t.keep.nv.arbMin ∧ s.keep.nv.sigNext ≤ t.keep.nv.sigNext)

/-- The commands that can change the fuses or the MRAM. -/
def Sys2Proof.Claims.writesKeep : Instr → Bool
  | .startStepDone _ | .watchEnd | .verification | .regionStep _ | .settleEnd _ | .firmwareRestartEnd | .entryDone _ _
    | .calCommit _
  | .snapshot | .scrubStep _ _ _ _ _ | .identityKeyFuseProgramming _ _ _ => true
  | .faultEvent e => (ueWord e).isSome
  | _ => false

/-- No command touches the queue of commands. Every other command leaves the fuses and the MRAM as they were: what
survives a package reset changes by start steps, image commits, calibration commits, snapshots, poisoned words,
operations and fuse programming only (R23, R291, R446, R485, R524). -/
def Obligations.CommandsKeepWhatTheyDoNotWrite : Prop :=
  (∀ (c : Instr) (s t : State), exec c s = .next t → t.pending = s.pending) ∧
  (∀ (c : Instr) (s t : State), Claims.writesKeep c = false → exec c s = .next t → t.keep = s.keep)

/-! The management port as slave -/

/-- The package and the framing of a slave transaction that names registers or none (R314, R315). -/
def Sys2Proof.Claims.slave : Instr → Option (Fin 8 × Framing)
  | .status p f => some (p, f)
  | .read p _ f => some (p, f)
  | .write p _ _ f => some (p, f)
  | .readInc p _ _ f => some (p, f)
  | .readFix p _ _ f => some (p, f)
  | .writeInc p _ ws f => if 1 ≤ ws.length ∧ ws.length ≤ 64 then some (p, f) else none
  | .writeFix p _ ws f => if 1 ≤ ws.length ∧ ws.length ≤ 64 then some (p, f) else none
  | _ => none

/-- The port answers, it is this package, and no written word waits. -/
abbrev Sys2Proof.Claims.addressed (d : Dev) (pkg : Fin 8) : Prop :=
  d.port.answers = true ∧ d.port.queue = [] ∧ pkg.val = d.get F.HUB_GRADE_PKG_ID 0

/-- The flag of a failed transaction (R342). -/
def Sys2Proof.Claims.failFlag : Framing → Fld
  | .short => F.HUB_MP_EVT_SHORT
  | .long => F.HUB_MP_EVT_LONG
  | _ => F.HUB_MP_EVT_CMD_ERR

/-- A short, long or invalid transaction sets its flag, counts in FAILS and sets PERR; no other register changes and
nothing else happens (R319, R320, R342, R343). -/
def Obligations.FailedTransactionsHaveNoOtherEffect : Prop :=
  (∀ (c : Instr) (s : State) (pkg : Fin 8) (fr : Framing), Claims.slave c = some (pkg, fr) → fr ≠ .wellFormed →
    s.dev.port.answers = true → s.dev.port.queue = [] → (fr = .invalid ∨ pkg.val = s.dev.get F.HUB_GRADE_PKG_ID 0) →
    ∃ t, exec c s = .next t ∧ t.dev.is (Claims.failFlag fr) 0 = true ∧
      t.dev.get F.HUB_MP_CNT_FAILS 0 = min (s.dev.get F.HUB_MP_CNT_FAILS 0 + 1) 0xFFFF ∧
      (fr ≠ .long → t.dev.port.resp = none) ∧
      t = { s with dev := { s.dev with
        regs := t.dev.regs, port := { s.dev.port with perr := true, resp := t.dev.port.resp } } } ∧
      s.dev.fieldsKept t.dev [(Claims.failFlag fr, 0), (F.HUB_MP_CNT_FAILS, 0)] [])

/-- A read that has timed out is answered with RDY and zeros, four for each word asked for; it sets RD_TMO, counts in
FAILS and sets PERR, and has no other effect: no other register changes (R318). -/
def Obligations.ReadTimeouts : Prop :=
  ∀ (s : State) (pkg : Fin 8) (addr : BitVec 24) (cnt : Fin 64) (fix : Bool), Claims.addressed s.dev pkg →
    ∃ t b, exec (.rdTmo pkg addr cnt fix) s = .next t ∧
      t.dev.port.resp = some (b :: List.replicate (4 * (cnt.val + 1)) 0) ∧ b.getLsbD 7 = true ∧
      t.dev.is F.HUB_MP_EVT_RD_TMO 0 = true ∧
      t.dev.get F.HUB_MP_CNT_FAILS 0 = min (s.dev.get F.HUB_MP_CNT_FAILS 0 + 1) 0xFFFF ∧ t.dev.port.perr = true ∧
      t = { s with dev := { s.dev with
        regs := t.dev.regs, port := { s.dev.port with perr := true, resp := t.dev.port.resp } } } ∧
      s.dev.fieldsKept t.dev [(F.HUB_MP_EVT_RD_TMO, 0), (F.HUB_MP_CNT_FAILS, 0)] []

/-- A transaction with another package, or before the port answers, gets no response and changes nothing (R314, R338,
R526). The request bytes of an operation spell that operation; fewer bytes spell it short, more bytes or edges long; a
command byte whose MARK is not 10 or whose OP is 7 is invalid (R314, R315, R319). STATUS is answered with one status
byte, bit by bit what R17 names; PERR and LKV clear and nothing else changes (R17, R315, R316, R322). -/
def Obligations.SlavesAnswerTheirPackage : Prop :=
  (∀ (c : Instr) (s : State) (pkg : Fin 8) (fr : Framing), Claims.slave c = some (pkg, fr) → s.dev.port.queue = [] →
     (s.dev.port.answers = false ∨ (fr ≠ .invalid ∧ pkg.val ≠ s.dev.get F.HUB_GRADE_PKG_ID 0)) →
     exec c s = .next { s with dev := { s.dev with port := { s.dev.port with resp := none } } }) ∧
  ((∀ (c : Instr) (pkg : Fin 8), Claims.slave c = some (pkg, .wellFormed) →
     decodeRequest (requestBytes c) false = some c ∧
     (∀ (n : Nat) (extra : Bool), 1 ≤ n → n < (requestBytes c).length →
       ∃ c', decodeRequest ((requestBytes c).take n) extra = some c' ∧ Claims.slave c' = some (pkg, .short)) ∧
     (∀ (more : List Byte) (extra : Bool), more ≠ [] ∨ extra = true →
       ∃ c', decodeRequest (requestBytes c ++ more) extra = some c' ∧ Claims.slave c' = some (pkg, .long))) ∧
   (∀ (b : Byte) (bs : List Byte) (extra : Bool), b.toNat % 4 ≠ 2 ∨ b.toNat / 4 % 8 = 7 →
     ∃ p, decodeRequest (b :: bs) extra = some (.status p .invalid))) ∧
  (∀ (s : State) (pkg : Fin 8), Claims.addressed s.dev pkg →
     ∃ t b, exec (.status pkg .wellFormed) s = .next t ∧ b.getLsbD 7 = true ∧ b.getLsbD 6 = s.dev.port.perr ∧
       b.getLsbD 5 = s.dev.port.posted.isSome ∧ b.getLsbD 4 = s.dev.alert ∧ b.getLsbD 3 = s.dev.port.lkv ∧
       b.getLsbD 2 = false ∧ b.getLsbD 1 = false ∧ b.getLsbD 0 = s.dev.safe ∧
       t = { s with dev := { s.dev with port := { s.dev.port with perr := false, lkv := false, resp := some [b] } } })

/-- A read of an address latches no shadow and takes no completion. -/
abbrev Sys2Proof.Claims.calmAt (d : Dev) (a : Nat) : Prop := d.latched a = none ∧ a ≠ 0x40018

/-- READ, READ_INC and READ_FIX answer with a status byte and the words, lowest byte first, in ascending order or of one
address N times (R315, R316, R317, R321, R324). A register without read-to-clear fields is left as it was, whatever the
number of words; the read of one that has such fields returns them to their reset values and leaves the others (R16,
R320). -/
def Obligations.ReadsReturnRegisters : Prop :=
  (∀ (s : State) (pkg : Fin 8) (addr : BitVec 24) (cnt : Fin 64), Claims.addressed s.dev pkg →
    (Claims.calmAt s.dev addr.toNat →
      ∃ t b, exec (.read pkg addr .wellFormed) s = .next t ∧
        t.dev.port.resp = some (b :: leBytes (s.dev.readWord s.keep addr.toNat).toNat 4) ∧ b.getLsbD 7 = true) ∧
    ((∀ a ∈ burst addr.toNat (cnt.val + 1), Claims.calmAt s.dev a ∧ s.dev.offAt a = false ∧ s.dev.tstAt a = false ∧
        gateOf a = none ∧ (regAt a).any (fun r => decide (r.mask .rc = 0)) = true) → s.dev.flt.poison = [] →
          s.dev.flt.histBad = [] →
      ∃ t b, exec (.readInc pkg addr cnt .wellFormed) s = .next t ∧
        t.dev.port.resp = some (b :: (burst addr.toNat (cnt.val + 1)).flatMap
          (fun a => leBytes (s.dev.readWord s.keep a).toNat 4)) ∧
        t = { s with dev := { s.dev with port := t.dev.port } } ∧ t.dev.port.perr = false ∧ t.dev.port.lkv = false) ∧
    (Claims.calmAt s.dev addr.toNat → s.dev.offAt addr.toNat = false → s.dev.tstAt addr.toNat = false →
      gateOf addr.toNat = none → (regAt addr.toNat).any (fun r => decide (r.mask .rc = 0)) = true → s.dev.flt.poison = [] →
      s.dev.flt.histBad = [] →
      ∃ t b, exec (.readFix pkg addr cnt .wellFormed) s = .next t ∧
        t.dev.port.resp = some (b :: (List.replicate (cnt.val + 1) addr.toNat).flatMap
          (fun a => leBytes (s.dev.readWord s.keep a).toNat 4)) ∧
        t = { s with dev := { s.dev with port := t.dev.port } } ∧ t.dev.port.perr = false ∧ t.dev.port.lkv = false)) ∧
  (∀ (s : State) (pkg : Fin 8) (addr : BitVec 24) (r : RegRow), Claims.addressed s.dev pkg → Claims.calmAt s.dev addr.toNat →
    s.dev.offAt addr.toNat = false → s.dev.tstAt addr.toNat = false → gateOf addr.toNat = none → s.dev.flt.poison = [] →
    s.dev.flt.histBad = [] → regAt addr.toNat = some r →
    ∃ t, exec (.read pkg addr .wellFormed) s = .next t ∧
      t.dev.word addr.toNat = (s.dev.word addr.toNat &&& ~~~ r.mask .rc) ||| (r.resetWord &&& r.mask .rc) ∧
      (∀ a, a ≠ addr.toNat → t.dev.word a = s.dev.word a) ∧
      t = { s with dev := { s.dev with regs := t.dev.regs, port := t.dev.port } })

/-- R14: an address that no register has reads as zero; a write to it, by transaction or from inside, is dropped and
sets PERR (and ADDR_ERR, R324, R342), once no closing gate holds it up (R360); a non-aligned address is such an address.
-/
def Obligations.UnassignedAddresses : Prop :=
  (∀ a : Nat, a % 4 ≠ 0 ∨ 0x2C0000 ≤ a → regAt a = none) ∧
  ∀ (s : State) (pkg : Fin 8) (addr : BitVec 24) (w : Word), regAt addr.toNat = none →
    (Claims.addressed s.dev pkg →
      (∃ t b, exec (.read pkg addr .wellFormed) s = .next t ∧ t.dev.port.resp = some [b, 0, 0, 0, 0]) ∧
      (s.dev.waits addr.toNat = false → ∃ t, exec (.write pkg addr w .wellFormed) s = .next t ∧ t.dev.port.perr = true ∧
        t.dev.is F.HUB_MP_EVT_ADDR_ERR 0 = true ∧ s.dev.fieldsKept t.dev [(F.HUB_MP_EVT_ADDR_ERR, 0)] [] ∧
        t = { s with dev := { s.dev with regs := t.dev.regs, port := t.dev.port } })) ∧
    (∃ t, exec (.registerWrite addr w) s = .next t ∧ t.dev.port.perr = true ∧
      s.dev.fieldsKept t.dev [(F.HUB_MP_EVT_ADDR_ERR, 0)] [] ∧
      t = { s with dev := { s.dev with regs := t.dev.regs, port := { s.dev.port with perr := true } } })

/-- The address of the low word of a 64-bit counter: a unit's counters and the three of the memory check (R247, R507).
-/
abbrev Sys2Proof.Claims.counterLow (a : Nat) : Prop :=
  a = 0x30048 ∨ a = 0x30050 ∨ a = 0x30058 ∨
    ∃ (u : UnitId) (k : Fin 32), a = blkBase .lu u + 0x400 + 8 * k.val ∧ (regAt (a + 4)).isSome = true

/-- R15: a read of the low word of a 64-bit counter returns it and latches the high word; from then on, until the shadow
is written again, every read of the high word returns what was latched, whatever the counter has done meanwhile. -/
def Obligations.CounterShadows : Prop :=
  (∀ (s : State) (pkg : Fin 8) (addr : BitVec 24), Claims.addressed s.dev pkg → Claims.counterLow addr.toNat →
    s.dev.offAt addr.toNat = false → s.dev.tstAt addr.toNat = false →
    ∃ t b, exec (.read pkg addr .wellFormed) s = .next t ∧
      t.dev.port.resp = some (b :: leBytes (s.dev.voted addr.toNat).toNat 4) ∧
      t.dev.shadows.find addr.toNat = some [s.dev.word (addr.toNat + 4)] ∧
      (∀ a, t.dev.word a = s.dev.word a)) ∧
  (∀ (s : State) (pkg : Fin 8) (addr : BitVec 24) (h : Word), Claims.addressed s.dev pkg → 4 ≤ addr.toNat →
    Claims.counterLow (addr.toNat - 4) → s.dev.offAt addr.toNat = false → s.dev.tstAt addr.toNat = false →
    s.dev.shadows.find (addr.toNat - 4) = some [h] →
    ∃ t b, exec (.read pkg addr .wellFormed) s = .next t ∧ t.dev.port.resp = some (b :: leBytes h.toNat 4) ∧
      t.dev.shadows = s.dev.shadows ∧ (∀ a, t.dev.word a = s.dev.word a))

/-- A register of a unit, cluster or region whose fields software just stores: RW, or reserved. -/
def Sys2Proof.Claims.plainAt (a : Nat) (r : RegRow) : Bool :=
  decide (r.mask .rw ≠ 0 ∧ r.mask .wo = 0 ∧ r.mask .rwb = 0 ∧ r.mask .rwt = 0 ∧ r.mask .rwl = 0 ∧ r.mask .rwp = 0) &&
  (match locate a with
   | some (.lu, _, off) => !([0, 0x20, 0x204, 0x300, 0x520, 0x528, 0x534].contains off)
   | some (.cl, _, off) => decide (off ≠ 0 ∧ off ≠ 0x20C ∧ off < 0x2000)
   | some (.rg, _, off) => decide (off ≠ 0x14)
   | _ => false)

/-- A written word meets a register that takes it: it answers, no copy of a field differs, the reserved bits are written
back as read, and no rule of its table drops or refuses the value. -/
abbrev Sys2Proof.Claims.takes (d : Dev) (a : Nat) (w : Word) (r : RegRow) (b : Blk) (i off : Nat) : Prop :=
  regAt a = some r ∧ locate a = some (b, i, off) ∧ Claims.plainAt a r = true ∧ d.offAt a = false ∧ d.tstAt a = false ∧
    d.rwtB.find a = none ∧ d.rwtC.find a = none ∧ (w ^^^ d.word a) &&& r.mask .rsv = 0 ∧ dropsWhole b off w = false ∧
    partRefused b off w = false

/-- The three transactions that write one word. -/
def Sys2Proof.Claims.writesOf (pkg : Fin 8) (addr : BitVec 24) (w : Word) : List Instr :=
  [.write pkg addr w .wellFormed, .writeInc pkg addr [w] .wellFormed, .writeFix pkg addr [w] .wellFormed]

/-- The same commands in order, each from the state the one before left. -/
def Sys2Proof.Claims.inOrder : List Instr → State → State → Prop
  | [], s, t => t = s
  | c :: r, s, t => ∃ m, exec c s = .next m ∧ Claims.inOrder r m t

/-- A committed write of one word, from a transaction or from inside, stores the register's RW fields as its table takes
them and changes no other bit of any register (R16, R317, R320, R349, R356). The words of a WRITE_INC or WRITE_FIX to
hub and die registers act one by one, in order, as single writes do (R315, R321). -/
def Obligations.WritesAndBurstsStore : Prop :=
  (∀ (s : State) (pkg : Fin 8) (addr : BitVec 24) (w : Word) (r : RegRow) (b : Blk) (i off : Nat),
     Claims.takes s.dev addr.toNat w r b i off →
     (∃ t, exec (.registerWrite addr w) s = .next t ∧
       t.dev.word addr.toNat = (s.dev.word addr.toNat &&& ~~~ r.mask .rw) |||
         (normal b off (s.dev.word addr.toNat) w &&& r.mask .rw) ∧
       (∀ a, a ≠ addr.toNat → t.dev.word a = s.dev.word a) ∧ t.dev.port = s.dev.port ∧ t.dev.units = s.dev.units ∧
       t.keep = s.keep) ∧
     (Claims.addressed s.dev pkg → s.dev.waits addr.toNat = false → ∀ c ∈ Claims.writesOf pkg addr w,
       ∃ t x, exec c s = .next t ∧ t.dev.port.resp = some [x] ∧ t.dev.port.perr = false ∧
         t.dev.word addr.toNat = (s.dev.word addr.toNat &&& ~~~ r.mask .rw) |||
           (normal b off (s.dev.word addr.toNat) w &&& r.mask .rw) ∧
         (∀ a, a ≠ addr.toNat → t.dev.word a = s.dev.word a) ∧ t.dev.units = s.dev.units ∧ t.keep = s.keep)) ∧
  (∀ (s : State) (pkg : Fin 8) (addr : BitVec 24) (ws : List Word), Claims.addressed s.dev pkg → 1 ≤ ws.length →
     ws.length ≤ 64 → addr.toNat + 4 * ws.length ≤ 2 ^ 24 →
     ((∀ x ∈ burst addr.toNat ws.length, kerbsOf x = none ∧ x ≠ 0x140) →
       ∃ t t' x, exec (.writeInc pkg addr ws .wellFormed) s = .next t ∧
         Claims.inOrder (((burst addr.toNat ws.length).zip ws).map (fun p => .registerWrite (BitVec.ofNat 24 p.1) p.2))
           { s with dev := { s.dev with port := { s.dev.port with resp := some [x], perr := false, lkv := false } } } t' ∧
         t = { t' with dev := { t'.dev with port := { t'.dev.port with queue := [] } } }) ∧
     (kerbsOf addr.toNat = none → addr.toNat ≠ 0x140 →
       ∃ t t' x, exec (.writeFix pkg addr ws .wellFormed) s = .next t ∧
         Claims.inOrder (ws.map (fun w => .registerWrite addr w))
           { s with dev := { s.dev with port := { s.dev.port with resp := some [x], perr := false, lkv := false } } } t' ∧
         t = { t' with dev := { t'.dev with port := { t'.dev.port with queue := [] } } }))

/-- A write that would change a locked field of HUB_MP_CFG is ignored whole: LKV, its address and its sticky bit are
set, no other register changes (R16, R340, R351, R357, R369). The scrub gives every triplicated field of CLK_CFG the
vote of its copies and reports the repair (R349, R355). -/
def Obligations.LocksAndCopies : Prop :=
  (∀ (s : State) (w : Word) (r : RegRow), s.dev.is F.HUB_CFG_LOCK_LK_MP 0 = true → regAt 0x200 = some r →
     s.dev.mild 0x60 →
     (normal .hub 0x200 (s.dev.voted 0x200) w ^^^ s.dev.voted 0x200) &&& r.mask .rwl ≠ 0 →
     ∃ t, exec (.registerWrite 0x200 w) s = .next t ∧ t.dev.word 0x200 = s.dev.word 0x200 ∧ t.dev.port.lkv = true ∧
       t.dev.get F.HUB_LKV_ADDR_ADDR 0 = 0x200 ∧ t.dev.is F.HUB_REG_EVT_LKV_STICKY 0 = true ∧
       s.dev.fieldsKept t.dev [(F.HUB_LKV_ADDR_ADDR, 0), (F.HUB_REG_EVT_LKV_STICKY, 0), (F.FLT_SUPPR_MASKED, 0)] []) ∧
  (∀ (s : State) (x : Word) (r : RegRow), s.dev.rwtB = [(0x10000, x)] → s.dev.rwtC = [] → regAt 0x10000 = some r →
     s.dev.mild 0x62 → s.dev.offAt 0x10000 = false →
     ∃ t, exec .rwtScrub s = .next t ∧ t.dev.word 0x10000 = s.dev.word 0x10000 ∧
       (∀ f ∈ r.fields, f.acc = .rwt →
         bitsOf (t.dev.copyB 0x10000) f.hi f.lo = bitsOf (s.dev.word 0x10000) f.hi f.lo ∧
         bitsOf (t.dev.copyC 0x10000) f.hi f.lo = bitsOf (s.dev.word 0x10000) f.hi f.lo ∧
         (bitsOf x f.hi f.lo ≠ bitsOf (s.dev.word 0x10000) f.hi f.lo → t.dev.is F.HUB_REG_EVT_RWT_FIX 0 = true)) ∧
       s.dev.fieldsKept t.dev [(F.HUB_REG_EVT_RWT_FIX, 0), (F.FLT_SUPPR_MASKED, 0)] [])

/-- What becomes of the access in progress at a closing gate: none, or one elsewhere, is untouched; one across the gate
is aborted. -/
def Sys2Proof.Claims.cuts (s t : State) (crosses : Nat → Prop) : Option CutAccess → Prop
  | none => t.dev.regs = s.dev.regs ∧ t.dev.port = s.dev.port
  | some (.write a) =>
    (¬ crosses a.toNat → t.dev.regs = s.dev.regs ∧ t.dev.port = s.dev.port) ∧
    (crosses a.toNat → t.dev.is F.HUB_REG_EVT_GATE_ABORT 0 = true ∧ t.dev.port = { s.dev.port with perr := true } ∧
      s.dev.fieldsKept t.dev [(F.HUB_REG_EVT_GATE_ABORT, 0)] [])
  | some (.read a n) =>
    (¬ crosses a.toNat → t.dev.regs = s.dev.regs ∧ t.dev.port = s.dev.port) ∧
    (crosses a.toNat → t.dev.is F.HUB_REG_EVT_GATE_ABORT 0 = true ∧
      (∃ b, t.dev.port = { s.dev.port with perr := true, resp := some (b :: List.replicate (4 * (n.val + 1)) 0) }) ∧
      s.dev.fieldsKept t.dev [(F.HUB_REG_EVT_GATE_ABORT, 0)] [])

/-- A gate closes: a hub block whose clock need not run free and that is idle is gated, a region's kerbs close; an
access in progress across the gate is aborted with GATE_ABORT and PERR, a read returning zero and a write doing nothing;
no other access meets it. A block at work, or whose clock runs free, stays open (R360, R406, R407). -/
def Obligations.GatesClose : Prop :=
  (∀ (s : State) (i : Fin 4) (cut : Option CutAccess), (s.dev.gateFree i || s.dev.gateBusy i) = true →
    exec (.gateClose (.hubBlock i) cut) s = .next s) ∧
  (∀ (s : State) (i : Fin 4) (cut : Option CutAccess), s.dev.gateFree i = false → s.dev.gateBusy i = false →
    ∃ t, exec (.gateClose (.hubBlock i) cut) s = .next t ∧ t.dev.hub.gates.contains i.val = true ∧
      Claims.cuts s t (fun a => gateOf a = some i.val) cut ∧
      t = { s with dev := { s.dev with regs := t.dev.regs, port := t.dev.port, hub := t.dev.hub } } ∧
      t.dev.hub = { s.dev.hub with gates := t.dev.hub.gates }) ∧
  (∀ (s : State) (q : RegionId) (cut : Option CutAccess), (s.dev.region q).gating = true →
    ∃ t, exec (.gateClose (.kerbs q) cut) s = .next t ∧ (t.dev.region q).gating = false ∧
      Claims.cuts s t (fun a => kerbsOf a = some q.val) cut ∧ (∀ p, p ≠ q.val → t.dev.region p = s.dev.region p) ∧
      t = { s with dev := { s.dev with regs := t.dev.regs, port := t.dev.port, regions := t.dev.regions } })

/-- A posted write takes effect when the calibration scheduler takes it: its fields take the written value, PBUSY clears
(R16, R353, R461). A die's bridge takes the waiting word at the head of the queue once its region's kerbs need not
close: the register takes it and the queue is empty (R317, R346, R360). -/
def Obligations.WaitingWordsTakeEffect : Prop :=
  (∀ (s : State) (a : Nat) (w : Word) (r : RegRow), s.dev.port.posted = some (a, w) → s.dev.offAt a = false →
     regAt a = some r →
     ∃ t, exec .postedWriteApply s = .next t ∧ t.dev.port.posted = none ∧
       t.dev.word a = (s.dev.word a &&& ~~~ r.mask .rwp) ||| (normal .hub a (s.dev.word a) w &&& r.mask .rwp) ∧
       (∀ x, x ≠ a → t.dev.word x = s.dev.word x) ∧ t.keep = s.keep ∧ t.dev.units = s.dev.units) ∧
  (∀ (s : State) (n : DieId) (a : Nat) (w : Word) (r : RegRow) (b : Blk) (i off : Nat),
     s.dev.port.queue = [(a, w)] → Claims.takes s.dev a w r b i off → dieOf b i = n.val → s.dev.waits a = false →
     ∃ t, exec (.bridgeWriteAccept n) s = .next t ∧ t.dev.port.queue = [] ∧
       t.dev.word a = (s.dev.word a &&& ~~~ r.mask .rw) ||| (normal b off (s.dev.word a) w &&& r.mask .rw) ∧
       (∀ x, x ≠ a → t.dev.word x = s.dev.word x) ∧ t.keep = s.keep)

/-! The management port as master -/

/-- Flash device 0 answers a read: its discovery has succeeded and every strobe edge is seen. -/
abbrev Sys2Proof.Claims.flashGood (d : Dev) (r : FlashRead) (n : Nat) : Prop :=
  d.is F.HUB_MP_FLASH_DISC_OK 0 = true ∧ r.strobes = true ∧ n ≤ r.bytes.length

/-- The yields of an access in a row, with this one, and what becomes of the bus: an image burst, a page and an access
of the controller count each by itself; one to select code 0 must leave continuous read (R309, R310, R331, R332). -/
def Sys2Proof.Claims.yieldBus (d : Dev) : BusAccess → Nat × BusSt
  | .burst => (d.bus.yields + 1,
      { d.bus with burst := true, ctl := false, yields := d.bus.yields + 1, exitDue := true })
  | .page => (d.bus.pageYields + 1,
      { d.bus with burst := false, ctl := false, pageYields := d.bus.pageYields + 1, exitDue := true })
  | .controller again =>
    ((if again then d.bus.ctlYields else 0) + 1,
      { d.bus with burst := false, ctl := true, ctlYields := (if again then d.bus.ctlYields else 0) + 1 })

/-- The package as bus master: a yield counts and, of select code 0, exits continuous read (R309, R310, R331, R343); an
image burst takes its bytes from its slot (R289, R333); a firmware page whose hash matches becomes valid in the prefetch
buffer, in an empty slot first, else in the least recently used (R282, R334). The package pulls FAULT_N low in safe
state and once its start has halted. FAULT_N sensed low from outside is reported once per low period, as a class D event
with HUB_MP_EVT; when the line is high again nothing else changes (R337, R342, R472, R525). -/
def Obligations.MasterAccesses : Prop :=
  ((∀ (s : State) (acc : BusAccess), s.dev.masters acc = true → s.dev.is F.HUB_MP_EVT_YIELD 0 = true →
     (Claims.yieldBus s.dev acc).1 % 16 ≠ 0 →
     ∃ t, exec (.yield acc) s = .next t ∧ t.dev.bus = (Claims.yieldBus s.dev acc).2 ∧
       t.dev.get F.HUB_MP_CNT_YIELDS 0 = min (s.dev.get F.HUB_MP_CNT_YIELDS 0 + 1) 0xFFFF ∧
       s.dev.fieldsKept t.dev [(F.HUB_MP_CNT_YIELDS, 0)] [] ∧
       t = { s with dev := { s.dev with regs := t.dev.regs, bus := t.dev.bus } }) ∧
   (∀ (s : State) (l : LoadSt) (r : FlashRead), s.dev.img.load = some l → s.dev.fetching = true → 256 ≤ l.bytes.length →
     Claims.flashGood s.dev r (s.dev.burstLength l) →
     ∃ t, exec (.imageBurst r) s = .next t ∧
       t.dev.img.load = some { l with bytes := l.bytes ++ r.bytes.take (s.dev.burstLength l) } ∧
       t.dev.is F.HUB_MP_STAT_CONT0 0 = true ∧ t.dev.bus.yields = 0 ∧
       t.dev.bus.readAt = (if l.source = 1 then 0 else 0x200000) + l.bytes.length ∧ t.dev.bus.readLen = s.dev.burstLength l ∧
       t.dev.hub = { s.dev.hub with gates := s.dev.hub.gates.filter (· ≠ 3) } ∧
       s.dev.fieldsKept t.dev [(F.HUB_MP_STAT_CONT0, 0)] [] ∧
       t = { s with dev := { s.dev with regs := t.dev.regs, bus := t.dev.bus, img := t.dev.img, hub := t.dev.hub } }) ∧
   (∀ (s : State) (page : Fin 256) (miss : Bool) (used : List (Fin 8)) (r : FlashRead), s.dev.pageFetching = true →
     (∀ e ∈ s.dev.bus.pages, e.2 ≠ page.val) → Claims.flashGood s.dev r 1 →
     (Config.sha256 (padTo 4096 (r.bytes.take 4096))).take 16 = sub s.dev.img.pageTable (16 * page.val) 16 →
     ∃ t i, exec (.pageFetch page miss used r) s = .next t ∧ t.dev.bus.pages.find i = some page.val ∧
       (∀ j : Fin 8, s.dev.bus.pages.find j.val = none → i < 8 ∧ s.dev.bus.pages.find i = none) ∧
       (∀ k l, (∀ j : Fin 8, s.dev.bus.pages.find j.val ≠ none) → used = [] → s.dev.bus.lru = k :: l → i = k) ∧
       t.dev.bus.lru.getLast? = some i ∧ t.dev.bus.readAt = s.dev.pageAt page ∧
       (∀ j, j ≠ i → t.dev.bus.pages.find j = s.dev.bus.pages.find j) ∧
       (miss = true → t.dev.get F.HUB_MP_PFMISS_PF_MISS 0 = min (s.dev.get F.HUB_MP_PFMISS_PF_MISS 0 + 1)
         (2 ^ (F.HUB_MP_PFMISS_PF_MISS.hi + 1 - F.HUB_MP_PFMISS_PF_MISS.lo) - 1)) ∧
       s.dev.fieldsKept t.dev [(F.HUB_MP_PFMISS_PF_MISS, 0), (F.HUB_MP_STAT_CONT0, 0)] [])) ∧
  ((∀ s : State, s.dev.bus.faultLow = false → s.dev.safe = false → s.dev.mild 0x66 →
     ∃ t, exec .faultExt s = .next t ∧ t.dev.bus.faultLow = true ∧
       s.signals t F.HUB_MP_EVT_FAULT_EXT 0 ⟨0x66, .package 0, t.dev.word (F.HUB_MP_EVT_FAULT_EXT.addr 0), 0⟩ ∧
       s.dev.fieldsKept t.dev [(F.HUB_MP_EVT_FAULT_EXT, 0), (F.FLT_SUPPR_MASKED, 0)] []) ∧
   (∀ s : State, s.dev.bus.faultLow = true → exec .faultExt s = .next s) ∧
   (∀ s : State, ∃ t, exec .faultNRelease s = .next t ∧ t.dev.bus.faultLow = false ∧
     t = { s with dev := { s.dev with bus := t.dev.bus } } ∧ t.dev.bus = { s.dev.bus with faultLow := false }) ∧
   (∀ s : State, s.dev.faultN = false ↔ s.dev.safe = true ∨ s.dev.start.halted = true))

/-! Resets, start-up, dies -/

/-- The release of reset samples the straps and the start begins; its steps 1 and 2 end with the next STEP, after the
latter the port answers; step 4 writes its ledger entry and begins the next; the watch ends the start (R8, R525, R526,
R528, R531, R539). -/
def Obligations.TheStartBegins : Prop :=
  (∀ (s : State) (straps : Fin 8), s.dev.start.begun = false → s.dev.hub.pinsTaken = false →
    ∃ t, exec (.start straps) s = .next t ∧ t.dev.start.begun = true ∧ t.dev.hub.resetLow = false ∧
      t.dev.get F.HUB_GRADE_PKG_ID 0 = straps.val ∧ s.dev.fieldsKept t.dev [(F.HUB_GRADE_PKG_ID, 0)] [] ∧ t.keep = s.keep) ∧
  (∀ (s : State) (r : StepEnd), s.dev.start.begun = true → s.dev.start.halted = false → s.dev.start.holdRef = false →
    (s.dev.get F.SEC_BL_STAT_STEP 0 = 1 → r.ok = true →
      ∃ t, exec (.startStepDone r) s = .next t ∧ t.dev.get F.SEC_BL_STAT_STEP 0 = 2 ∧ t.keep = s.keep ∧
        t.dev.start.ms = s.dev.start.ms + r.ms ∧ s.dev.fieldsKept t.dev [(F.SEC_BL_STAT_STEP, 0)] []) ∧
    (s.dev.get F.SEC_BL_STAT_STEP 0 = 2 →
      ∃ t, exec (.startStepDone r) s = .next t ∧ t.dev.get F.SEC_BL_STAT_STEP 0 = 3 ∧ t.dev.port.answers = true ∧
        t.keep = s.keep ∧ s.dev.fieldsKept t.dev [(F.SEC_BL_STAT_STEP, 0)] []) ∧
    (s.dev.get F.SEC_BL_STAT_STEP 0 = 4 → r.ok = true →
      ∃ t, exec (.startStepDone r) s = .next t ∧ t.dev.get F.SEC_BL_STAT_STEP 0 = 5 ∧
        ofLe (t.keep.nv.mram.readBytes (recordBase s.keep.nv.bootCount + 32) 8) = stepEntry 4 2 0 r.ms s.dev.start.ms ∧
        (∀ a, (a < recordBase s.keep.nv.bootCount + 32 ∨ recordBase s.keep.nv.bootCount + 48 ≤ a) →
          Memory.read t.keep.nv.mram a = Memory.read s.keep.nv.mram a) ∧
        s.dev.fieldsKept t.dev [(F.SEC_BL_STAT_STEP, 0)] [])) ∧
  (∀ s : State, s.dev.start.begun = true → s.dev.get F.SEC_BL_STAT_STEP 0 = 13 →
    ∃ t, exec .watchEnd s = .next t ∧ t.dev.get F.SEC_BL_STAT_STEP 0 = 0 ∧
      s.dev.fieldsKept t.dev [(F.SEC_BL_STAT_STEP, 0)] [] ∧ t.keep.fuses = s.keep.fuses)

/-- A RESET_N pulse of 1 µs or more, and a power-on reset, put every register but RESET_CAUSE at its reset value, empty
the operation table and leave no die powered; the fuses and the MRAM stay. A pulse below 100 ns does nothing (R23, R338,
R527, R554). A hub link is lost, for the first time or after it has recovered: the die is recorded as lost and LINK_UP
clears in both places, and LINK_LOSS is raised, held where the image makes it class C or D; a recovered link is noted
and LINK_UP shows it, and its blocks serve again only after a reset (R21, R32, R472). -/
def Obligations.PackageResetsAndHubLinks : Prop :=
  ((∀ (s : State) (ns : Nat), 1000 ≤ ns →
     ∃ t, exec (.resetN ns) s = .next t ∧ t.keep = s.keep ∧ t.dev.hub.resetLow = true ∧
       t.dev.get F.SEC_BL_STAT_RESET_CAUSE 0 = 1 ∧ (∀ a, a ≠ F.SEC_BL_STAT_RESET_CAUSE.addr 0 → t.dev.word a = resetOf a) ∧
       t.dev.opt = {} ∧ t.dev.dies = [] ∧ t.dev.units = [] ∧ t.dev.regions = [] ∧ t.dev.port = {} ∧ t.dev.start = {}) ∧
   (∀ (s : State) (ns : Nat), ns < 100 → exec (.resetN ns) s = .next s) ∧
   (∀ s : State, ∃ t, exec .powerOnReset s = .next t ∧ t.keep = s.keep ∧ t.dev.get F.SEC_BL_STAT_RESET_CAUSE 0 = 0 ∧
       (∀ a, a ≠ F.SEC_BL_STAT_RESET_CAUSE.addr 0 → t.dev.word a = resetOf a) ∧ t.dev.hub.tapIr = 2 ∧
       t.dev.hub.pinsTaken = false ∧ t.dev.opt = {} ∧ t.dev.dies = [] ∧ t.dev.units = [] ∧ t.dev.regions = [] ∧
       t.dev.port = {} ∧ t.dev.start = {})) ∧
  ((∀ (s : State) (n : DieId), (s.dev.die n).on = true →
     ((s.dev.die n).lost = false ∨ (s.dev.die n).recovered = true) → s.dev.mild 0x04 →
     ∃ t, exec (.hubLinkLoss n) s = .next t ∧ t.dev.die n = { s.dev.die n with lost := true, recovered := false } ∧
       t.dev.bit F.HUB_TOPO_LINK_UP 0 n = false ∧
       t.dev.get F.DIE_INFO_LINK_UP n = 0 ∧ t.dev.flt.linkLost = true ∧
       (s.dev.collects → (s.dev.die n).underTest = false → (s.dev.die n).masked = false →
         t.dev.flt.held = s.dev.flt.held ++ [⟨s.dev.time, s.dev.locCode (.die n 0 11), ⟨0x04, .die n 0 11, 0, 0⟩⟩]) ∧
       (∀ m, m ≠ n.val → t.dev.die m = s.dev.die m) ∧
       s.dev.fieldsKept t.dev [(F.HUB_TOPO_LINK_UP, 0), (F.DIE_INFO_LINK_UP, n.val), (F.FLT_SUPPR_MASKED, 0)] []) ∧
   (∀ (s : State) (n : DieId), (s.dev.die n).lost = true →
     ∃ t, exec (.hubLinkRecovery n) s = .next t ∧ t.dev.die n = { s.dev.die n with recovered := true } ∧
       t.dev.bit F.HUB_TOPO_LINK_UP 0 n = true ∧ (∀ m, m ≠ n.val → t.dev.die m = s.dev.die m) ∧
       (∀ off, off < 0x4000 → t.dev.off .die n off = true) ∧
       t = { s with dev := { s.dev with regs := t.dev.regs, dies := t.dev.dies } } ∧
       s.dev.fieldsKept t.dev [(F.HUB_TOPO_LINK_UP, 0)] []))

/-! Crosswalks and block resets -/

/-- CROSSWALK_GO completes in every state: a mask of 0 has no effect; another starts a crosswalk: COUNT advances,
LAST_MASK, PENDING and the boundary 64 REFA cycles ahead are shown, the buffered values of the named groups go with it
(R43, R44, R354, R364, R365). -/
def Obligations.CrosswalkGo : Prop :=
  (∀ s : State, exec (.crosswalkGo 0) s = .next s) ∧
  (∀ (s : State) (mask : BitVec 16), mask ≠ 0 →
    ∃ t, exec (.crosswalkGo mask) s = .next t ∧
      t.dev.get F.HUB_XW_STAT_COUNT 0 = (s.dev.get F.HUB_XW_STAT_COUNT 0 + 1) % 256 ∧
      t.dev.get F.HUB_XW_STAT_LAST_MASK 0 = mask.toNat ∧ t.dev.is F.HUB_XW_STAT_PENDING 0 = true ∧
      t.dev.word (F.HUB_XW_TAG_BOUNDARY.addr 0) = BitVec.ofNat 32 (s.dev.refa + 64) ∧
      t.dev.hub = { s.dev.hub with xw := s.dev.hub.xw ++
        [s.dev.buffered.filter (fun e => (s.dev.groupOf e.1).any (fun g => bitOf mask.toNat g))] } ∧
      t.dev.buffered = s.dev.buffered.filter (fun e => !((s.dev.groupOf e.1).any (fun g => bitOf mask.toNat g))) ∧
      t = { s with dev := { s.dev with regs := t.dev.regs, buffered := t.dev.buffered, hub := t.dev.hub } } ∧
      s.dev.fieldsKept t.dev [(F.HUB_XW_STAT_COUNT, 0), (F.HUB_XW_STAT_LAST_MASK, 0), (F.HUB_XW_STAT_PENDING, 0)]
        [F.HUB_XW_TAG_BOUNDARY.addr 0])

/-- The value that a buffered write leaves in its register. -/
def Sys2Proof.Claims.merged (d : Dev) (e : Nat × Word × Word) : Word := (d.word e.1 &&& ~~~ e.2.1) ||| (e.2.2 &&& e.2.1)

/-- The values of a crosswalk that raise no event of class A or B: a register of one of the two FIRs, or LU_HOST_CFG
with its precoding of HOST_RX as it is. -/
abbrev Sys2Proof.Claims.calmCross (d : Dev) (l : List (Nat × Word × Word)) : Prop :=
  ∀ e ∈ l, (∃ u : UnitId, e.1 = F.LU_TX_FIR_C0.addr u ∨ e.1 = F.LU_HTX_FIR_C0.addr u ∨
    e.1 = F.LU_HOST_CFG_HRX_PRECODE.addr u ∧ bitOf (Claims.merged d e).toNat 1 = bitOf (d.word e.1).toNat 1)

/-- The values of a crosswalk within the rules of R161 and R221, one a register, for blocks that answer or not; of
LU_HOST_CFG with its precoding of HOST_RX as it is. -/
abbrev Sys2Proof.Claims.goodCross (d : Dev) (l : List (Nat × Word × Word)) : Prop :=
  (l.map (·.1)).Nodup ∧ ∀ e ∈ l, d.awayAt e.1 = false → ∃ u : UnitId,
    (e.1 = F.LU_TX_FIR_C0.addr u ∧ firOk (Claims.merged d e) = true) ∨
    (e.1 = F.LU_HTX_FIR_C0.addr u ∧ htxFirOk (Claims.merged d e) = true) ∨
    (e.1 = F.LU_HOST_CFG_HRX_PRECODE.addr u ∧ bitOf (Claims.merged d e).toNat 1 = bitOf (d.word e.1).toNat 1)

/-- CROSSWALK completes: at the boundary of the oldest crosswalk every value whose block answers takes effect in its
register, one whose block is off or under test is dropped with XW_DROP, the crosswalk leaves the queue, PENDING clears
with the last one, and nothing else happens (R44, R161, R168, R221, R354, R365, R368). A change of the precoding of
HOST_RX takes effect too, and sends a locked lane back to ADAPT (R235). The boundary of the oldest crosswalk completes
it: it leaves the queue, PENDING clears with the last one, each of its values takes effect in its register, one that
breaks R161 or R221 is discarded with its flag, one for a block that is off or under test is dropped with XW_DROP, and
no other register changes but FLT_SUPPR; with no crosswalk under way nothing changes (R44, R161, R168, R221, R354, R365,
R368). At a crosswalk's boundary a buffered FIR value within the limits of R161 takes effect in its unit, a value
outside them is discarded with FIR_REJ, and a value for a block that is off or under test is dropped with XW_DROP (R44,
R161, R168, R169, R368). -/
def Obligations.Crosswalks : Prop :=
  ((∀ (s : State) (l : List (Nat × Word × Word)) (r : List (List (Nat × Word × Word))), s.dev.hub.xw = l :: r →
     Claims.goodCross s.dev l →
     ∃ t, exec .crosswalk s = .next t ∧ t.dev.hub = { s.dev.hub with xw := r } ∧
       t.dev.get F.HUB_XW_STAT_PENDING 0 = (if r = [] then 0 else s.dev.get F.HUB_XW_STAT_PENDING 0) ∧
       (∀ e ∈ l, s.dev.awayAt e.1 = false → t.dev.word e.1 = Claims.merged s.dev e) ∧
       (∀ e ∈ l, s.dev.awayAt e.1 = true → t.dev.is F.HUB_REG_EVT_XW_DROP 0 = true) ∧
       s.dev.fieldsKept t.dev [(F.HUB_XW_STAT_PENDING, 0), (F.HUB_REG_EVT_XW_DROP, 0)]
         ((l.filter (fun e => !(s.dev.awayAt e.1))).map (·.1)) ∧
       t = { s with dev := { s.dev with regs := t.dev.regs, units := t.dev.units, hub := t.dev.hub } }) ∧
   (∀ (s : State) (u : UnitId) (m v : Word), s.dev.hub.xw = [[(F.LU_HOST_CFG_HRX_PRECODE.addr u, m, v)]] →
     s.dev.awayAt (F.LU_HOST_CFG_HRX_PRECODE.addr u) = false →
       s.dev.is F.LU_HOST_CFG_HRX_PRECODE u = !(bitOf (v &&& m).toNat 1) →
     bitOf m.toNat 1 = true →
     (s.dev.hrx u = 3 ∨ (s.dev.hrx u = 4 ∨ s.dev.hrx u = 5) ∧ (s.dev.inPort u && s.dev.portUp (s.dev.portOf u)) = false) →
     ∃ t, exec .crosswalk s = .next t ∧ t.dev.hub.xw = [] ∧ t.dev.get F.HUB_XW_STAT_PENDING 0 = 0 ∧
       t.dev.word (F.LU_HOST_CFG_HRX_PRECODE.addr u) =
         Claims.merged s.dev (F.LU_HOST_CFG_HRX_PRECODE.addr u, m, v) ∧
       t.dev.hrx u = 2 ∧ (s.dev.hrx u ≠ 3 → t.dev.is F.LU_HOST_EVT_AM_LOL u = true ∧
         t.dev.is F.LU_HOST_STAT_AM_LOCK u = false) ∧
       t.keep = s.keep)) ∧
  ((∀ s : State, s.dev.hub.xw = [] → exec .crosswalk s = .next s) ∧
   (∀ (s : State) (l : List (Nat × Word × Word)) (r : List (List (Nat × Word × Word))), s.dev.hub.xw = l :: r →
     s.dev.mild 0x37 → (l.map (·.1)).Nodup → Claims.calmCross s.dev l →
     ∃ t, exec .crosswalk s = .next t ∧ t.dev.hub.xw = r ∧
       t.dev.get F.HUB_XW_STAT_PENDING 0 = (if r = [] then 0 else s.dev.get F.HUB_XW_STAT_PENDING 0) ∧
       (∀ e ∈ l, s.dev.awayAt e.1 = true → t.dev.word e.1 = s.dev.word e.1 ∧ t.dev.is F.HUB_REG_EVT_XW_DROP 0 = true) ∧
       (∀ e ∈ l, s.dev.awayAt e.1 = false → t.dev.word e.1 =
         (if (e.1 % 0x1000 = 0x200 ∧ firOk (Claims.merged s.dev e) = false) ∨
             (e.1 % 0x1000 = 0x304 ∧ htxFirOk (Claims.merged s.dev e) = false) then s.dev.word e.1
           else Claims.merged s.dev e)) ∧
       (∀ e ∈ l, s.dev.awayAt e.1 = false → ∀ u : UnitId, e.1 = F.LU_TX_FIR_C0.addr u →
         firOk (Claims.merged s.dev e) = false → t.dev.is F.LU_TX_CTRL_FIR_REJ u = true) ∧
       (∀ a, a ∉ l.map (·.1) → a ≠ F.HUB_XW_STAT_PENDING.addr 0 → a ≠ F.HUB_REG_EVT_XW_DROP.addr 0 →
         a ≠ F.FLT_SUPPR_MASKED.addr 0 → (∀ u : UnitId, a ≠ F.LU_TX_CTRL_FIR_REJ.addr u ∧
           a ≠ F.LU_HOST_EVT_HTX_FIR_REJ.addr u) →
         t.dev.word a = s.dev.word a) ∧ t.keep = s.keep)) ∧
  (∀ (s : State) (u : UnitId) (m v : Word), s.dev.hub.xw = [[(F.LU_TX_FIR_C0.addr u, m, v)]] → s.dev.mild 0x37 →
     (s.dev.awayAt (F.LU_TX_FIR_C0.addr u) = false →
       firOk ((s.dev.word (F.LU_TX_FIR_C0.addr u) &&& ~~~ m) ||| (v &&& m)) = true →
       ∃ t, exec .crosswalk s = .next t ∧ t.dev.hub.xw = [] ∧ t.dev.get F.HUB_XW_STAT_PENDING 0 = 0 ∧
         t.dev.word (F.LU_TX_FIR_C0.addr u) = (s.dev.word (F.LU_TX_FIR_C0.addr u) &&& ~~~ m) ||| (v &&& m) ∧
         s.dev.fieldsKept t.dev [(F.HUB_XW_STAT_PENDING, 0)] [F.LU_TX_FIR_C0.addr u]) ∧
     (s.dev.awayAt (F.LU_TX_FIR_C0.addr u) = false →
       firOk ((s.dev.word (F.LU_TX_FIR_C0.addr u) &&& ~~~ m) ||| (v &&& m)) = false →
       ∃ t, exec .crosswalk s = .next t ∧ t.dev.is F.LU_TX_CTRL_FIR_REJ u = true ∧
         t.dev.word (F.LU_TX_FIR_C0.addr u) = s.dev.word (F.LU_TX_FIR_C0.addr u) ∧
         s.dev.fieldsKept t.dev [(F.HUB_XW_STAT_PENDING, 0), (F.LU_TX_CTRL_FIR_REJ, u.val), (F.FLT_SUPPR_MASKED, 0)] []) ∧
     (s.dev.awayAt (F.LU_TX_FIR_C0.addr u) = true →
       ∃ t, exec .crosswalk s = .next t ∧ t.dev.is F.HUB_REG_EVT_XW_DROP 0 = true ∧
         s.dev.fieldsKept t.dev [(F.HUB_XW_STAT_PENDING, 0), (F.HUB_REG_EVT_XW_DROP, 0)] []))

/-- UNIT_RST and CL_RST hold the block in reset and masked, every register of the unit, or of every unit of the cluster,
at its reset value; a write to a block that is off is dropped with PERR (R18, R23, R25, R366, R480, R576). A reset is
released when its hold has run: a unit leaves reset, starts nothing, and its monitor interval is the one that holds the
present token; a region that the retained store gives no section leaves reset asleep in DEEP; a block inside a held one
stays (R295, R576). -/
def Obligations.BlockResetsAndReleases : Prop :=
  ((∀ (s : State) (u : UnitId), s.dev.off .lu u 0 = false → s.dev.tst .lu u = false → (s.dev.unit u).inReset = false →
     ∃ t, exec (.unitRst u) s = .next t ∧ (t.dev.unit u).inReset = true ∧ (t.dev.unit u).masked = true ∧
       (t.dev.unit u).tx = .zero ∧ ∀ off, off < 0x1000 → t.dev.word (blkBase .lu u + off) = resetOf (blkBase .lu u + off)) ∧
   (∀ (s : State) (c : ClusterId), s.dev.off .cl c 0 = false → s.dev.tst .cl c = false → (s.dev.cluster c).inReset = false →
     ∃ t, exec (.clRst c) s = .next t ∧ (t.dev.cluster c).inReset = true ∧ (t.dev.cluster c).masked = true ∧
       (t.dev.cluster c).cal = none ∧ (t.dev.cluster c).scan = none ∧
       ∀ u ∈ unitsOf c, ∀ off, off < 0x1000 → t.dev.word (blkBase .lu u + off) = resetOf (blkBase .lu u + off)) ∧
   (∀ (s : State) (u : UnitId), s.dev.off .lu u 0 = true →
     ∃ t, exec (.unitRst u) s = .next t ∧ t.dev.port.perr = true ∧
       t = { s with dev := { s.dev with port := { s.dev.port with perr := true } } }) ∧
   (∀ (s : State) (c : ClusterId), s.dev.off .cl c 0 = true →
     ∃ t, exec (.clRst c) s = .next t ∧ t.dev.port.perr = true ∧
       t = { s with dev := { s.dev with port := { s.dev.port with perr := true } } })) ∧
  ((∀ (s : State) (u : UnitId), (s.dev.unit u).inReset = true → (s.dev.cluster (u / 8)).inReset = false →
     s.dev.regionHeld (u / 32) = false →
     ∃ t, exec (.resetRelease (.unit u)) s = .next t ∧
       t.dev.unit u = { s.dev.unit u with inReset := false, mon := (t.dev.unit u).mon } ∧
       (t.dev.unit u).mon.start ≤ s.dev.refa ∧ s.dev.refa < (t.dev.unit u).mon.stop ∧
       (t.dev.unit u).mon.stop = (t.dev.unit u).mon.start + 1024 * 2 ^ s.dev.get F.CL_MON_CFG_MON_EXP (u / 8) ∧
       t.dev.regs = s.dev.regs ∧ s.unitOnly t u [] []) ∧
   (∀ (s : State) (u : UnitId), (s.dev.unit u).inReset = true → s.dev.regionHeld (u / 32) = true →
     exec (.resetRelease (.unit u)) s = .next s) ∧
   (∀ (s : State) (q : RegionId), s.dev.mayRelease q = true → s.keep.nv.bank.regions.find q = none →
     ∀ c ∈ [Instr.resetRelease (.region q), .regionRelease q],
     ∃ t, exec c s = .next t ∧ (t.dev.region q).inReset = false ∧ (t.dev.region q).unreleased = false ∧
       t.dev.get F.RG_PWR_STAT_STATE q = 2 ∧ t.dev.bit F.HUB_TOPO_REGION_LIVE 0 q = false ∧ t.keep = s.keep))

/-! References -/

/-- A monitor reference that goes absent reads ABSENT with count 0 and UNVERIFIED; a window in which both references
toggle, pass the coarse check (within 30 % of 1.5625 GHz, the fallback oscillator taken as 380 MHz) and agree moves the
monitor through PRESENT to STABLE and reports the difference (R396 to R399, R427, R428). The hub runs on REFA here; REFB
is the monitor. While reset is held the monitor does not run. The hub boots on REFB when REFA is not STABLE two seconds
after release; a planned switch is accepted or refused with its reason, passes its boundary and ends with the new active
reference; it is refused with LOST when its target becomes ABSENT first (R402 to R405, R425, R427, R430). A cluster PLL
that loses lock sets PLL_UNLOCK and, when that was clear, raises its event at the cluster's clock: held where the image
makes it class C or D (R429, R470, R471, R472). -/
def Obligations.References : Prop :=
  ((∀ s : State, s.dev.monitorOff = false → s.dev.hub.swTarget = none → s.dev.get F.CLK_STAT_ACTIVE 0 = 0 →
     s.dev.is F.CLK_STAT_SW_PEND 0 = false → s.dev.mild 0x67 →
     ∃ t, exec (.refAbsent .refB) s = .next t ∧ t.dev.get F.CLK_STAT_REFB_ST 0 = 0 ∧ t.dev.get F.CLK_STAT_STAB_B 0 = 0 ∧
       t.dev.is F.CLK_STAT_UNVERIFIED 0 = true ∧
       (s.dev.get F.CLK_STAT_REFB_ST 0 ≠ 0 → t.dev.is F.CLK_EVT_MON_LOSS 0 = true) ∧
       s.dev.fieldsKept t.dev [(F.CLK_STAT_REFB_ST, 0), (F.CLK_STAT_STAB_B, 0), (F.CLK_STAT_UNVERIFIED, 0),
         (F.CLK_EVT_MON_LOSS, 0), (F.FLT_SUPPR_MASKED, 0)] []) ∧
   (∀ s : State, s.dev.monitorOff = true → (∀ m, exec (.freqWindow m) s = .next s) ∧ ∀ r, exec (.refAbsent r) s = .next s) ∧
   (∀ (s : State) (m : FreqMeas), s.dev.monitorOff = false → s.dev.hub.swTarget = none → s.dev.hub.moved = true →
     s.dev.get F.CLK_STAT_ACTIVE 0 = 0 → s.dev.get F.CLK_STAT_REFA_ST 0 = 2 → m.toggleA = true → m.toggleB = true →
     coarseGood (2 ^ 22) m.fbCount = true → coarseGood (2 ^ 22 + m.diff) m.fbCount = true →
     m.diff.natAbs ≤ s.dev.clkCfg F.CLK_CFG_REF_TOL → m.diff.natAbs < 2 ^ 15 → s.dev.hub.absent = [] →
     ∃ t, exec (.freqWindow m) s = .next t ∧
       t.dev.hub.clkCfg = s.dev.voted 0x10000 ∧
       (s.dev.get F.CLK_STAT_REFB_ST 0 = 0 → t.dev.get F.CLK_STAT_REFB_ST 0 = 1 ∧ t.dev.get F.CLK_STAT_STAB_B 0 = 0 ∧
         t.dev.get F.CLK_FREQ_DIFF 0 = 0) ∧
       (s.dev.get F.CLK_STAT_REFB_ST 0 = 1 →
         t.dev.get F.CLK_STAT_STAB_B 0 = min (s.dev.get F.CLK_STAT_STAB_B 0 + 1) 15 ∧
         t.dev.get F.CLK_STAT_REFB_ST 0 =
           (if s.dev.clkCfg F.CLK_CFG_STAB_N ≤ min (s.dev.get F.CLK_STAT_STAB_B 0 + 1) 15 then 2 else 1) ∧
         t.dev.get F.CLK_FREQ_DIFF 0 = code m.diff 16) ∧
       t.dev.get F.CLK_STAT_REFA_ST 0 = 2 ∧ t.dev.get F.CLK_FREQ_FB_FREQ 0 =
         fallbackFreq (2 ^ 22 + (if s.dev.get F.CLK_STAT_REFB_ST 0 = 0 then 0 else m.diff)) m.fbCount ∧
       (s.dev.get F.CLK_STAT_REFB_ST 0 ≤ 1 → s.dev.fieldsKept t.dev
         [(F.CLK_STAT_REFB_ST, 0), (F.CLK_STAT_STAB_B, 0), (F.CLK_STAT_REFA_ST, 0), (F.CLK_STAT_STAB_A, 0),
          (F.CLK_STAT_UNVERIFIED, 0), (F.CLK_FREQ_DIFF, 0), (F.CLK_FREQ_FB_FREQ, 0)] []))) ∧
  ((∀ s : State, s.dev.hub.moved = false → s.dev.get F.CLK_STAT_REFA_ST 0 ≠ 2 → s.dev.get F.CLK_STAT_REFB_ST 0 = 2 →
     781250000 ≤ s.dev.time →
     ∃ t, exec .bootRefb s = .next t ∧ t.dev.get F.CLK_STAT_ACTIVE 0 = 1 ∧ t.dev.is F.CLK_STAT_FALLBACK 0 = false ∧
       t.dev.is F.CLK_STAT_BOOT_REFB 0 = true ∧ t.dev.is F.CLK_EVT_RETURN 0 = true ∧ t.dev.hub.moved = true ∧
       s.dev.fieldsKept t.dev [(F.CLK_STAT_ACTIVE, 0), (F.CLK_STAT_FALLBACK, 0), (F.CLK_STAT_BOOT_REFB, 0),
         (F.CLK_EVT_RETURN, 0), (F.CLK_STAT_UNVERIFIED, 0)] []) ∧
   (∀ s : State, s.dev.get F.CLK_STAT_REFB_ST 0 = 2 → s.dev.fallback = false → s.dev.activeRef = 0 →
     (signed (s.dev.get F.CLK_FREQ_DIFF 0) 16).natAbs ≤ s.dev.clkCfg F.CLK_CFG_SW_TOL →
     s.dev.is F.CLK_STAT_SW_PEND 0 = false → s.dev.anyTxn = false → s.dev.get F.PWR_PKG_STATE 0 = 0 →
     ∃ t, exec (.clkSw .refB) s = .next t ∧ t.dev.is F.CLK_STAT_SW_PEND 0 = true ∧ t.dev.get F.CLK_SW_LAST_REASON 0 = 0 ∧
       t.dev.hub.swTarget = some .refB ∧ t.dev.hub.swPassed = false ∧
       s.dev.fieldsKept t.dev [(F.CLK_STAT_SW_PEND, 0), (F.CLK_SW_LAST_REASON, 0)] []) ∧
   (∀ (s : State) (r : Ref), s.dev.get (refSt (refNum r)) 0 ≠ 2 →
     ∃ t, exec (.clkSw r) s = .next t ∧ t.dev.get F.CLK_SW_LAST_REASON 0 = 1 ∧ t.dev.is F.CLK_EVT_SW_REFUSED 0 = true ∧
       s.dev.fieldsKept t.dev [(F.CLK_SW_LAST_REASON, 0), (F.CLK_EVT_SW_REFUSED, 0)] []) ∧
   (∀ s : State, s.dev.is F.CLK_STAT_SW_PEND 0 = true → s.dev.hub.swPassed = false →
     ∃ t, exec .switchBoundary s = .next t ∧ t.dev.hub.swPassed = true ∧ t.dev.is F.CLK_STAT_FALLBACK 0 = false ∧
       (s.dev.fallback = true → t.dev.is F.CLK_EVT_RETURN 0 = true ∧ t.dev.hub.moved = true) ∧
       s.dev.fieldsKept t.dev [(F.CLK_STAT_FALLBACK, 0), (F.CLK_EVT_RETURN, 0)] []) ∧
   (∀ (s : State) (r : Ref), s.dev.is F.CLK_STAT_SW_PEND 0 = true → s.dev.hub.swPassed = true → s.dev.hub.swTarget = some r →
     ∃ t, exec .swDone s = .next t ∧ t.dev.get F.CLK_STAT_ACTIVE 0 = refNum r ∧ t.dev.is F.CLK_EVT_SW_DONE 0 = true ∧
       t.dev.is F.CLK_STAT_SW_PEND 0 = false ∧ t.dev.hub.swTarget = none ∧
       s.dev.fieldsKept t.dev [(F.CLK_STAT_ACTIVE, 0), (F.CLK_EVT_SW_DONE, 0), (F.CLK_STAT_SW_PEND, 0),
         (F.CLK_STAT_UNVERIFIED, 0)] []) ∧
   (∀ (s : State) (r : Ref), s.dev.is F.CLK_STAT_SW_PEND 0 = true → s.dev.hub.swPassed = false → s.dev.hub.swTarget = some r →
     s.dev.monitorOff = false → s.dev.mild 0x67 → (s.dev.running = false ∨ s.dev.activeRef ≠ refNum r) →
     ∃ t, exec (.refAbsent r) s = .next t ∧ t.dev.get (refSt (refNum r)) 0 = 0 ∧ t.dev.get F.CLK_SW_LAST_REASON 0 = 5 ∧
       t.dev.is F.CLK_EVT_SW_REFUSED 0 = true ∧ t.dev.is F.CLK_STAT_SW_PEND 0 = false ∧ t.dev.hub.swTarget = none ∧
       t.keep = s.keep)) ∧
  (∀ (s : State) (c : ClusterId), s.dev.dieServes (c / 8) = true → s.dev.deep (c / 4) = false → s.dev.mild 0x14 →
     ∃ t, exec (.pllUnlock c) s = .next t ∧ s.signals t F.CLK_EVT_PLL_UNLOCK 0 ⟨0x14, .cluster c 6, 0, 0⟩ ∧
       s.dev.fieldsKept t.dev [(F.CLK_EVT_PLL_UNLOCK, 0), (F.FLT_SUPPR_MASKED, 0)] [])

/-! The line -/

/-- Of every unit but u at most gradients of zeroed slots are gone. -/
def Sys2Proof.Claims.othersBut (s t : State) (u : Nat) : Prop :=
  ∀ v, v ≠ u → t.dev.unit v = { s.dev.unit v with canc := { (s.dev.unit v).canc with grads := (t.dev.unit v).canc.grads } }

/-- Of the registers only those of unit u, its cluster's BLOCKS_HELD, DSK_SET of its cluster's ports and the listed ones
changed; of the units only u, but for gradients of zeroed slots; neither the port nor what survives a reset. -/
def Sys2Proof.Claims.within (s t : State) (u : Nat) (as : List Nat) : Prop :=
  Claims.othersBut s t u ∧ t.keep = s.keep ∧ t.dev.port = s.dev.port ∧
  ∀ a, (a < blkBase .lu u ∨ blkBase .lu u + 0x1000 ≤ a) → a ≠ F.CL_RB_POOL_BLOCKS_HELD.addr (u / 8) → a ∉ as →
    (a ≠ F.CL_PORT_STAT_DSK_SET.addr (u / 8) → t.dev.word a = s.dev.word a) ∧
    ∀ i, ¬(F.CL_PORT_STAT_DSK_SET.lo ≤ i ∧ i ≤ F.CL_PORT_STAT_DSK_SET.hi) → (t.dev.word a).getLsbD i = (s.dev.word a).getLsbD i

/-- No margin scan and no calibration run of the unit's cluster, and no diagnostic run. -/
abbrev Sys2Proof.Claims.noRuns (d : Dev) (u : Nat) : Prop :=
  (d.cluster (u / 8)).scan = none ∧ (d.cluster (u / 8)).cal = none ∧ (d.cluster (u / 8)).diag = none

/-- The unit's port is not up. -/
abbrev Sys2Proof.Claims.portIdle (d : Dev) (u : Nat) : Prop := (d.inPort u && d.portUp (d.portOf u)) = false

/-- STATE at the start of an attempt: the announcement, or the first state, cold or warm (R175, R176, R197). -/
def Sys2Proof.Claims.startState (d : Dev) (u : Nat) (cold : Bool) : Nat :=
  if announces (d.unit u).tx then 14 else if cold then 1 else 2

/-- A relock attempt is cold (R175). -/
def Sys2Proof.Claims.relockCold (d : Dev) (u : Nat) : Bool :=
  d.is F.LU_RB_CTRL_FORCE_COLD u || decide (3 ≤ d.get F.LU_BU_STAT_FAIL_CNT u)

/-- The runs of silent and of energetic tokens after a token: by the energy of what leaves the cancellers (R152). -/
def Sys2Proof.Claims.energyNoted (s t : State) (u : UnitId) (r : RxToken) : Prop :=
  let tag := s.dev.refa + r.sub.val
  let p := power ((s.dev.applyGrads u tag).equalise u tag ((s.keep.fuses.routes.find u.val).getD 0) r).resid
  (t.dev.unit u).rx.silent =
    (if belowFs p 68 (s.dev.get F.LU_RX_CFG_ED_SIL_THR u) then (s.dev.unit u).rx.silent + 1 else 0) ∧
  (t.dev.unit u).rx.energetic =
    (if aboveFs p 68 (s.dev.get F.LU_RX_CFG_ED_WAKE_THR u) then (s.dev.unit u).rx.energetic + 1 else 0)

/-- A SIMPLEX lane that is in use and up. -/
abbrev Sys2Proof.Claims.stdUp (d : Dev) (u : Nat) : Prop := d.pathLive u = true ∧ d.get F.LU_BU_STAT_STATE u = 10

/-- A token of the line's receiver. One of a unit that is not in use, or whose cluster's front ends are off, is not
taken, one that an entry slip drops is lost, one of a unit with EN = 0 shows its cycle time alone (R153). Of the others
in a DUPLEX unit, the timing loop's step that was announced two tokens before takes effect in PHASE (R147, R164), a DFE
tap moves by one step at most, and not without header lock or in a quiet direction (R73, R144, R164), the runs of silent
and of energetic tokens follow the energy that leaves the cancellers (R152); of the registers only those of the unit
change (R38, R39). The token of a SIMPLEX lane that is up waits for those of the other lanes that are up, and with the
last of them all are processed; that it waits is the model's choice (log entry 55). A token of the line-bound direction
reaches the unit that the crossbar gives its lane (R216); of a lane that serves no unit it clocks a unit without a lane,
by the model's choice (log entry 75). One of a unit that is not in use, or whose cluster's front ends are off, is not
taken, one that a slip drops is lost (R38). A unit with EN 0, or whose transmitter is at zero or in QUIET, sends zeros:
the FIR runs out, then there is no differential output and the history takes zeros (R40, R62, R69, R90, R174). One in
data mode stays there and drives a whole token, the history holds 4,096 codes at most (R90). A quiet notice waits while
one of its 8 tokens would hold a marker bit; TX_QUIET is set at its first token, by the model's choice (R69, R84; log
entry 58). One in training sends block after block of a frame of 40, each control block under the next SEQ (R53, R55); a
countdown begins with a frame, on the marker that follows the switch (R194); an announcement ends in training, and STATE
shows the state reached (R197). -/
def Obligations.TokensOfTheLine : Prop :=
  ((∀ (s : State) (u : UnitId) (r : RxToken), (s.dev.pathLive u && s.dev.frontOn u) = false →
     exec (.lineToken u r) s = .next s) ∧
   (∀ (s : State) (u : UnitId) (r : RxToken), (s.dev.pathLive u && s.dev.frontOn u) = true → (s.dev.unit u).dropRx = true →
     ∃ t, exec (.lineToken u r) s = .next t ∧ t.dev.unit u = { s.dev.unit u with dropRx := false } ∧
       t.dev.regs = s.dev.regs ∧ s.unitOnly t u [] []) ∧
   (∀ (s : State) (u : UnitId) (r : RxToken), (s.dev.pathLive u && s.dev.frontOn u) = true → (s.dev.unit u).dropRx = false →
     s.dev.is F.LU_BU_CTRL_EN u = false →
     ∃ t, exec (.lineToken u r) s = .next t ∧ (t.dev.unit u).rx.slowRx = max (s.dev.unit u).rx.slowRx r.cycle ∧
       (t.dev.unit u).rx.tag = (s.dev.unit u).rx.tag ∧ t.dev.regs = s.dev.regs ∧ ∀ v, v ≠ u.val → t.dev.unit v = s.dev.unit v) ∧
   (∀ (s : State) (u : UnitId) (r : RxToken), (s.dev.pathLive u && s.dev.frontOn u) = true → (s.dev.unit u).dropRx = false →
     s.dev.is F.LU_BU_CTRL_EN u = true → s.dev.duplex (u / 8) = false → s.dev.get F.LU_BU_STAT_STATE u = 10 →
     (∀ e ∈ (s.dev.cluster (u / 8)).stdWait, e.2.1 = s.dev.refa + r.sub.val) →
     ((∃ l : Fin 4, l.val ≠ u.val % 8 ∧ Claims.stdUp s.dev (8 * (u / 8) + l.val) ∧
         (s.dev.cluster (u / 8)).stdWait.find l.val = none) →
       ∃ t, exec (.lineToken u r) s = .next t ∧
         (t.dev.cluster (u / 8)).stdWait.find (u.val % 8) = some (s.dev.refa + r.sub.val, r) ∧ t.dev.regs = s.dev.regs ∧
         t.dev.units = s.dev.units ∧ t.keep = s.keep) ∧
     ((∀ l : Fin 4, l.val ≠ u.val % 8 → Claims.stdUp s.dev (8 * (u / 8) + l.val) →
         ((s.dev.cluster (u / 8)).stdWait.find l.val).isSome = true) →
       ∃ t, exec (.lineToken u r) s = .next t ∧ (t.dev.cluster (u / 8)).stdWait = [] ∧
         (t.dev.unit u).rx.tag = s.dev.refa + r.sub.val + 1 ∧ t.keep = s.keep)) ∧
   (∀ (s : State) (u : UnitId) (r : RxToken), (s.dev.pathLive u && s.dev.frontOn u) = true → (s.dev.unit u).dropRx = false →
     s.dev.is F.LU_BU_CTRL_EN u = true → s.dev.duplex (u / 8) = true → s.dev.get F.LU_RX_STAT_DFE_H1 u ≤ 24 →
     (s.dev.unit u).rx.h1Low < 256 →
     ∃ t, exec (.lineToken u r) s = .next t ∧ (t.dev.unit u).rx.tag = s.dev.refa + r.sub.val + 1 ∧
       (t.dev.unit u).rx.past = (r.codes.toList.map sampleCode).reverse.take 8 ∧
       (t.dev.unit u).canc.phase = (s.dev.unit u).canc.phase +
         (if s.dev.timing u then ((s.dev.unit u).rx.steps.head?).getD 0 else 0) ∧
       (s.dev.timing u = true → t.dev.get F.LU_RX_STAT_PHASE u = ((t.dev.unit u).canc.phase % 64).toNat) ∧
       (s.dev.timing u = false → t.dev.get F.LU_RX_STAT_PHASE u = s.dev.get F.LU_RX_STAT_PHASE u) ∧
       t.dev.get F.LU_RX_STAT_DFE_H1 u ≤ s.dev.get F.LU_RX_STAT_DFE_H1 u + 1 ∧
       s.dev.get F.LU_RX_STAT_DFE_H1 u ≤ t.dev.get F.LU_RX_STAT_DFE_H1 u + 1 ∧
       (s.dev.is F.LU_LINE_FRAME_HDR_LOCK u = false ∨ s.dev.rxHeld u = true →
         t.dev.get F.LU_RX_STAT_DFE_H1 u = s.dev.get F.LU_RX_STAT_DFE_H1 u) ∧
       Claims.energyNoted s t u r ∧ Claims.within s t u [])) ∧
  ((∀ (s : State) (n : UnitId) (h : HostToken), (s.dev.pathLive (s.dev.laneUnit n) && s.dev.frontOn (s.dev.laneUnit n))
    = false →
     exec (.hostRxToken n h) s = .next s) ∧
   (∀ (s : State) (n u : UnitId) (h : HostToken), s.dev.laneUnit n = u.val → (s.dev.pathLive u && s.dev.frontOn u) = true →
     (s.dev.unit u).dropHrx = true →
     ∃ t, exec (.hostRxToken n h) s = .next t ∧ t.dev.unit u = { s.dev.unit u with dropHrx := false } ∧
       t.dev.regs = s.dev.regs ∧ s.unitOnly t u [] []) ∧
   (∀ (s : State) (n u : UnitId) (h : HostToken), s.dev.laneUnit n = u.val → (s.dev.pathLive u && s.dev.frontOn u) = true →
     (s.dev.unit u).dropHrx = false →
     (s.dev.is F.LU_BU_CTRL_EN u = false ∨
       s.dev.duplex (u / 8) = true ∧ ((s.dev.unit u).tx = .zero ∨ (s.dev.unit u).tx = .quiet ∧ (s.dev.unit u).rouse = false)) →
     ∃ t, exec (.hostRxToken n h) s = .next t ∧ (t.dev.unit u).txSyms = [0, 0, 0, 0] ∧
       (t.dev.unit u).tx = (s.dev.unit u).tx ∧ t.keep = s.keep ∧
       (∀ v, v ≠ u.val → v ≠ s.dev.txPair u → t.dev.unit v = s.dev.unit v) ∧
       (∀ a, (a < blkBase .lu u ∨ blkBase .lu u + 0x1000 ≤ a) → t.dev.word a = s.dev.word a) ∧
       ((s.dev.unit u).txSyms = [0, 0, 0, 0] → (t.dev.unit (s.dev.txPair u)).lineOut = none ∧
         (s.dev.duplex (u / 8) = true → (t.dev.unit u).canc.hist =
           ((s.dev.unit u).canc.push (68 * (s.dev.refa + h.sub.val + 3 + b2n (s.dev.inPort u && decide (1 < s.dev.width
             u))) - 2)
             (List.replicate 68 0)).hist))) ∧
   (∀ (s : State) (n u : UnitId) (h : HostToken), s.dev.laneUnit n = u.val → (s.dev.pathLive u && s.dev.frontOn u) = true →
     (s.dev.unit u).dropHrx = false →
     s.dev.is F.LU_BU_CTRL_EN u = true → s.dev.duplex (u / 8) = true → (s.dev.unit u).tx = .data →
     (s.dev.unit u).txWant = none →
     ∃ t, exec (.hostRxToken n h) s = .next t ∧ (t.dev.unit u).tx = .data ∧ (t.dev.unit u).txSyms.length = 4 ∧
       (∀ x, (t.dev.unit u).lineOut = some x → x.length = 68) ∧ (t.dev.unit u).canc.hist.length ≤ 4096 ∧
       Claims.within s t u []) ∧
   (∀ (s : State) (n u : UnitId) (h : HostToken), s.dev.laneUnit n = u.val → (s.dev.pathLive u && s.dev.frontOn u) = true →
     (s.dev.unit u).dropHrx = false →
     s.dev.is F.LU_BU_CTRL_EN u = true → s.dev.duplex (u / 8) = true →
     ((s.dev.unit u).tx = .data → (s.dev.unit u).txWant = some .quietNotice →
       ∃ t, exec (.hostRxToken n h) s = .next t ∧ Claims.within s t u [] ∧
         (marksIn (s.dev.txGrid u) (s.dev.refa + h.sub.val) 8 = true →
           (t.dev.unit u).tx = .data ∧ (t.dev.unit u).txWant = some .quietNotice ∧
           t.dev.is F.LU_LINE_FRAME_TX_QUIET u = s.dev.is F.LU_LINE_FRAME_TX_QUIET u) ∧
         (marksIn (s.dev.txGrid u) (s.dev.refa + h.sub.val) 8 = false →
           (t.dev.unit u).tx = .quietNotice ∧ (t.dev.unit u).txWant = none ∧ (t.dev.unit u).txLeft = 7 ∧
           t.dev.is F.LU_LINE_FRAME_TX_QUIET u = true)) ∧
     ((s.dev.unit u).tx = .training → (s.dev.unit u).txWant = none →
       ∃ t, exec (.hostRxToken n h) s = .next t ∧ (t.dev.unit u).tx = .training ∧
         (t.dev.unit u).txBlock = ((s.dev.unit u).txBlock + 1) % 40 ∧
         (t.dev.unit u).txSeq = (if (s.dev.unit u).txBlock = 0 then ((s.dev.unit u).txSeq + 1) % 16 else (s.dev.unit u).txSeq) ∧
         Claims.within s t u []) ∧
     ((s.dev.unit u).tx = .training → (s.dev.unit u).txWant = some .countdown → (s.dev.unit u).txBlock = 0 →
       ∃ t, exec (.hostRxToken n h) s = .next t ∧ (t.dev.unit u).tx = .countdown ∧ (t.dev.unit u).txWant = none ∧
         (t.dev.unit u).txLeft = max 1 (s.dev.get F.LU_BU_CFG_SWITCH_LEN u) ∧
         (t.dev.unit u).txMark = s.dev.nextMark u (s.dev.refa + h.sub.val + 40 * max 1 (s.dev.get F.LU_BU_CFG_SWITCH_LEN u)) ∧
         Claims.within s t u []) ∧
     ((s.dev.unit u).tx = .announce → (s.dev.unit u).txWant = none → (s.dev.unit u).txLeft = 1 →
       ∃ t, exec (.hostRxToken n h) s = .next t ∧ (t.dev.unit u).tx = .training ∧ (t.dev.unit u).txBlock = 0 ∧
         t.dev.get F.LU_BU_STAT_STATE u = (s.dev.unit u).reached % 32 ∧ Claims.within s t u [])))

/-- The fields that an accepted body updates. -/
def Sys2Proof.Claims.farFields : List Fld :=
  [F.LU_LINE_FRAME_FAR_CF, F.LU_LINE_FRAME_FAR_SEQ, F.LU_LINE_FRAME_FAR_FEC, F.LU_BU_NEG_FAR_CAP, F.LU_BU_NEG_FAR_PRECODE_REQ,
    F.LU_BU_STAT_FAR_READY, F.LU_LINE_FRAME_PORT_MISMATCH]

/-- An accepted body in data mode that tells nothing new: the far end is known, its capabilities are as they were, its
state is none of a restart, its port matches. -/
abbrev Sys2Proof.Claims.quietBody (d : Dev) (u : Nat) (b : BitVec 134) : Prop :=
  bodyOk b = true ∧ d.get F.LU_LINE_FRAME_RX_FMT u = 2 ∧ d.get F.LU_BU_STAT_STATE u = 10 ∧ (d.unit u).far.seen = true ∧
    bodyField b 27 12 = d.get F.LU_BU_NEG_FAR_CAP u ∧ bodyField b 11 8 ≠ 1 ∧ bodyField b 11 8 ≠ 2 ∧
    d.chkAgrees u (bodyField b 39 32) = true

/-- Bits in which a marker differs from that of the lane's place in its port. -/
def Sys2Proof.Claims.markerDiff (d : Dev) (u : Nat) (bits : BitVec 240) : Nat :=
  bitDiff ((List.range 240).map bits.getLsbD) ((List.range 240).map (Config.amBits (d.width u) (d.pos u)).getLsbD)

/-- Bit time of the next marker as one at bit time m announces it: MARKER_PHASE and MARKER_BIT count from its token
(R64). -/
def Sys2Proof.Claims.announcedMark (m : Nat) (bits : BitVec 240) : Nat :=
  136 * (m / 136 + bodyField (BitVec.ofNat 134 (bits.toNat / 4)) 94 77) + bodyField (BitVec.ofNat 134 (bits.toNat / 4)) 102 95

/-- A slip re-centres its buffer at the start fill of R36, leaves the other three, and is reported at the unit; an entry
buffer drops the token that comes next (R36, R38, R167). A marker that the receiver has read: with none nothing changes.
In a DUPLEX unit its header is checked and an invalid one counted (R67, R181, R245); a body that its CRC or type rejects
is counted and reported (R57), a good one announces the next marker (R64). A marker confirms the port's deskew when it
lies within 8 bits of its place, and in SIMPLEX differs in no more than three bits; it sets DESKEW_ERR else (R224,
R233). An invalid marker of a SIMPLEX lane that knows no place yet was none, by the model's reading (log entry 57). -/
def Obligations.SlipsAndMarkers : Prop :=
  (∀ (s : State) (u : UnitId) (b : Buf), s.dev.pathLive u = true → s.dev.mild 0x23 →
     ∃ t, exec (.elasticSlip u b) s = .next t ∧ t.dev.is (slipFld b) u = true ∧
       (t.dev.unit u).fills.1 = (if b = .lineRx then 0 else (s.dev.unit u).fills.1) ∧
       (t.dev.unit u).fills.2.1 = (if b = .hostTx then 2 else (s.dev.unit u).fills.2.1) ∧
       (t.dev.unit u).fills.2.2.1 = (if b = .hostRx then 0 else (s.dev.unit u).fills.2.2.1) ∧
       (t.dev.unit u).fills.2.2.2 = (if b = .lineTx then 2 else (s.dev.unit u).fills.2.2.2) ∧
       (t.dev.unit u).dropRx = ((s.dev.unit u).dropRx || decide (b = .lineRx)) ∧
       (t.dev.unit u).dropHrx = ((s.dev.unit u).dropHrx || decide (b = .hostRx)) ∧
       s.unitEventOnly t u [(slipFld b, u.val)] []) ∧
  ((∀ (s : State) (u : UnitId), (s.dev.unit u).rx.marks = [] → exec (.lineMarker u) s = .next s) ∧
   (∀ (s : State) (u : UnitId) (m : Nat) (bits : BitVec 240) (r : List (Nat × BitVec 240)), s.dev.lineLive u = true →
     s.dev.rxData u = true → (s.dev.unit u).rx.marks = (m, bits) :: r → s.dev.mild 0x30 →
     bodyOk (BitVec.ofNat 134 (bits.toNat / 4)) = false →
     ∃ t, exec (.lineMarker u) s = .next t ∧ (t.dev.unit u).rx.marks = r ∧ t.dev.is F.LU_LINE_EVT_CRC_ERR u = true ∧
       (t.dev.unit u).hdrWin = ((bits.getLsbD 0 && !(bits.getLsbD 1)) :: (s.dev.unit u).hdrWin).take 64 ∧
       t.dev.count (blkBase .lu u + 0x440) =
         (if bits.getLsbD 0 && !(bits.getLsbD 1) then s.dev.count (blkBase .lu u + 0x440)
          else min (s.dev.count (blkBase .lu u + 0x440) + 1) (2 ^ 64 - 1)) ∧
       t.dev.count (blkBase .lu u + 0x448) = min (s.dev.count (blkBase .lu u + 0x448) + 1) (2 ^ 64 - 1) ∧
       s.unitEventOnly t u [(F.LU_LINE_EVT_CRC_ERR, u.val)]
         [blkBase .lu u + 0x440, blkBase .lu u + 0x444, blkBase .lu u + 0x448, blkBase .lu u + 0x44C]) ∧
   (∀ (s : State) (u : UnitId) (m p : Nat) (bits : BitVec 240) (r : List (Nat × BitVec 240)), s.dev.lineLive u = true →
     s.dev.rxData u = true → (s.dev.inPort u && decide (1 < s.dev.width u)) = false →
     (s.dev.unit u).rx.marks = (m, bits) :: r → (s.dev.unit u).rx.mark = some p →
     Claims.quietBody s.dev u (BitVec.ofNat 134 (bits.toNat / 4)) →
     ∃ t, exec (.lineMarker u) s = .next t ∧ (t.dev.unit u).rx.marks = r ∧ (t.dev.unit u).rx.markBits = [] ∧
       (t.dev.unit u).rx.mark = some (136 * (m / 136 + bodyField (BitVec.ofNat 134 (bits.toNat / 4)) 94 77) +
         bodyField (BitVec.ofNat 134 (bits.toNat / 4)) 102 95) ∧
       (t.dev.unit u).hdrWin = ((bits.getLsbD 0 && !(bits.getLsbD 1)) :: (s.dev.unit u).hdrWin).take 64 ∧
       s.unitOnly t u ((Claims.farFields).map (fun f => (f, u.val))) [blkBase .lu u + 0x440, blkBase .lu u + 0x444]) ∧
   (∀ (s : State) (u : UnitId) (m p q : Nat) (bits : BitVec 240) (r : List (Nat × BitVec 240)), s.dev.lineLive u = true →
     s.dev.rxData u = true → s.dev.inPort u = true → 1 < s.dev.width u →
     (s.dev.unit u).rx.marks = (m, bits) :: r → (s.dev.unit u).rx.mark = some p → (s.dev.unit u).rx.place = some q →
     Claims.quietBody s.dev u (BitVec.ofNat 134 (bits.toNat / 4)) →
     (8 < (markGap (Claims.announcedMark m bits) q).natAbs → Claims.portIdle s.dev u →
       ∃ t, exec (.lineMarker u) s = .next t ∧ t.dev.is F.LU_HOST_EVT_DESKEW_ERR u = true ∧
         (t.dev.cluster (u / 8)).lineBad.contains (u.val % 8) = true ∧
         (t.dev.unit u).rx.mark = some (Claims.announcedMark m bits) ∧ t.keep = s.keep) ∧
     ((markGap (Claims.announcedMark m bits) q).natAbs ≤ 8 → (s.dev.cluster (u / 8)).lineDsk.contains (s.dev.base u) = true →
       ∃ t, exec (.lineMarker u) s = .next t ∧ (t.dev.cluster (u / 8)).lineBad.contains (u.val % 8) = false ∧
         (t.dev.unit u).rx.mark = some (Claims.announcedMark m bits) ∧ (t.dev.unit u).rx.place = some q ∧ t.keep = s.keep)) ∧
   (∀ (s : State) (u : UnitId) (m : Nat) (bits : BitVec 240) (r : List (Nat × BitVec 240)), s.dev.pathLive u = true →
     s.dev.duplex (u / 8) = false → s.dev.rxData u = true → s.dev.inPort u = true → 1 < s.dev.width u →
     (s.dev.unit u).rx.marks = (m, bits) :: r →
     (∀ p, (s.dev.unit u).rx.place = some p → 3 < Claims.markerDiff s.dev u bits ∨ 8 < (markGap m p).natAbs →
       Claims.portIdle s.dev u →
       ∃ t, exec (.lineMarker u) s = .next t ∧ t.dev.is F.LU_HOST_EVT_DESKEW_ERR u = true ∧
         (t.dev.cluster (u / 8)).lineBad.contains (u.val % 8) = true ∧ (t.dev.unit u).rx.marks = r ∧ t.keep = s.keep) ∧
     (Claims.markerDiff s.dev u bits ≤ 3 → (∀ p, (s.dev.unit u).rx.place = some p → (markGap m p).natAbs ≤ 8) →
       (s.dev.cluster (u / 8)).lineDsk.contains (s.dev.base u) = true →
       ∃ t, exec (.lineMarker u) s = .next t ∧ (t.dev.cluster (u / 8)).lineBad.contains (u.val % 8) = false ∧
         (t.dev.unit u).rx.marks = r ∧ (t.dev.unit u).rx.place.isSome = true ∧ t.keep = s.keep) ∧
     (3 < Claims.markerDiff s.dev u bits → (s.dev.unit u).rx.place = none →
       ∃ t, exec (.lineMarker u) s = .next t ∧ (t.dev.unit u).rx.mark = none ∧ (t.dev.unit u).rx.marks = r ∧
         t.dev.regs = s.dev.regs ∧ s.unitOnly t u [] [])))

/-- A control body that the receiver has read is accepted by its CRC and type: the far values take its fields; a body
that fails is counted and reported and changes no far value; with none nothing changes (R55, R57, R58, R84, R212). The
accepted body is one of data mode that tells nothing new. -/
def Obligations.ControlBodies : Prop :=
  (∀ (s : State) (u : UnitId), (s.dev.unit u).rx.bodies = [] → exec (.controlBlock u) s = .next s) ∧
  (∀ (s : State) (u : UnitId) (tag : Nat) (b : BitVec 134) (r : List (Nat × BitVec 134)), s.dev.lineLive u = true →
    s.dev.is F.LU_LINE_FRAME_HDR_LOCK u = true → (s.dev.unit u).rx.bodies = (tag, b) :: r → bodyOk b = false → s.dev.mild 0x30 →
    ∃ t, exec (.controlBlock u) s = .next t ∧ t.dev.is F.LU_LINE_EVT_CRC_ERR u = true ∧ (t.dev.unit u).rx.bodies = r ∧
      (t.dev.unit u).far = (s.dev.unit u).far ∧
      t.dev.count (blkBase .lu u + 0x448) = min (s.dev.count (blkBase .lu u + 0x448) + 1) (2 ^ 64 - 1) ∧
      s.unitEventOnly t u [(F.LU_LINE_EVT_CRC_ERR, u.val)] [blkBase .lu u + 0x448, blkBase .lu u + 0x44C]) ∧
  (∀ (s : State) (u : UnitId) (tag : Nat) (b : BitVec 134) (r : List (Nat × BitVec 134)), s.dev.lineLive u = true →
    s.dev.is F.LU_LINE_FRAME_HDR_LOCK u = true → (s.dev.unit u).rx.bodies = (tag, b) :: r → Claims.quietBody s.dev u b →
    ∃ t, exec (.controlBlock u) s = .next t ∧ t.dev.get F.LU_LINE_FRAME_FAR_CF u = bodyField b 3 0 ∧
      t.dev.get F.LU_LINE_FRAME_FAR_SEQ u = bodyField b 7 4 ∧ t.dev.get F.LU_LINE_FRAME_FAR_FEC u = bodyField b 29 28 ∧
      t.dev.get F.LU_BU_NEG_FAR_PRECODE_REQ u = bodyField b 30 30 ∧ t.dev.get F.LU_BU_STAT_FAR_READY u = bodyField b 72 72 ∧
      t.dev.get F.LU_LINE_FRAME_PORT_MISMATCH u = 0 ∧ (t.dev.unit u).far.chk = bodyField b 39 32 ∧
      (t.dev.unit u).rx.bodies = r ∧ s.unitOnly t u ((Claims.farFields).map (fun f => (f, u.val))) [])

/-- The receive direction on notices: QUIET, hold, the end of resume, good or not, and the wake; each touches the named
fields and the unit's own record only (R69 to R75, R84, R175, R197, R198, R232). RX_QUIET clears at the end of a good
resume by the model's choice (log entry 58). The transmit side: a resume, which from hold waits for the end of the frame
in progress (R54), sends 12 frames and ends in data mode; the switch to data waits for its frame and ends in data mode
with FAIL_CNT cleared and UP_TIME taken; the far start point sets the receive direction to data (R68, R70, R71, R76,
R77, R176, R193 to R195, R204, R210). That TX_QUIET clears at its start, that TX_HOLD stands until the end of the
resume, and that LAST_REASON clears with FAIL_CNT, are the model's readings (log entries 58 and 20). -/
def Obligations.NoticesAndTheSwitchToData : Prop :=
  ((∀ (s : State) (u : UnitId), s.dev.lineLive u = true → s.dev.rxData u = true → s.dev.noticed u 12 4 = true →
     Claims.noRuns s.dev u →
     ∃ t, exec (.quietNotice u) s = .next t ∧ t.dev.is F.LU_LINE_FRAME_RX_QUIET u = true ∧
       s.unitOnly t u [(F.LU_LINE_FRAME_RX_QUIET, u.val)] []) ∧
   (∀ (s : State) (u : UnitId), s.dev.lineLive u = true → s.dev.rxData u = true → s.dev.noticed u 5 4 = true →
     Claims.noRuns s.dev u → Claims.portIdle s.dev u →
     ∃ t, exec (.holdNotice u) s = .next t ∧ t.dev.is F.LU_LINE_EVT_HOLD_SEEN u = true ∧
       t.dev.get F.LU_LINE_FRAME_RX_FMT u = 3 ∧
       s.unitOnly t u [(F.LU_LINE_EVT_HOLD_SEEN, u.val), (F.LU_LINE_FRAME_RX_FMT, u.val)] []) ∧
   (∀ (s : State) (u : UnitId) (tag phase bit : Nat), s.dev.lineLive u = true → s.dev.get F.LU_LINE_FRAME_RX_FMT u = 3 →
     (s.dev.unit u).rx.resumed = some (tag, phase, bit) → s.dev.inPort u = false →
     ∃ t, exec (.resumeSequence u) s = .next t ∧ t.dev.get F.LU_LINE_FRAME_RX_FMT u = 2 ∧
       t.dev.is F.LU_LINE_FRAME_RX_QUIET u = false ∧ (t.dev.unit u).rx.mark = some (136 * (tag + 40 + phase) + bit) ∧
       s.unitOnly t u [(F.LU_LINE_FRAME_RX_FMT, u.val), (F.LU_LINE_FRAME_RX_QUIET, u.val)] []) ∧
   (∀ (s : State) (u : UnitId), s.dev.lineLive u = true → s.dev.get F.LU_LINE_FRAME_RX_FMT u = 3 →
     (s.dev.unit u).rx.resumed = none → Claims.noRuns s.dev u → Claims.portIdle s.dev u → s.dev.mild 0x20 → s.dev.mild 0x22 →
     ∃ t, exec (.resumeSequence u) s = .next t ∧ t.dev.is F.LU_LINE_EVT_RESUME_FAIL u = true ∧
       t.dev.is F.LU_LINE_EVT_LOL u = true ∧
       t.dev.get F.LU_BU_STAT_STATE u = Claims.startState s.dev u (Claims.relockCold s.dev u) ∧
       Claims.within s t u [F.FLT_SUPPR_MASKED.addr 0]) ∧
   (∀ (s : State) (u : UnitId), s.dev.lineLive u = true → s.dev.rxHeld u = true → s.dev.dozing (u / 8) = false →
     32 ≤ (s.dev.unit u).rx.energetic →
     ∃ t, exec (.wakeEnergy u) s = .next t ∧ t.dev.get F.LU_LINE_FRAME_RX_FMT u = 3 ∧
       t.dev.is F.LU_LINE_FRAME_DESCR_LOCK u = false ∧ (t.dev.unit u).host.fill = true ∧
       s.unitOnly t u [(F.LU_LINE_FRAME_RX_FMT, u.val), (F.LU_LINE_FRAME_DESCR_LOCK, u.val)] [])) ∧
  ((∀ (s : State) (u : UnitId), s.dev.lineLive u = true →
     ((s.dev.unit u).tx = .hold ∧ (s.dev.unit u).txBlock = 0 ∨
       (s.dev.unit u).tx = .quiet ∧ (s.dev.unit u).quietAt + 64 ≤ s.dev.refa) →
     s.dev.amHeld u = true → s.dev.dozing (u / 8) = false →
     ∃ t, exec (.resumeStart u) s = .next t ∧ (t.dev.unit u).tx = .resume ∧ (t.dev.unit u).txLeft = 12 ∧
       (t.dev.unit u).txBlock = 0 ∧ t.dev.is F.LU_LINE_FRAME_TX_QUIET u = false ∧
       s.unitOnly t u [(F.LU_LINE_FRAME_TX_QUIET, u.val)] []) ∧
   (∀ (s : State) (u : UnitId), (s.dev.unit u).tx = .hold → (s.dev.unit u).txBlock ≠ 0 →
     exec (.resumeStart u) s = .next s) ∧
   (∀ (s : State) (u : UnitId), s.dev.lineLive u = true → (s.dev.unit u).resumed = true → (s.dev.unit u).tx = .data →
     s.dev.amHeld u = true →
     ∃ t, exec (.resumeSendEnd u) s = .next t ∧ (t.dev.unit u).resumed = false ∧ t.dev.is F.LU_LINE_FRAME_TX_HOLD u = false ∧
       s.unitOnly t u [(F.LU_LINE_FRAME_TX_HOLD, u.val)] []) ∧
   (∀ (s : State) (u : UnitId), s.dev.lineLive u = true → s.dev.get F.LU_BU_STAT_STATE u = 8 →
     (s.dev.unit u).tx = .training → s.dev.amHeld u = true → s.dev.is F.LU_BU_STAT_FAR_READY u = true →
     s.dev.is F.LU_BU_STAT_RX_READY u = true → s.dev.is F.LU_LINE_FRAME_PORT_MISMATCH u = false →
     ∃ t, exec (.switchStart u) s = .next t ∧ t.dev.get F.LU_BU_STAT_STATE u = 9 ∧ (t.dev.unit u).tx = .training ∧
       (t.dev.unit u).txWant = some .countdown ∧ (t.dev.unit u).txBlock = (s.dev.unit u).txBlock ∧
       s.unitOnly t u [(F.LU_BU_STAT_STATE, u.val), (F.LU_BU_STAT_SEARCH_DONE, u.val)] []) ∧
   (∀ (s : State) (u : UnitId), s.dev.lineLive u = true → s.dev.get F.LU_BU_STAT_STATE u = 9 →
     (s.dev.unit u).tx = .data → s.dev.is F.LU_LINE_FRAME_HDR_LOCK u = true → s.dev.amHeld u = true →
     ∃ t, exec (.dataModeEntry u) s = .next t ∧ t.dev.get F.LU_BU_STAT_STATE u = 10 ∧ (t.dev.unit u).tx = .data ∧
       t.dev.get F.LU_BU_STAT_FAIL_CNT u = 0 ∧ t.dev.get F.LU_BU_STAT_RX_READY u = 0 ∧
       t.dev.get F.LU_BU_TIME_UP_TIME u = min ((s.dev.refa - (s.dev.unit u).attemptAt) * 640 / 1000000) 0xFFFF ∧
       s.unitOnly t u [(F.LU_BU_STAT_STATE, u.val), (F.LU_BU_STAT_RX_READY, u.val), (F.LU_BU_STAT_FAIL_CNT, u.val),
         (F.LU_BU_STAT_LAST_REASON, u.val), (F.LU_BU_TIME_UP_TIME, u.val)] []) ∧
   (∀ (s : State) (u : UnitId) (at' : Nat), s.dev.lineLive u = true → s.dev.is F.LU_LINE_FRAME_HDR_LOCK u = true →
     s.dev.is F.LU_LINE_FRAME_DESCR_LOCK u = true → s.dev.get F.LU_LINE_FRAME_RX_FMT u = 1 →
     (s.dev.unit u).rx.dataAt = some at' → s.dev.due at' = true → s.dev.inPort u = false →
     ∃ t, exec (.rxDataStart u) s = .next t ∧ t.dev.get F.LU_LINE_FRAME_RX_FMT u = 2 ∧ (t.dev.unit u).rx.dataAt = none ∧
       (t.dev.unit u).rx.mark = (s.dev.unit u).rx.mark ∧ s.dev.fieldsKept t.dev [(F.LU_LINE_FRAME_RX_FMT, u.val)] []))

/-- Lock of the receive direction: header lock and its loss by state, descrambler lock and unlock, inversion, the
precoded interpretation (R63, R176, R180 to R183, R192). Loss of the line in data mode: silence takes the unit to SILENT
with lock and format cleared, and is held for a millisecond before the retrain; a far announcement starts an attempt
(R75, R117, R175, R176, R197, R198). -/
def Obligations.LockAndLossOfTheLine : Prop :=
  ((∀ (s : State) (u : UnitId), s.dev.lineLive u = true → s.dev.is F.LU_RX_STAT_TR_LOCK u = true → s.dev.phaseOf u = 3 →
     s.dev.is F.LU_LINE_FRAME_HDR_LOCK u = false → 64 ≤ (s.dev.unit u).rx.hdrRun →
     ∃ t, exec (.headerLock u) s = .next t ∧ t.dev.is F.LU_LINE_FRAME_HDR_LOCK u = true ∧
       t.dev.get F.LU_LINE_FRAME_RX_FMT u = 1 ∧ t.dev.is F.LU_RX_STAT_TR_ACQ u = false ∧
       t.dev.is F.LU_LINE_FRAME_DESCR_LOCK u = false ∧ (t.dev.unit u).hdrOffset = (s.dev.unit u).hdrOffset ∧
       (t.dev.unit u).canc.nextUntilLock = false ∧
       s.unitOnly t u [(F.LU_LINE_FRAME_HDR_LOCK, u.val), (F.LU_LINE_FRAME_RX_FMT, u.val), (F.LU_RX_STAT_TR_ACQ, u.val),
         (F.LU_LINE_FRAME_DESCR_LOCK, u.val)] []) ∧
   (∀ (s : State) (u : UnitId), s.dev.lineLive u = true → s.dev.is F.LU_LINE_FRAME_HDR_LOCK u = true →
     16 ≤ ((s.dev.unit u).hdrWin.filter (fun b => !b)).length →
     4 ≤ s.dev.get F.LU_BU_STAT_STATE u → s.dev.get F.LU_BU_STAT_STATE u ≤ 8 → Claims.noRuns s.dev u →
     ∃ t, exec (.headerLockLoss u) s = .next t ∧ t.dev.get F.LU_BU_STAT_STATE u = 3 ∧
       t.dev.is F.LU_LINE_FRAME_HDR_LOCK u = false ∧ t.dev.is F.LU_LINE_FRAME_DESCR_LOCK u = false ∧
       t.dev.get F.LU_LINE_FRAME_RX_FMT u = 0 ∧ t.dev.is F.LU_BU_STAT_RX_READY u = false ∧ (t.dev.unit u).hdrWin = [] ∧
       s.unitOnly t u [(F.LU_LINE_FRAME_HDR_LOCK, u.val), (F.LU_LINE_FRAME_DESCR_LOCK, u.val), (F.LU_LINE_FRAME_RX_FMT, u.val),
         (F.LU_BU_STAT_RX_READY, u.val), (F.LU_BU_STAT_SEARCH_DONE, u.val), (F.LU_BU_STAT_STATE, u.val)] []) ∧
   (∀ (s : State) (u : UnitId), s.dev.lineLive u = true → s.dev.is F.LU_LINE_FRAME_HDR_LOCK u = true →
     s.dev.is F.LU_LINE_FRAME_DESCR_LOCK u = false → (s.dev.unit u).rx.descrOk = true → s.dev.get F.LU_BU_STAT_STATE u ≠ 14 →
     ∃ t, exec (.descrLock u) s = .next t ∧ t.dev.is F.LU_LINE_FRAME_DESCR_LOCK u = true ∧
       t.dev.get F.LU_BU_STAT_STATE u = (if s.dev.phaseOf u = 3 then 4 else s.dev.get F.LU_BU_STAT_STATE u) ∧
       s.unitOnly t u [(F.LU_LINE_FRAME_DESCR_LOCK, u.val), (F.LU_BU_STAT_STATE, u.val)] []) ∧
   (∀ (s : State) (u : UnitId), s.dev.lineLive u = true → s.dev.get F.LU_LINE_FRAME_RX_FMT u ≠ 2 →
     4 ≤ (s.dev.unit u).rx.badBlocks →
     ∃ t, exec (.descrUnlock u) s = .next t ∧ t.dev.is F.LU_LINE_FRAME_DESCR_LOCK u = false ∧
       (t.dev.unit u).rx.descrOk = false ∧ s.unitOnly t u [(F.LU_LINE_FRAME_DESCR_LOCK, u.val)] []) ∧
   (∀ (s : State) (u : UnitId), s.dev.lineLive u = true → s.dev.is F.LU_LINE_FRAME_HDR_LOCK u = true → s.dev.phaseOf u = 3 →
     (s.dev.unit u).rx.ctl.1 = 80 → 60 ≤ (s.dev.unit u).rx.ctl.2 →
     ∃ t, exec (.rxInv u) s = .next t ∧ t.dev.is F.LU_LINE_FRAME_RX_INV u = !(s.dev.is F.LU_LINE_FRAME_RX_INV u) ∧
       t.dev.is F.LU_LINE_FRAME_DESCR_LOCK u = false ∧ (t.dev.unit u).rx.ctl = (0, 0) ∧
       s.unitOnly t u [(F.LU_LINE_FRAME_RX_INV, u.val), (F.LU_LINE_FRAME_DESCR_LOCK, u.val)] []) ∧
   (∀ (s : State) (u : UnitId), s.dev.lineLive u = true → (s.dev.unit u).co.precReq = true →
     s.dev.get F.LU_LINE_FRAME_RX_FMT u = 1 → s.dev.is F.LU_LINE_FRAME_FAR_PRECODE u = false →
     (s.dev.unit u).rx.coded4 = 4 → (s.dev.unit u).rx.plain4 < 4 →
     ∃ t, exec (.precodeSet u) s = .next t ∧ t.dev.is F.LU_LINE_FRAME_FAR_PRECODE u = true ∧
       t.dev.is F.LU_BU_EVT_PRECODE_SET u = true ∧
       s.regsOnly t [(F.LU_LINE_FRAME_FAR_PRECODE, u.val), (F.LU_BU_EVT_PRECODE_SET, u.val)] [])) ∧
  ((∀ (s : State) (u : UnitId), s.dev.lineLive u = true → s.dev.rxData u = true → Claims.noRuns s.dev u →
     Claims.portIdle s.dev u → s.dev.mild 0x20 → s.dev.mild 0x21 → (s.dev.cluster (u / 8)).silent.length < 7 →
     1024 ≤ (s.dev.unit u).rx.silent →
     ∃ t, exec (.silence u) s = .next t ∧ t.dev.get F.LU_BU_STAT_STATE u = 16 ∧ t.dev.get F.LU_LINE_FRAME_RX_FMT u = 0 ∧
       (t.dev.unit u).holdEnd = s.dev.time + 390625 ∧
       t.dev.is F.LU_LINE_FRAME_HDR_LOCK u = false ∧ t.dev.is F.LU_LINE_FRAME_DESCR_LOCK u = false ∧
       t.dev.is F.LU_LINE_EVT_LOL u = true ∧ t.dev.is F.LU_LINE_EVT_SILENCE u = true ∧
       (t.dev.cluster (u / 8)).silent.contains (u.val % 8) = true ∧
       s.dev.fieldsKept t.dev [(F.LU_BU_STAT_STATE, u.val), (F.LU_LINE_FRAME_RX_FMT, u.val), (F.LU_LINE_FRAME_HDR_LOCK, u.val),
         (F.LU_LINE_FRAME_DESCR_LOCK, u.val), (F.LU_LINE_EVT_LOL, u.val), (F.LU_LINE_EVT_SILENCE, u.val),
         (F.CL_PORT_STAT_DSK_SET, u.val / 8), (F.FLT_SUPPR_MASKED, 0)] [blkBase .lu u + 0x450, blkBase .lu u + 0x454]) ∧
   (∀ (s : State) (u : UnitId), (s.dev.cluster (u / 8)).silent.contains (u.val % 8) = true →
     (s.dev.unit u).holdEnd ≤ s.dev.time → s.dev.get F.LU_BU_STAT_STATE u ≠ 16 →
     ∃ t, exec (.silHold u) s = .next t ∧ (t.dev.cluster (u / 8)).silent.contains (u.val % 8) = false ∧
       (t.dev.unit u).lostHold = false ∧ t.dev.regs = s.dev.regs ∧ t.keep = s.keep) ∧
   (∀ (s : State) (u : UnitId), (s.dev.cluster (u / 8)).silent.contains (u.val % 8) = true →
     (s.dev.unit u).holdEnd ≤ s.dev.time → s.dev.lineLive u = true → s.dev.get F.LU_BU_STAT_STATE u = 16 →
       Claims.noRuns s.dev u → Claims.portIdle s.dev u →
     ∃ t, exec (.silHold u) s = .next t ∧
       t.dev.get F.LU_BU_STAT_STATE u = Claims.startState s.dev u (Claims.relockCold s.dev u) ∧ Claims.within s t u []) ∧
   (∀ (s : State) (u : UnitId), s.dev.lineLive u = true →
     (s.dev.rxData u = true ∧ s.dev.noticed u 6 8 = true ∨
       s.dev.get F.LU_LINE_FRAME_RX_FMT u = 3 ∧ s.dev.noticed u 6 1 = true) →
     Claims.noRuns s.dev u → Claims.portIdle s.dev u → s.dev.mild 0x20 →
     ∃ t, exec (.retrainAnnouncement u) s = .next t ∧
       t.dev.get F.LU_BU_STAT_STATE u = Claims.startState s.dev u (Claims.relockCold s.dev u) ∧
       t.dev.is F.LU_BU_EVT_FAR_RETRAIN u = true ∧ t.dev.is F.LU_LINE_EVT_LOL u = true ∧
       t.dev.get F.LU_LINE_FRAME_RX_FMT u = 0 ∧ t.dev.is F.LU_LINE_FRAME_HDR_LOCK u = false ∧
       Claims.within s t u [F.FLT_SUPPR_MASKED.addr 0]))

/-! Cancellation -/

/-- The present gear of a unit has run its length (R103). -/
abbrev Sys2Proof.Claims.gearRun (d : Dev) (u : Nat) : Prop := d.due ((d.unit u).canc.gearAt + d.gearLen u) = true

/-- Gears: one that has not run its length goes on. In data mode G3 ends in G4, in ADAPT with no search it ends in
QUALIFY too; G2 that ends without an LQI of 140 stalls in G2; the FEXT cancellers of a SIMPLEX lane go from G3 to G4
(R103, R104, R123, R145, R176). -/
def Obligations.GearsChange : Prop :=
  (∀ (s : State) (u : UnitId), ¬Claims.gearRun s.dev u → exec (.gearChange u) s = .next s) ∧
  (∀ (s : State) (u : UnitId), s.dev.live u = true → s.dev.duplex (u / 8) = true → Claims.gearRun s.dev u →
    s.dev.get F.LU_RB_STAT_GEAR u = 3 →
    (s.dev.phaseOf u = 10 →
      ∃ t, exec (.gearChange u) s = .next t ∧ t.dev.get F.LU_RB_STAT_GEAR u = 4 ∧
        (t.dev.unit u).canc.gearAt = (s.dev.unit u).canc.gearAt + s.dev.gearLen u ∧
        s.unitOnly t u [(F.LU_RB_STAT_GEAR, u.val)] []) ∧
    (s.dev.get F.LU_BU_STAT_STATE u = 6 → (s.dev.unit u).srch.phase = .off → (s.dev.unit u).tx = .training →
      ∃ t, exec (.gearChange u) s = .next t ∧ t.dev.get F.LU_RB_STAT_GEAR u = 4 ∧ t.dev.get F.LU_BU_STAT_STATE u = 7 ∧
        s.unitOnly t u [(F.LU_RB_STAT_GEAR, u.val), (F.LU_BU_STAT_STATE, u.val)] [])) ∧
  (∀ (s : State) (u : UnitId), s.dev.live u = true → s.dev.duplex (u / 8) = true → Claims.gearRun s.dev u →
    s.dev.get F.LU_RB_STAT_GEAR u = 2 → (s.dev.unit u).canc.g2Done = false →
    (s.dev.get F.LU_RX_LQI_LQI u < 140 ∨ s.dev.get F.LU_RX_LQI_LQI u = 0xFFFF) →
    ∃ t, exec (.gearChange u) s = .next t ∧ t.dev.is F.LU_RB_EVT_GEAR_STALL u = true ∧ (t.dev.unit u).canc.g2Done = true ∧
      t.dev.get F.LU_RB_STAT_GEAR u = 2 ∧
      (1 ≤ s.dev.phaseOf u → s.dev.phaseOf u ≤ 9 → 15 ≤ s.dev.get F.LU_RX_STAT_DFE_H1 u →
        t.dev.is F.LU_RX_STAT_PRECODE_WANT u = true) ∧
      s.unitOnly t u [(F.LU_RB_EVT_GEAR_STALL, u.val), (F.LU_RX_STAT_PRECODE_WANT, u.val)] []) ∧
  (∀ (s : State) (u : UnitId), s.dev.live u = true → s.dev.duplex (u / 8) = false → Claims.gearRun s.dev u →
    s.dev.get F.LU_RB_STAT_GEAR u = 3 →
    ∃ t, exec (.gearChange u) s = .next t ∧ t.dev.get F.LU_RB_STAT_GEAR u = 4 ∧ s.regsOnly t [(F.LU_RB_STAT_GEAR, u.val)] [])

/-- A survey dwell that has run records its position: the energy of the window's 48 coefficients and the delay of the
largest; the window goes to the position WIN_COUNT further on, zeroed and in state SURVEY, or is parked when none is
left. A dwell that has not run goes on (R108, R109, R128). A check of a unit's one window, when its 4,096 tokens have
run, with the largest coefficient in the middle taps and an energy above the fading threshold, locks it and reports peak
and energy; before that nothing is checked (R111, R113, R128). In a unit's turn a rescan borrows a free block as its
probe at the first free position; a dwell that has run is recorded and moves the probe on; after the last position a
unit whose records all lie below the threshold gives the block back (R114, R115, R130). That candidates are placed at
the end of the unit's rescan is the model's reading (log entry 53). -/
def Obligations.WindowsFindReflections : Prop :=
  ((∀ (s : State) (u : UnitId) (p : Fin 62), 1 ≤ s.dev.wins (u / 8) →
     s.dev.dwelt u (p % s.dev.wins (u / 8)) (s.dev.dwellLen u) = false → exec (.surveyDwellEnd u p) s = .next s) ∧
   (∀ (s : State) (u : UnitId) (p : Fin 62) (f : Nat), s.dev.live u = true → s.dev.duplex (u / 8) = true →
     s.dev.get F.LU_RB_STAT_GEAR u = 1 → 1 ≤ s.dev.wins (u / 8) → s.dev.wins (u / 8) ≤ 8 → (s.dev.unit u).canc.probe = none →
     s.dev.winState u (p % s.dev.wins (u / 8)) = 1 → s.dev.winStart u (p % s.dev.wins (u / 8)) = surveyStart p →
     s.dev.winSlot u (p % s.dev.wins (u / 8)) = some f →
     s.dev.dwelt u (p % s.dev.wins (u / 8)) (s.dev.dwellLen u) = true →
     ∃ t, exec (.surveyDwellEnd u p) s = .next t ∧
       (t.dev.unit u).canc.survey = (s.dev.unit u).canc.survey ++ [⟨(surveyStart p - 81) / 48, tapEnergy (s.dev.taps (u
         / 8) f 48),
         surveyStart p + peakTap (s.dev.taps (u / 8) f 48)⟩] ∧
       t.dev.winWord u (p % s.dev.wins (u / 8)) = (if p.val + s.dev.wins (u / 8) < 62 then
         BitVec.ofNat 32 (2 ^ 30 + surveyStart (p + s.dev.wins (u / 8)) * 2 ^ 12 + 0xFFF) else parkedWord) ∧
       (p.val + s.dev.wins (u / 8) < 62 → ∀ k, k < 48 → ((t.dev.cluster (u / 8)).pool.find (f + k)).getD 0 = 0) ∧
       Claims.othersBut s t u ∧ t.keep = s.keep ∧
       s.dev.fieldsKept t.dev [(F.LU_RB_STAT_WIN_ACTIVE, u.val)]
         ((List.range 4).map (fun k => (F.LU_RB_WIN_STATE k).addr u)))) ∧
  ((∀ (s : State) (u : UnitId), (∀ k ∈ s.dev.placedKeys u, s.dev.dwelt u k 4096 = false) →
     exec (.windowCheck u) s = .next s) ∧
   (∀ (s : State) (u : UnitId), s.dev.live u = true → s.dev.duplex (u / 8) = true → s.dev.wins (u / 8) = 1 →
     (s.dev.unit u).canc.blocks = [] → 2 ≤ s.dev.winState u 0 → s.dev.dwelt u 0 4096 = true →
     8 ≤ peakTap (s.dev.winTaps u 0) → peakTap (s.dev.winTaps u 0) ≤ 39 →
     tapEnergy (s.dev.winTaps u 0) ≤ (s.dev.cluster (u / 8)).winThr + 60 →
     ∃ t, exec (.windowCheck u) s = .next t ∧ t.dev.winState u 0 = 3 ∧
       bitsOf (t.dev.winWord u 0) 29 24 = peakTap (s.dev.winTaps u 0) ∧
       bitsOf (t.dev.winWord u 0) 11 0 = tapEnergy (s.dev.winTaps u 0) ∧
       bitsOf (t.dev.winWord u 0) 23 12 = bitsOf (s.dev.winWord u 0) 23 12 ∧
       s.unitOnly t u [(F.LU_RB_STAT_WIN_ACTIVE, u.val)] [(F.LU_RB_WIN_STATE 0).addr u])) ∧
  ((∀ (s : State) (u : UnitId) (b p : Nat), s.dev.duplex (u / 8) = true → s.dev.rescans u = true →
     (s.dev.cluster (u / 8)).rescan = none → s.dev.sweeping (u / 8) = false →
     (s.dev.rescanLanes (u / 8)).1.contains (u % 8) = true →
     (∀ l ∈ (s.dev.rescanLanes (u / 8)).1, l < u % 8 → s.dev.rescans (8 * (u / 8) + l) = false) →
     s.dev.freeBlock (u / 8) s.dev.refa = some b → s.dev.nextPos u 0 = some p →
     ∃ t, exec (.rescan u) s = .next t ∧ (t.dev.cluster (u / 8)).rescan = some (u.val % 8) ∧
       (t.dev.cluster (u / 8)).rescanTodo = (s.dev.rescanLanes (u / 8)).1.filter (fun l => decide (u.val % 8 < l)) ∧
       (t.dev.unit u).canc.probe = some b ∧ bitsOf (t.dev.winWord u 12) 23 12 = surveyStart p ∧
       (∀ k, k < 48 → ((t.dev.cluster (u / 8)).pool.find (8 * s.dev.slotsT (u / 8) + 48 * b + k)).getD 0 = 0) ∧
       Claims.othersBut s t u ∧ t.dev.regs = s.dev.regs ∧ t.keep = s.keep) ∧
   (∀ (s : State) (u : UnitId) (b : Nat), s.dev.live u = true → (s.dev.cluster (u / 8)).rescan = some (u.val % 8) →
     (s.dev.unit u).canc.probe = some b →
     (s.dev.dwelt u 12 4096 = false → exec (.rescanDwellEnd u) s = .next s) ∧
     (s.dev.dwelt u 12 4096 = true →
       (∀ n, s.dev.nextPos u ((s.dev.winStart u 12 - 81) / 48 + 1) = some n →
         ∃ t, exec (.rescanDwellEnd u) s = .next t ∧ (t.dev.unit u).canc.probe = some b ∧
           (t.dev.unit u).canc.probeRecs = (s.dev.unit u).canc.probeRecs ++
             [s.dev.dwellRec u 12 (8 * s.dev.slotsT (u / 8) + 48 * b)] ∧
           bitsOf (t.dev.winWord u 12) 23 12 = surveyStart n ∧
           (t.dev.cluster (u / 8)).rescan = some (u.val % 8) ∧ t.dev.regs = s.dev.regs) ∧
       (s.dev.nextPos u ((s.dev.winStart u 12 - 81) / 48 + 1) = none →
         (∀ r ∈ (s.dev.unit u).canc.probeRecs ++ [s.dev.dwellRec u 12 (8 * s.dev.slotsT (u / 8) + 48 * b)],
           s.dev.get F.CL_RB_CFG_WIN_THR (u / 8) < r.energy) →
         ∃ t, exec (.rescanDwellEnd u) s = .next t ∧ (t.dev.unit u).canc.probe = none ∧
           (t.dev.cluster (u / 8)).rescan = none ∧ t.dev.regs = s.dev.regs ∧ t.keep = s.keep))))

/-- What a write of tap pool word i that is not refused whole leaves in the pool and in PERR: a half whose canceller
adapts keeps its value and sets PERR, the other takes the data (R49, R96). -/
abbrev Sys2Proof.Claims.poolWritten (s t : State) (c i : Nat) (w : Word) : Prop :=
  (t.dev.cluster c).pool.find (2 * i) = (if s.dev.slotAdapts c (2 * i) then (s.dev.cluster c).pool.find (2 * i)
    else if w.setWidth 16 = 0 then none else some (w.setWidth 16)) ∧
  (t.dev.cluster c).pool.find (2 * i + 1) = (if s.dev.slotAdapts c (2 * i + 1) then (s.dev.cluster c).pool.find (2 * i + 1)
    else if (w >>> 16).setWidth 16 = 0 then none else some ((w >>> 16).setWidth 16)) ∧
  (∀ j, j ≠ 2 * i → j ≠ 2 * i + 1 → (t.dev.cluster c).pool.find j = (s.dev.cluster c).pool.find j) ∧
  t.dev.port.perr = (s.dev.port.perr || (s.dev.slotAdapts c (2 * i) || s.dev.slotAdapts c (2 * i + 1))) ∧
  (∀ e, e ≠ c → t.dev.cluster e = s.dev.cluster e) ∧ t.dev.units = s.dev.units ∧ t.keep = s.keep

/-- Software access to the pool: a released block leaves its holder and its slots are zeroed, one that no unit holds
changes nothing; a write takes the halves whose canceller does not adapt and sets PERR for the others; it corrects and
counts an error of its array word, and is refused whole, with PERR, for a word that is poisoned or that it finds
uncorrectable; a cluster in reset refuses with PERR, one under test drops (R18, R49, R96, R132, R361, R362). -/
def Obligations.SoftwareReachesThePool : Prop :=
  (∀ (s : State) (c : ClusterId) (b : Fin 32), s.dev.off .cl c 0 = true →
    exec (.clRbRelease c b) s = .next { s with dev := { s.dev with port := { s.dev.port with perr := true } } }) ∧
  (∀ (s : State) (c : ClusterId) (b : Fin 32), s.dev.off .cl c 0 = false → s.dev.tst .cl c = false →
    ((∀ u ∈ unitsOf c, b.val ∉ (s.dev.unit u).canc.blocks) → exec (.clRbRelease c b) s = .next s) ∧
    (∀ u : UnitId, (unitsOf c).find? (fun u => (s.dev.unit u).canc.blocks.contains b.val) = some u.val →
      ∃ t, exec (.clRbRelease c b) s = .next t ∧ (t.dev.unit u).canc.blocks = (s.dev.unit u).canc.blocks.filter (· ≠ b.val) ∧
        t.dev.get F.CL_RB_POOL_BLOCKS_HELD c = s.dev.get F.CL_RB_POOL_BLOCKS_HELD c - 1 ∧
        (t.dev.cluster c).returned.find b.val = some s.dev.refa ∧
        (∀ k, k < 48 → ((t.dev.cluster c).pool.find (8 * s.dev.slotsT c + 48 * b.val + k)).getD 0 = 0) ∧
        Claims.othersBut s t u ∧
        s.dev.fieldsKept t.dev [(F.CL_RB_POOL_BLOCKS_HELD, c.val), (F.LU_RB_STAT_EXTRA_HELD, u.val),
          (F.LU_RB_STAT_WIN_ACTIVE, u.val)] ((List.range 4).map (fun k => (F.LU_RB_WIN_STATE (4 + k)).addr u)))) ∧
  (∀ (s : State) (c : ClusterId) (i : Fin 2048) (w : Word) (f : EccFinding),
    (s.dev.off .cl c 0x2000 = true →
      exec (.tapPoolWrite c i w f) s = .next { s with dev := { s.dev with port := { s.dev.port with perr := true } } }) ∧
    (s.dev.tst .cl c = true → s.dev.off .cl c 0x2000 = false → exec (.tapPoolWrite c i w f) s = .next s) ∧
    (s.dev.off .cl c 0x2000 = false → s.dev.tst .cl c = false → s.dev.flt.poison.contains (poolWordCode c (2 * i)) = true →
      ∃ t, exec (.tapPoolWrite c i w f) s = .next t ∧ t.dev.port.perr = true ∧ t.dev.clusters = s.dev.clusters ∧
        t.dev.count (F.FLT_ECC_POISON_LO_LO.addr 0) = min (s.dev.count (F.FLT_ECC_POISON_LO_LO.addr 0) + 1) (2 ^ 64 - 1))) ∧
  (∀ (s : State) (c : ClusterId) (i : Fin 2048) (w : Word), s.dev.off .cl c 0x2000 = false → s.dev.tst .cl c = false →
    s.dev.flt.poison.contains (poolWordCode c (2 * i)) = false →
    (∀ f, f = .clean ∨ f = .poisoned ∨ (s.dev.slotAdapts c (2 * i) = true ∧ s.dev.slotAdapts c (2 * i + 1) = true) →
      ∃ t, exec (.tapPoolWrite c i w f) s = .next t ∧ Claims.poolWritten s t c i w ∧ t.dev.regs = s.dev.regs) ∧
    ((s.dev.slotAdapts c (2 * i) && s.dev.slotAdapts c (2 * i + 1)) = false →
      (∀ syn, s.dev.mild 0x48 → ∃ t, exec (.tapPoolWrite c i w (.correctable syn)) s = .next t ∧ Claims.poolWritten s t c i w ∧
        t.dev.count (F.FLT_ECC_CE_LO_LO.addr 0) = min (s.dev.count (F.FLT_ECC_CE_LO_LO.addr 0) + 1) (2 ^ 64 - 1)) ∧
      (∀ syn, s.dev.mild 0x40 → ∃ t, exec (.tapPoolWrite c i w (.uncorrectable syn)) s = .next t ∧ t.dev.port.perr = true ∧
        t.dev.count (F.FLT_ECC_UE_LO_LO.addr 0) = min (s.dev.count (F.FLT_ECC_UE_LO_LO.addr 0) + 1) (2 ^ 64 - 1) ∧
        t.dev.flt.poison.contains (poolWordCode c (2 * i)) = true ∧
        (∀ j, j / 2 ≠ i.val / 2 * 2 → j / 2 ≠ i.val / 2 * 2 + 1 →
          (t.dev.cluster c).pool.find j = (s.dev.cluster c).pool.find j) ∧
        (∀ e, e ≠ c.val → t.dev.cluster e = s.dev.cluster e))))

/-! The receiver -/

/-- G0's hold of the VGA at 2,048 tokens; the end of a window of 1,024 tokens writes LQI from the sums over it when
every token of the window was estimated, leaves it when not, and answers once a window only (R139, R142, R146). Timing
recovery: its lock, 4,096 tokens of low variance after, ends TIMING and times HOST_TX; its loss leaves no estimate and
no latency; a frequency out of range is reported; the servo makes one step of its interpolator outside 0.98 to 1.02
tokens, and none while timing recovery is not locked (R135, R146, R148, R151, R157, R166, R176). -/
def Obligations.ReceiverAndTiming : Prop :=
  ((∀ (s : State) (u : UnitId) (gain : Fin 32), s.dev.live u = true → s.dev.duplex (u / 8) = true →
     s.dev.get F.LU_RB_STAT_GEAR u = 0 → s.dev.is F.LU_RX_STAT_VGA_HELD u = false →
     (s.dev.due ((s.dev.unit u).canc.gearAt + 2048) = true →
       ∃ t, exec (.vgaHold u gain) s = .next t ∧ t.dev.get F.LU_RX_STAT_VGA u = gain.val ∧
         t.dev.is F.LU_RX_STAT_VGA_HELD u = true ∧
         s.regsOnly t [(F.LU_RX_STAT_VGA, u.val), (F.LU_RX_STAT_VGA_HELD, u.val)] []) ∧
     (s.dev.due ((s.dev.unit u).canc.gearAt + 2048) = false → exec (.vgaHold u gain) s = .next s)) ∧
   (∀ (s : State) (u : UnitId), s.dev.windows ≤ (s.dev.unit u).rx.lqi.due → exec (.lqiWindow u) s = .next s) ∧
   (∀ (s : State) (u : UnitId), s.dev.live u = true → s.dev.is F.LU_BU_CTRL_EN u = true →
     (s.dev.unit u).rx.lqi.due < s.dev.windows → (s.dev.unit u).canc.depth < 63 →
     (s.dev.unit u).rx.lqi.clips * 1000000 ≤ 69632 →
     (s.dev.duplex (u / 8) = false ∨ (s.dev.get F.LU_BU_STAT_STATE u = 10 ∧ s.dev.get F.LU_RB_STAT_GEAR u = 4)) →
     ∃ t, exec (.lqiWindow u) s = .next t ∧
       t.dev.get F.LU_RX_LQI_LQI u = (if s.dev.estimated u (s.dev.windows - 1) then (s.dev.unit u).rx.lqi.value
         else s.dev.get F.LU_RX_LQI_LQI u) ∧
       (t.dev.unit u).rx.lqi = { (s.dev.unit u).rx.lqi with due := s.dev.windows } ∧
       s.unitOnly t u [(F.LU_RX_LQI_LQI, u.val)] [])) ∧
  ((∀ (s : State) (u : UnitId), s.dev.pathLive u = true → s.dev.timing u = true → s.dev.rxHeld u = false →
     s.dev.is F.LU_RX_STAT_TR_LOCK u = false →
     (4096 ≤ (s.dev.unit u).rx.varLow →
       ∃ t, exec (.trLock u) s = .next t ∧ t.dev.is F.LU_RX_STAT_TR_LOCK u = true ∧ t.dev.is F.LU_RX_STAT_LOOP_TIMED u = true ∧
         t.dev.get F.LU_BU_STAT_STATE u = (if s.dev.get F.LU_BU_STAT_STATE u = 2 then 3 else s.dev.get F.LU_BU_STAT_STATE u) ∧
         (s.dev.phaseOf u = 2 → t.dev.phaseOf u = 3 ∧ (t.dev.unit u).hdrOffset = 0) ∧
         s.unitOnly t u [(F.LU_RX_STAT_TR_LOCK, u.val), (F.LU_RX_STAT_LOOP_TIMED, u.val), (F.LU_BU_STAT_STATE, u.val)] []) ∧
     ((s.dev.unit u).rx.varLow < 4096 → exec (.trLock u) s = .next s)) ∧
   (∀ (s : State) (u : UnitId), s.dev.pathLive u = true → s.dev.is F.LU_RX_STAT_TR_LOCK u = true →
     (4096 ≤ (s.dev.unit u).rx.varHigh →
       ∃ t, exec (.trLockLoss u) s = .next t ∧ t.dev.is F.LU_RX_STAT_TR_LOCK u = false ∧
         t.dev.is F.LU_RX_STAT_LOOP_TIMED u = false ∧ t.dev.get F.LU_RX_LQI_LQI u = 0xFFFF ∧ t.dev.get F.LU_RX_LAT_LAT u = 0 ∧
         s.regsOnly t [(F.LU_RX_STAT_TR_LOCK, u.val), (F.LU_RX_STAT_LOOP_TIMED, u.val), (F.LU_RX_LQI_LQI, u.val),
           (F.LU_RX_LAT_LAT, u.val)] []) ∧
     ((s.dev.unit u).rx.varHigh < 4096 → exec (.trLockLoss u) s = .next s)) ∧
   (∀ (s : State) (u : UnitId), s.dev.pathLive u = true → s.dev.mild 0x35 →
     (1024 ≤ (s.dev.unit u).rx.stepRun →
       ∃ t, exec (.trRange u) s = .next t ∧ s.signals t F.LU_RX_EVT_TR_RANGE u ⟨0x35, .unit u 1, 0, s.dev.tag⟩ ∧
         s.unitEventOnly t u [(F.LU_RX_EVT_TR_RANGE, u.val)] []) ∧
     ((s.dev.unit u).rx.stepRun < 1024 → exec (.trRange u) s = .next s)) ∧
   (∀ (s : State) (u : UnitId) (lat : Nat), s.dev.pathLive u = true → s.dev.split u = false →
     (s.dev.unit u).rx.servo.win + 1 = s.dev.windows → (s.dev.unit u).rx.servo.due < s.dev.windows →
     (s.dev.unit u).rx.servo.n ≠ 0 → (s.dev.unit u).rx.servo.sum / (100 * (s.dev.unit u).rx.servo.n) < 256 →
     (s.dev.unit u).rx.servo.out = false →
     ∃ t, exec (.servoWindow u lat) s = .next t ∧
       t.dev.get F.LU_RX_LAT_EXIT_RES u = (s.dev.unit u).rx.servo.sum / (100 * (s.dev.unit u).rx.servo.n) ∧
       t.dev.get F.LU_RX_LAT_LAT u = (if s.dev.is F.LU_RX_STAT_TR_LOCK u then min (lat / 10) 0xFFFF else 0) ∧
       (t.dev.unit u).host.htxPhase = (s.dev.unit u).host.htxPhase + (if s.dev.is F.LU_RX_STAT_TR_LOCK u then
         (if (s.dev.unit u).rx.servo.n * 6528 < (s.dev.unit u).rx.servo.sum then 1
          else if (s.dev.unit u).rx.servo.sum < (s.dev.unit u).rx.servo.n * 6272 then -1 else 0) else 0) ∧
       s.unitOnly t u [(F.LU_RX_LAT_EXIT_RES, u.val), (F.LU_RX_LAT_LAT, u.val)] []))

/-- A threshold that the pace window in progress of region q uses: RG_PACE_CFG as the last window's end took it (R172).
-/
abbrev Sys2Proof.Claims.paceThr (d : Dev) (q : Nat) (f : Fld) : Int := (bitsOf (d.region q).paceCfg f.hi f.lo : Nat)

/-- A pace window shows the margin of the region's longest cycle time and its unit, and keeps the smallest; with clear
flags, a margin above every threshold leaves them clear, one below WARN_THR alone sets WARN and raises PACE. The
thresholds are those that the window began with, and the next window takes RG_PACE_CFG as it is now. A window without a
unit reads 0x3FF; that its flags stay is the model's reading (R153, R154, R170, R171, R172, R472; log entry 22). -/
def Obligations.PaceWindows : Prop :=
  (∀ (s : State) (q : RegionId), s.dev.windows ≤ (s.dev.region q).paceDue → exec (.paceWindow q) s = .next s) ∧
  (∀ (s : State) (q : RegionId), s.dev.regionLive q = true → (s.dev.region q).paceDue < s.dev.windows →
    (∀ u ∈ unitsOfRegion q, s.dev.slowest u = 0) →
    ∃ t, exec (.paceWindow q) s = .next t ∧ t.dev.get F.RG_PACE_STAT_LAST q = 0x3FF ∧
      (∀ u ∈ unitsOfRegion q, t.dev.slowest u = 0) ∧ (∀ v, v ∉ unitsOfRegion q → t.dev.unit v = s.dev.unit v) ∧
      (t.dev.region q).paceCfg = s.dev.voted (F.RG_PACE_CFG_WARN_THR.addr q) ∧
      s.dev.fieldsKept t.dev [(F.RG_PACE_STAT_LAST, q.val)] []) ∧
  (∀ (s : State) (q : RegionId) (u c : Nat), s.dev.regionLive q = true → (s.dev.region q).paceDue < s.dev.windows →
    s.dev.slowUnit q = (u, c) → 0 < c → s.dev.is F.RG_PACE_STAT_WARN q = false → s.dev.is F.RG_PACE_STAT_SHED q = false →
    s.dev.is F.RG_PACE_STAT_CRIT q = false → Claims.paceThr s.dev q F.RG_PACE_CFG_SHED_THR ≤ marginDown c →
    Claims.paceThr s.dev q F.RG_PACE_CFG_CRIT_THR ≤ marginDown c →
    (Claims.paceThr s.dev q F.RG_PACE_CFG_WARN_THR ≤ marginDown c ∨ s.dev.mild 0x3D) →
    ∃ t, exec (.paceWindow q) s = .next t ∧
      (t.dev.get F.RG_PACE_STAT_LAST q : Int) = max 0 (min 0x3FE (roundDiv (640000 - 1000 * (c : Int)) c)) ∧
      t.dev.get F.RG_PACE_STAT_SLOW_UNIT q = u % 32 ∧
      t.dev.get F.RG_PACE_MIN_MIN q = min (t.dev.get F.RG_PACE_STAT_LAST q) (s.dev.get F.RG_PACE_MIN_MIN q) ∧
      t.dev.is F.RG_PACE_STAT_WARN q = decide (marginDown c < Claims.paceThr s.dev q F.RG_PACE_CFG_WARN_THR) ∧
      t.dev.is F.RG_PACE_STAT_SHED q = false ∧ t.dev.is F.RG_PACE_STAT_CRIT q = false ∧
      (marginDown c < Claims.paceThr s.dev q F.RG_PACE_CFG_WARN_THR → s.dev.collects → s.dev.regionMasked q = false →
        t.dev.flt.held = s.dev.flt.held ++ [⟨s.dev.time, s.dev.locCode (.region q 6), ⟨0x3D, .region q 6, 0, s.dev.tag⟩⟩]) ∧
      (∀ v ∈ unitsOfRegion q, s.dev.slowest v ≤ c ∧ t.dev.slowest v = 0) ∧
      (t.dev.region q).paceCfg = s.dev.voted (F.RG_PACE_CFG_WARN_THR.addr q) ∧
      s.dev.fieldsKept t.dev [(F.RG_PACE_STAT_LAST, q.val), (F.RG_PACE_STAT_SLOW_UNIT, q.val), (F.RG_PACE_MIN_MIN, q.val),
        (F.RG_PACE_STAT_WARN, q.val), (F.RG_PACE_STAT_SHED, q.val), (F.RG_PACE_STAT_CRIT, q.val), (F.FLT_SUPPR_MASKED, 0)] [])

/-- The taps in force in a unit are those of a word of LU_TX_FIR: its bits 30..0 (R162, R169). -/
abbrev Sys2Proof.Claims.firIs (d : Dev) (u : Nat) (w : Word) : Prop := (d.word (F.LU_TX_FIR_C0.addr u)).setWidth 31 =
  w.setWidth 31

/-- R162: the five presets and their taps, in units of 1/64, each with magnitudes that sum to 64; preset 3 is the reset
value. A preset of 1 to 5 that is loaded puts its taps into force and discards a buffered value; another number is
dropped with PERR, as every write to a unit that is off; one to a unit under test is dropped (R18, R169). -/
def Obligations.PresetsLoadTheirTaps : Prop :=
  (firTaps (presetWord 1) = [0, 0, 64, 0, 0] ∧ firTaps (presetWord 2) = [0, -4, 56, -4, 0] ∧
    firTaps (presetWord 3) = [0, -8, 50, -6, 0] ∧ firTaps (presetWord 4) = [0, -8, 44, -10, 2] ∧
    firTaps (presetWord 5) = [0, -8, 52, -4, 0] ∧
    (∀ p, 1 ≤ p → p ≤ 5 → ((firTaps (presetWord p)).map Int.natAbs).sum = 64) ∧
    ∀ u : UnitId, State.reset.dev.get F.LU_TX_CTRL_PRESET u = 3 ∧
      State.reset.dev.word (F.LU_TX_FIR_C0.addr u) = presetWord 3) ∧
  (∀ (s : State) (u : UnitId) (p : Fin 8), s.dev.off .lu u 0 = false → s.dev.tst .lu u = false → 1 ≤ p.val → p.val ≤ 5 →
    ∃ t, exec (.presetGo u p) s = .next t ∧ t.dev.get F.LU_TX_CTRL_PRESET u = p.val ∧
      Claims.firIs t.dev u (presetWord p) ∧
      (t.dev.word (F.LU_TX_FIR_C0.addr u)).getLsbD 31 = (s.dev.word (F.LU_TX_FIR_C0.addr u)).getLsbD 31 ∧
        t.dev.buffered.find (F.LU_TX_FIR_C0.addr u) = none ∧
      (∀ a, a ≠ F.LU_TX_FIR_C0.addr u → t.dev.buffered.find a = s.dev.buffered.find a) ∧
      t.dev.hub.xw = s.dev.hub.xw.map (fun l => l.filter (fun e => e.1 ≠ F.LU_TX_FIR_C0.addr u)) ∧
      (t.dev.unit u).co = { (s.dev.unit u).co with firNew := true } ∧ (∀ v, v ≠ u.val → t.dev.unit v = s.dev.unit v) ∧
      t.dev.port = s.dev.port ∧ t.keep = s.keep ∧
      s.dev.fieldsKept t.dev [(F.LU_TX_CTRL_PRESET, u.val)] [F.LU_TX_FIR_C0.addr u]) ∧
  (∀ (s : State) (u : UnitId) (p : Fin 8), s.dev.off .lu u 0 = false → s.dev.tst .lu u = true →
    exec (.presetGo u p) s = .next s) ∧
  (∀ (s : State) (u : UnitId) (p : Fin 8),
    (s.dev.off .lu u 0 = true ∨ s.dev.tst .lu u = false ∧ (p.val = 0 ∨ 5 < p.val)) →
    exec (.presetGo u p) s = .next { s with dev := { s.dev with port := { s.dev.port with perr := true } } })

/-! Bring-up -/

/-- The fields that the start and the end of every attempt return to their values without a far end. -/
def Sys2Proof.Claims.attemptFields : List Fld :=
  [F.LU_BU_STAT_FAR_READY, F.LU_BU_STAT_RX_READY, F.LU_BU_STAT_SEARCH_DONE, F.LU_LINE_FRAME_HDR_LOCK,
    F.LU_LINE_FRAME_DESCR_LOCK, F.LU_LINE_FRAME_RX_FMT, F.LU_LINE_FRAME_PORT_MISMATCH, F.LU_LINE_FRAME_FAR_PRECODE,
    F.LU_LINE_FRAME_TX_PRECODE, F.LU_LINE_FRAME_RX_QUIET, F.LU_LINE_FRAME_TX_QUIET, F.LU_LINE_FRAME_TX_HOLD,
    F.LU_RX_STAT_TR_LOCK, F.LU_RX_STAT_LOOP_TIMED, F.LU_RX_LQI_LQI, F.LU_RX_LAT_LAT]

/-- No reset, no test, no run and no port of the unit stands in the way of an attempt, in a DUPLEX unit. -/
abbrev Sys2Proof.Claims.ready (d : Dev) (u : Nat) : Prop :=
  d.off .lu u 0 = false ∧ d.tst .lu u = false ∧ d.duplex (u / 8) = true ∧ Claims.noRuns d u ∧ Claims.portIdle d u

/-- Where the HOST_RX deskew of a unit's port is set, no other lane of the port sends in data mode. -/
abbrev Sys2Proof.Claims.aloneInData (d : Dev) (u : Nat) : Prop :=
  d.inPort u = true → (d.cluster (u / 8)).hrxDsk.contains (d.base u) = true →
    ∀ v ∈ d.portUnits (d.portOf u), v ≠ u → (d.unit v).tx ≠ .data

/-- EN: clearing it ends the attempt uncounted, the transmitter drives zero, STATE reads DISABLED and the port's deskew
is no longer set, so that its other lanes hold in data mode; setting it clears FAIL_CNT and starts a cold attempt with
the start preset. A write of the value it has does nothing; one to a unit that is off sets PERR, one to a unit under
test is dropped (R18, R116, R174, R175, R204, R218). -/
def Obligations.EnablingAUnit : Prop :=
  (∀ (s : State) (u : UnitId) (v : Bool), s.dev.off .lu u 0 = false →
    (s.dev.tst .lu u = true ∨ s.dev.is F.LU_BU_CTRL_EN u = v) → exec (.en u v) s = .next s) ∧
  (∀ (s : State) (u : UnitId) (v : Bool), s.dev.off .lu u 0 = true →
    exec (.en u v) s = .next { s with dev := { s.dev with port := { s.dev.port with perr := true } } }) ∧
  (∀ (s : State) (u : UnitId), s.dev.off .lu u 0 = false → s.dev.tst .lu u = false → s.dev.is F.LU_BU_CTRL_EN u = true →
    Claims.noRuns s.dev u → Claims.portIdle s.dev u → Claims.aloneInData s.dev u →
    ∃ t, exec (.en u false) s = .next t ∧ t.dev.is F.LU_BU_CTRL_EN u = false ∧ t.dev.get F.LU_BU_STAT_STATE u = 0 ∧
      (t.dev.unit u).tx = .zero ∧ (t.dev.unit u).lineOut = none ∧
      t.dev.get F.LU_BU_STAT_FAIL_CNT u = s.dev.get F.LU_BU_STAT_FAIL_CNT u ∧ t.dev.get F.LU_HOST_STAT_HRX_STATE u = 0 ∧
      (t.dev.cluster (u / 8)).hrxDsk.contains (s.dev.base u) = false ∧ Claims.othersBut s t u ∧ t.keep = s.keep ∧
      s.dev.fieldsKept t.dev ((F.CL_PORT_STAT_DSK_SET, u.val / 8) :: ([F.LU_BU_CTRL_EN, F.LU_BU_STAT_STATE,
        F.LU_HOST_STAT_HRX_STATE, F.LU_HOST_STAT_AM_LOCK, F.LU_BU_STAT_HOST_AM,
        F.LU_HOST_STAT_CDR_LOCK] ++ Claims.attemptFields).map (fun f => (f, u.val))) []) ∧
  (∀ (s : State) (u v : UnitId), s.dev.off .lu u 0 = false → s.dev.tst .lu u = false → s.dev.is F.LU_BU_CTRL_EN u = true →
    Claims.noRuns s.dev u → Claims.portIdle s.dev u → s.dev.inPort u = true →
    (s.dev.cluster (u / 8)).hrxDsk.contains (s.dev.base u) = true → v ≠ u → v.val ∈ s.dev.portUnits (s.dev.portOf u) →
    (s.dev.unit v).tx = .data → (s.dev.unit v).txWant ≠ some .announce →
    ∃ t, exec (.en u false) s = .next t ∧ t.dev.is F.LU_LINE_FRAME_TX_HOLD v = true ∧
      (t.dev.unit v).txWant = some .holdNotice) ∧
  (∀ (s : State) (u : UnitId), Claims.ready s.dev u → s.dev.is F.LU_BU_CTRL_EN u = false →
    ∃ t, exec (.en u true) s = .next t ∧ t.dev.is F.LU_BU_CTRL_EN u = true ∧
      t.dev.get F.LU_BU_STAT_STATE u = Claims.startState s.dev u true ∧ t.dev.get F.LU_BU_STAT_FAIL_CNT u = 0 ∧
      t.dev.get F.LU_RB_STAT_GEAR u = 0 ∧
      t.dev.get F.LU_BU_STAT_ATTEMPTS u = (s.dev.get F.LU_BU_STAT_ATTEMPTS u + 1) % 256 ∧
      Claims.firIs t.dev u (presetWord (s.dev.get F.LU_BU_CFG_START_PRESET u)) ∧
      (s.dev.mapped u = true → t.dev.get F.LU_HOST_STAT_HRX_STATE u = (if s.dev.is F.LU_HOST_STAT_SIGDET u then 2 else 1)) ∧
      Claims.within s t u [(F.SEC_BL_UNITS_BITS (u / 32)).addr 0])

/-- What starts an attempt again: RETRAIN, CLR_FAIL in DOWN, the end of a backoff by time or by energy. All but RETRAIN
of a running unit are cold. CLR_FAIL elsewhere only clears; that LAST_REASON clears with FAIL_CNT is the model's reading
(R175, R201, R202, R204, R205, R207; log entry 20). -/
def Obligations.AttemptsStart : Prop :=
  (∀ (s : State) (u : UnitId), Claims.ready s.dev u → s.dev.is F.LU_BU_CTRL_EN u = true →
    ∃ t, exec (.retrain u) s = .next t ∧
      t.dev.get F.LU_BU_STAT_STATE u = Claims.startState s.dev u
        (decide (s.dev.get F.LU_BU_STAT_STATE u = 17 ∨ s.dev.get F.LU_BU_STAT_STATE u = 18) || Claims.relockCold s.dev u) ∧
      t.dev.get F.LU_BU_STAT_ATTEMPTS u = (s.dev.get F.LU_BU_STAT_ATTEMPTS u + 1) % 256 ∧
      t.dev.is F.LU_RB_CTRL_FORCE_COLD u = false ∧ t.dev.get F.LU_LINE_FRAME_RX_FMT u = 0 ∧ Claims.within s t u []) ∧
  (∀ (s : State) (u : UnitId), s.dev.off .lu u 0 = false → s.dev.tst .lu u = false →
    s.dev.get F.LU_BU_STAT_STATE u ≠ 18 →
    ∃ t, exec (.clrFail u) s = .next t ∧ t.dev.get F.LU_BU_STAT_FAIL_CNT u = 0 ∧ t.dev.get F.LU_BU_STAT_LAST_REASON u = 0 ∧
      s.regsOnly t [(F.LU_BU_STAT_FAIL_CNT, u.val), (F.LU_BU_STAT_LAST_REASON, u.val)] []) ∧
  (∀ (s : State) (u : UnitId), Claims.ready s.dev u → s.dev.get F.LU_BU_STAT_STATE u = 18 →
    ∃ t, exec (.clrFail u) s = .next t ∧ t.dev.get F.LU_BU_STAT_STATE u = Claims.startState s.dev u true ∧
      t.dev.get F.LU_BU_STAT_FAIL_CNT u = 0 ∧ Claims.within s t u []) ∧
  (∀ (s : State) (u : UnitId), Claims.ready s.dev u → s.dev.live u = true → s.dev.get F.LU_BU_STAT_STATE u = 17 →
    ((s.dev.unit u).boEnd ≤ s.dev.time →
      ∃ t, exec (.backoffEnd u) s = .next t ∧ t.dev.get F.LU_BU_STAT_STATE u = Claims.startState s.dev u true ∧
        Claims.within s t u []) ∧
    (s.dev.time < (s.dev.unit u).boEnd → exec (.backoffEnd u) s = .next s) ∧
    ((s.dev.unit u).lostHold = false → 32 ≤ (s.dev.unit u).rx.energetic →
      ∃ t, exec (.boWake u) s = .next t ∧ t.dev.is F.LU_BU_EVT_BO_WAKE u = true ∧
        t.dev.get F.LU_BU_STAT_STATE u = Claims.startState s.dev u true ∧ Claims.within s t u []) ∧
    ((s.dev.unit u).lostHold = true ∨ (s.dev.unit u).rx.energetic < 32 → exec (.boWake u) s = .next s))

/-- What a failed attempt leaves: its reason, FAIL_CNT one more, TRAIN_FAIL, the transmitter at zero, the echo sections
kept for the cable class, and DOWN at the limit or else a backoff of B to 5/4 B milliseconds. -/
def Sys2Proof.Claims.failed (s t : State) (u reason : Nat) : Prop :=
  let n := min (s.dev.get F.LU_BU_STAT_FAIL_CNT u + 1) 15
  let b := s.dev.get F.LU_BU_CFG_BO_BASE u * 2 ^ min (n - 1) 10
  t.dev.get F.LU_BU_STAT_LAST_REASON u = reason ∧ t.dev.get F.LU_BU_STAT_FAIL_CNT u = n ∧
  t.dev.is F.LU_BU_EVT_TRAIN_FAIL u = true ∧ (t.dev.unit u).tx = .zero ∧
  (t.dev.unit u).canc.copy = some (if s.dev.duplex (u / 8) then s.dev.sections u else []) ∧
  Claims.within s t u [F.FLT_SUPPR_MASKED.addr 0] ∧
  (if s.dev.get F.LU_BU_CFG_FAIL_LIMIT u ≠ 0 ∧ s.dev.get F.LU_BU_CFG_FAIL_LIMIT u ≤ n then
    t.dev.get F.LU_BU_STAT_STATE u = 18 ∧ t.dev.is F.LU_BU_EVT_UNIT_DOWN u = true
  else t.dev.get F.LU_BU_STAT_STATE u = 17 ∧ b ≤ t.dev.backoffLeft u ∧ t.dev.backoffLeft u ≤ b + b / 4 + 1)

/-- A state's limit that has passed and a lost far end fail the attempt with the reason of R176; the cable class of a
failure comes from the echo sections kept at it (R176, R177, R200 to R204, R261, R263). -/
def Obligations.AttemptsFail : Prop :=
  (∀ (s : State) (u : UnitId), ((s.dev.limitAt u).map s.dev.due).getD false = false → exec (.stateLimit u) s = .next s) ∧
  (∀ (s : State) (u : UnitId) (n : Nat), Claims.ready s.dev u → s.dev.lineLive u = true → s.dev.mild 0x38 →
    s.dev.mild 0x24 → s.dev.limitAt u = some n → s.dev.due n = true →
    ∀ p ∈ [(3, 3), (4, 4), (5, 6), (7, 7), (8, 8), (2, if s.dev.noEnergy u then 1 else 2)],
      s.dev.phaseOf u = p.1 → ∃ t, exec (.stateLimit u) s = .next t ∧ Claims.failed s t u p.2) ∧
  (∀ (s : State) (u : UnitId), Claims.ready s.dev u → s.dev.lineLive u = true → s.dev.mild 0x38 → s.dev.mild 0x24 →
    (s.dev.unit u).rx.trSeen = true → 2 ≤ s.dev.phaseOf u → s.dev.phaseOf u ≤ 8 →
    ((s.dev.unit u).rx.silent < 1024 → exec (.lostFar u) s = .next s) ∧
    (1024 ≤ (s.dev.unit u).rx.silent → (s.dev.cluster (u / 8)).silent.length < 7 →
      ∃ t, exec (.lostFar u) s = .next t ∧ Claims.failed s t u 9 ∧
        (t.dev.cluster (u / 8)).silent.contains (u.val % 8) = true)) ∧
  (∀ (s : State) (u : UnitId), (s.dev.unit u).canc.copy = none → exec (.failureClassification u) s = .next s) ∧
  (∀ (s : State) (u : UnitId) (secs : List Section), s.dev.live u = true → (s.dev.unit u).canc.copy = some secs →
    ∃ t, exec (.failureClassification u) s = .next t ∧ (t.dev.unit u).canc.copy = none ∧
      t.dev.get F.LU_BU_STAT_CABLE u = (classify (mapOf (s.dev.mapEntries (u / 8) secs).1) (s.dev.get F.CL_DIAG_CFG_VP (u / 8))
        (s.dev.get F.CL_DIAG_CFG_NEAR_ZONE (u / 8)) (s.dev.unit u).swapped false (beyondReach secs)).1 ∧
      ((s.dev.unit u).swapped = true → t.dev.get F.LU_BU_STAT_CABLE u = 6) ∧
      t.dev.get (F.CL_DIAG_U_SEQ (u.val % 8)) (u / 8) = (s.dev.get (F.CL_DIAG_U_SEQ (u.val % 8)) (u / 8) + 1) %
        2 ^ ((F.CL_DIAG_U_SEQ (u.val % 8)).hi + 1 - (F.CL_DIAG_U_SEQ (u.val % 8)).lo) ∧
      (∀ v, v ≠ u.val → t.dev.unit v = s.dev.unit v) ∧ t.dev.clusters = s.dev.clusters ∧ t.keep = s.keep)

/-- At block 0 of a training frame the responder takes a step only where the taps stay legal, loads a preset, and
returns to STATUS 0 after a hold; before that it waits. The requester gives up an exchange that 64 frames have carried
without an answer: it sends its hold, then ends, and four end its search; a hold that no answer ends counts as a refusal
of its step too, so that the search goes on from where it stood before the answer. Software's preset request is sent
when nothing is outstanding, and refused outside states 4 to 8 (R161, R186 to R191, R207). -/
def Obligations.Coefficients : Prop :=
  (∀ (s : State) (u : UnitId), (s.dev.unit u).txBlock ≠ 0 ∨ s.dev.due ((s.dev.unit u).co.heardAt + 8) = false →
    exec (.coefApply u) s = .next s) ∧
  (∀ (s : State) (u : UnitId), s.dev.live u = true → s.dev.duplex (u / 8) = true → (s.dev.unit u).tx = .training →
    (s.dev.unit u).txBlock = 0 → s.dev.due ((s.dev.unit u).co.heardAt + 8) = true →
    ((s.dev.unit u).co.holdSeen = true →
      ∃ t, exec (.coefApply u) s = .next t ∧ (t.dev.unit u).co.rspStatus = 0 ∧ (t.dev.unit u).co.holdSeen = false ∧
        s.unitOnly t u [] []) ∧
    (∀ (tap : Fin 5) (up : Bool), (s.dev.unit u).co.holdSeen = false → (s.dev.unit u).co.firNew = false →
      (s.dev.unit u).co.pend = some ⟨tap, if up then 1 else 2, 0⟩ →
      ∃ t, exec (.coefApply u) s = .next t ∧ (t.dev.unit u).co.pend = none ∧ (t.dev.unit u).co.rspTap = tap.val ∧
        (firOk (firStep (s.dev.word (F.LU_TX_FIR_C0.addr u)) tap up) = true →
          (t.dev.unit u).co.rspStatus = 1 ∧
            t.dev.word (F.LU_TX_FIR_C0.addr u) = firStep (s.dev.word (F.LU_TX_FIR_C0.addr u)) tap up) ∧
        (firOk (firStep (s.dev.word (F.LU_TX_FIR_C0.addr u)) tap up) = false →
          (t.dev.unit u).co.rspStatus = (if up then 3 else 2) ∧
            t.dev.word (F.LU_TX_FIR_C0.addr u) = s.dev.word (F.LU_TX_FIR_C0.addr u)) ∧
        s.unitOnly t u [] [F.LU_TX_FIR_C0.addr u]) ∧
    (∀ (p : Fin 8) (tap act : Nat), (s.dev.unit u).co.holdSeen = false → (s.dev.unit u).co.firNew = false →
      (s.dev.unit u).co.pend = some ⟨tap, act, p⟩ → 1 ≤ p.val → p.val ≤ 5 →
      ∃ t, exec (.coefApply u) s = .next t ∧ (t.dev.unit u).co.rspStatus = 4 ∧
        Claims.firIs t.dev u (presetWord p))) ∧
  (∀ (s : State) (u : UnitId),
    ((s.dev.unit u).co.frames < 64 ∨ (s.dev.unit u).co.frames = 64 ∧ (s.dev.unit u).txBlock ≠ 0) →
    exec (.coefTmo u) s = .next s) ∧
  (∀ (s : State) (u : UnitId) (r : CoefReq), s.dev.live u = true →
    (64 < (s.dev.unit u).co.frames ∨ (s.dev.unit u).co.frames = 64 ∧ (s.dev.unit u).txBlock = 0) →
    (s.dev.unit u).co.req = some r →
    (3 ≤ (s.dev.unit u).co.abandoned → (s.dev.unit u).co.counted = false →
      ∃ t, exec (.coefTmo u) s = .next t ∧ t.dev.is F.LU_BU_EVT_COEF_TMO u = true ∧
        (t.dev.unit u).srch.phase = (if (s.dev.unit u).srch.phase = .off then .off else .done) ∧
        s.unitOnly t u [(F.LU_BU_EVT_COEF_TMO, u.val), (F.LU_BU_STAT_SEARCH_DONE, u.val)] []) ∧
    ((s.dev.unit u).co.abandoned < 3 → (s.dev.unit u).co.holding = false → r.preset ≠ 0 →
      ∃ t, exec (.coefTmo u) s = .next t ∧ t.dev.is F.LU_BU_EVT_COEF_TMO u = true ∧ (t.dev.unit u).co.req = some r ∧
        (t.dev.unit u).co.holding = true ∧ (t.dev.unit u).co.frames = 0 ∧ (t.dev.unit u).co.counted = true ∧
        s.unitOnly t u [(F.LU_BU_EVT_COEF_TMO, u.val)] []) ∧
    ((s.dev.unit u).co.abandoned < 3 → (s.dev.unit u).co.holding = true → (s.dev.unit u).co.presetDue = none →
      (s.dev.unit u).srch.want = none → ((s.dev.unit u).co.counted = true ∨ (s.dev.unit u).srch.phase = .off) →
      ∃ t, exec (.coefTmo u) s = .next t ∧ t.dev.is F.LU_BU_EVT_COEF_TMO u = true ∧ (t.dev.unit u).co.req = none ∧
        (t.dev.unit u).co.holding = false ∧
        (t.dev.unit u).co.abandoned = (s.dev.unit u).co.abandoned + (if (s.dev.unit u).co.counted then 0 else 1) ∧
        s.unitOnly t u [(F.LU_BU_EVT_COEF_TMO, u.val)] []) ∧
    (∀ a, (s.dev.unit u).srchWas.answered 0 (s.dev.get F.LU_BU_NEG_TRIALS u) = a →
      (s.dev.unit u).co.abandoned < 3 → (s.dev.unit u).co.holding = true → (s.dev.unit u).co.counted = false →
      (s.dev.unit u).co.presetDue = none → r.preset = 0 → (s.dev.unit u).srch.phase ≠ .off → (s.dev.unit u).srch.phase ≠ .done →
      ∃ t, exec (.coefTmo u) s = .next t ∧ t.dev.is F.LU_BU_EVT_COEF_TMO u = true ∧ (t.dev.unit u).srch.phase = a.1.phase ∧
        (t.dev.unit u).co.abandoned = (s.dev.unit u).co.abandoned + 1 ∧
        (t.dev.unit u).co.req = (if s.dev.phaseOf u = 6 then a.1.want else none) ∧
        s.unitOnly t u [(F.LU_BU_EVT_COEF_TMO, u.val), (F.LU_BU_STAT_SEARCH_DONE, u.val)] [])) ∧
  (∀ (s : State) (u : UnitId) (p : Fin 8), s.dev.off .lu u 0 = false → s.dev.tst .lu u = false → 1 ≤ p.val → p.val ≤ 5 →
    (s.dev.duplex (u / 8) = true → 4 ≤ s.dev.phaseOf u → s.dev.phaseOf u ≤ 8 →
      ∃ t, exec (.reqPresetGo u p) s = .next t ∧ t.dev.get F.LU_BU_CTRL_REQ_PRESET u = p.val ∧
        ((s.dev.unit u).co.req = none → (t.dev.unit u).co.req = some ⟨0, 0, p⟩ ∧ (t.dev.unit u).co.presetDue = none) ∧
        ((s.dev.unit u).co.req.isSome = true → (t.dev.unit u).co.req = (s.dev.unit u).co.req ∧
          (t.dev.unit u).co.presetDue = some p.val) ∧
        t.dev.port = s.dev.port ∧ (∀ v, v ≠ u.val → t.dev.unit v = s.dev.unit v) ∧
        s.dev.fieldsKept t.dev [(F.LU_BU_CTRL_REQ_PRESET, u.val)] []) ∧
    ((s.dev.phaseOf u < 4 ∨ 8 < s.dev.phaseOf u) →
      ∃ t, exec (.reqPresetGo u p) s = .next t ∧ t.dev.port.perr = true ∧ t.dev.units = s.dev.units))

/-- SIMPLEX: the standard's training ends with the lane up and its FEXT cancellers at zero in G3, or with the failure of
reason 10; a lost link is loss of lock and a new training; EN and RETRAIN start one (R86, R123, R154, R174, R175, R206,
R247). -/
def Obligations.SimplexLanes : Prop :=
  (∀ (s : State) (u : UnitId), s.dev.pathLive u = true → s.dev.duplex (u / 8) = false → s.dev.get F.LU_BU_STAT_STATE u = 11 →
    (s.dev.inPort u = false →
      ∃ t, exec (.stdTrainingEnd u true) s = .next t ∧ t.dev.get F.LU_BU_STAT_STATE u = 10 ∧
        t.dev.is F.LU_LINE_FRAME_HDR_LOCK u = true ∧ t.dev.get F.LU_LINE_FRAME_RX_FMT u = 2 ∧
        t.dev.get F.LU_RB_STAT_GEAR u = 3 ∧ t.dev.get F.LU_BU_STAT_FAIL_CNT u = 0 ∧
        (∀ k, k < 72 → ((t.dev.cluster (u / 8)).pool.find (72 * (u.val % 8) + k)).getD 0 = 0) ∧
        (t.dev.unit u).canc.slow = s.dev.is F.RG_PACE_STAT_SHED (u / 32) ∧
        t.dev.get F.LU_BU_TIME_UP_TIME u = min ((s.dev.refa - (s.dev.unit u).attemptAt) * 640 / 1000000) 0xFFFF ∧
        Claims.othersBut s t u ∧ t.keep = s.keep ∧
        s.dev.fieldsKept t.dev [(F.LU_BU_STAT_STATE, u.val), (F.LU_LINE_FRAME_HDR_LOCK, u.val), (F.LU_LINE_FRAME_RX_FMT, u.val),
          (F.LU_LINE_FRAME_TX_PRECODE, u.val), (F.LU_LINE_FRAME_FAR_PRECODE, u.val), (F.LU_BU_TIME_UP_TIME, u.val),
          (F.LU_RB_STAT_GEAR, u.val), (F.LU_BU_STAT_FAIL_CNT, u.val), (F.LU_BU_STAT_LAST_REASON, u.val)]
          [F.LU_TX_FIR_C0.addr u]) ∧
    (Claims.noRuns s.dev u → Claims.portIdle s.dev u → s.dev.mild 0x38 → s.dev.mild 0x24 →
      ∃ t, exec (.stdTrainingEnd u false) s = .next t ∧ Claims.failed s t u 10)) ∧
  (∀ (s : State) (u : UnitId), s.dev.pathLive u = true → s.dev.duplex (u / 8) = false → s.dev.get F.LU_BU_STAT_STATE u = 10 →
    Claims.noRuns s.dev u → Claims.portIdle s.dev u → s.dev.mild 0x20 →
    ∃ t, exec (.stdLinkLoss u) s = .next t ∧ t.dev.get F.LU_BU_STAT_STATE u = 11 ∧ t.dev.is F.LU_LINE_EVT_LOL u = true ∧
      t.dev.count (blkBase .lu u + 0x450) = min (s.dev.count (blkBase .lu u + 0x450) + 1) (2 ^ 64 - 1) ∧
      t.dev.get F.LU_LINE_FRAME_RX_FMT u = 0 ∧ Claims.within s t u [F.FLT_SUPPR_MASKED.addr 0]) ∧
  (∀ (s : State) (u : UnitId), s.dev.off .lu u 0 = false → s.dev.tst .lu u = false → s.dev.duplex (u / 8) = false →
    u.val % 8 < 4 → Claims.noRuns s.dev u → Claims.portIdle s.dev u →
    ∀ c ∈ (if s.dev.is F.LU_BU_CTRL_EN u then [Instr.retrain u] else [Instr.en u true]),
      ∃ t, exec c s = .next t ∧ t.dev.get F.LU_BU_STAT_STATE u = 11 ∧ t.dev.is F.LU_BU_CTRL_EN u = true ∧
        t.dev.get F.LU_LINE_FRAME_RX_FMT u = 0 ∧ Claims.within s t u [(F.SEC_BL_UNITS_BITS (u / 32)).addr 0])

/-! Host lanes and ports -/

/-- The states of a HOST_RX lane: SIGWAIT to ADAPT on signal, AM_HUNT on CDR lock, back on host idle, loss of lock or a
limit (R218, R219, R220, R230, R472). Host idle in LOCKED is granted as QUIET when the conditions of R411 stand: the
notice waits for the transmitter's next chance. The lane then wakes on signal with its AM lock kept, out of DEEP with
the region (R69, R218, R231, R411, R416). -/
def Obligations.HostLanes : Prop :=
  ((∀ (s : State) (u : UnitId), s.dev.hrxLive u = true → s.dev.hrx u = 1 →
     ∃ t, exec (.sigdet u) s = .next t ∧ t.dev.hrx u = 2 ∧ t.dev.is F.LU_HOST_STAT_SIGDET u = true ∧
       s.unitOnly t u [(F.LU_HOST_STAT_SIGDET, u.val), (F.LU_HOST_STAT_HRX_STATE, u.val)] []) ∧
   (∀ (s : State) (u : UnitId) (stood : Bool), s.dev.hrxLive u = true → (s.dev.hrx u = 2 ∨ s.dev.hrx u = 3) →
     ∃ t, exec (.hostIdle u stood) s = .next t ∧ t.dev.hrx u = 1 ∧ t.dev.is F.LU_HOST_STAT_SIGDET u = false ∧
       t.dev.is F.LU_HOST_EVT_HOST_IDLE u = true ∧ t.dev.is F.LU_HOST_STAT_CDR_LOCK u = false ∧
       (s.dev.is F.LU_HOST_STAT_CDR_LOCK u = true → t.dev.is F.LU_HOST_EVT_CDR_LOL u = true) ∧
       s.unitOnly t u [(F.LU_HOST_STAT_SIGDET, u.val), (F.LU_HOST_STAT_HRX_STATE, u.val), (F.LU_HOST_EVT_HOST_IDLE, u.val),
         (F.LU_HOST_STAT_CDR_LOCK, u.val), (F.LU_HOST_EVT_CDR_LOL, u.val)] []) ∧
   (∀ (s : State) (u : UnitId), s.dev.hrxLive u = true → s.dev.hrx u = 2 → s.dev.get F.LU_PAT_CTRL_CHK_PT u ≠ 2 →
     ∃ t, exec (.cdrLock u) s = .next t ∧ t.dev.hrx u = 3 ∧ t.dev.is F.LU_HOST_STAT_CDR_LOCK u = true ∧
       s.unitOnly t u [(F.LU_HOST_STAT_CDR_LOCK, u.val), (F.LU_HOST_STAT_HRX_STATE, u.val)] []) ∧
   (∀ (s : State) (u : UnitId), s.dev.hrxLive u = true → (s.dev.hrx u = 3 ∨ s.dev.hrx u = 4) → Claims.portIdle s.dev u →
     (s.dev.hrx u = 4 → (s.dev.unit u).tx ≠ .data) →
     ∃ t, exec (.cdrLol u) s = .next t ∧ t.dev.hrx u = 2 ∧ t.dev.is F.LU_HOST_STAT_CDR_LOCK u = false ∧
       t.dev.is F.LU_HOST_EVT_CDR_LOL u = true ∧
       (s.dev.hrx u = 4 → t.dev.is F.LU_HOST_STAT_AM_LOCK u = false ∧ t.dev.is F.LU_HOST_EVT_AM_LOL u = true) ∧
       s.unitOnly t u [(F.LU_HOST_STAT_CDR_LOCK, u.val), (F.LU_HOST_STAT_HRX_STATE, u.val), (F.LU_HOST_EVT_CDR_LOL, u.val),
         (F.LU_HOST_EVT_AM_LOL, u.val), (F.LU_HOST_STAT_AM_LOCK, u.val), (F.LU_BU_STAT_HOST_AM, u.val)] []) ∧
   (∀ (s : State) (u : UnitId), s.dev.hrxLive u = true → (s.dev.hrx u = 2 ∨ s.dev.hrx u = 3) →
     s.dev.get F.LU_PAT_CTRL_CHK_PT u ≠ 2 → s.dev.mild 0x3A →
     (s.dev.due ((s.dev.unit u).host.hrxAt + (if s.dev.hrx u = 2 then 131072 else 331776)) = true →
       ∃ t, exec (.hrxTmo u) s = .next t ∧ t.dev.hrx u = 2 ∧ (t.dev.unit u).host.hrxAt = s.dev.refa ∧
         s.signals t F.LU_HOST_EVT_HRX_TMO u ⟨0x3A, .unit u 3, 0, s.dev.tag⟩ ∧
         s.unitEventOnly t u [(F.LU_HOST_EVT_HRX_TMO, u.val), (F.LU_HOST_STAT_HRX_STATE, u.val)] []) ∧
     (s.dev.due ((s.dev.unit u).host.hrxAt + (if s.dev.hrx u = 2 then 131072 else 331776)) = false →
       exec (.hrxTmo u) s = .next s))) ∧
  ((∀ (s : State) (u : UnitId), s.dev.hrxLive u = true → s.dev.hrx u = 4 → s.dev.is F.LU_HOST_STAT_AM_LOCK u = true →
     s.dev.mayQuiet u true = true →
     ∃ t, exec (.hostIdle u true) s = .next t ∧ t.dev.hrx u = 5 ∧ t.dev.is F.LU_HOST_STAT_AM_LOCK u = true ∧
       (t.dev.unit u).txWant = some .quietNotice ∧ (t.dev.unit u).tx = (s.dev.unit u).tx ∧
       s.unitOnly t u [(F.LU_HOST_STAT_SIGDET, u.val), (F.LU_HOST_STAT_HRX_STATE, u.val), (F.LU_HOST_EVT_HOST_IDLE, u.val)]
         []) ∧
   (∀ (s : State) (u : UnitId), s.dev.hrxLive u = true → s.dev.hrx u = 5 →
     ∃ t, exec (.sigdet u) s = .next t ∧ t.dev.hrx u = 4 ∧ t.dev.is F.LU_HOST_STAT_SIGDET u = true ∧
       s.dev.fieldsKept t.dev [(F.LU_HOST_STAT_SIGDET, u.val), (F.LU_HOST_STAT_HRX_STATE, u.val)] []) ∧
   (∀ (s : State) (u : UnitId), s.dev.hrxAsleep u = true → s.dev.hrx u = 5 → s.dev.idleUnit u = false →
     s.dev.get F.RG_PWR_STAT_STATE (u / 32) = 2 →
     ∃ t, exec (.sigdet u) s = .next t ∧ t.dev.hrx u = 4 ∧ t.dev.is F.LU_HOST_STAT_SIGDET u = true ∧
       t.dev.get F.RG_PWR_STAT_STATE (u / 32) = 3 ∧ (u.val / 8) ∈ (t.dev.region (u / 32)).wakes ∧
       s.dev.fieldsKept t.dev [(F.LU_HOST_STAT_SIGDET, u.val), (F.LU_HOST_STAT_HRX_STATE, u.val),
         (F.RG_PWR_STAT_STATE, u.val / 32)] []))

/-- Markers of HOST_RX, held bit by bit against the fixed one. In AM_HUNT of a port of one unit a valid one is a
candidate, with one exactly a period before it makes AM lock; in LOCKED a valid one clears the count of invalid ones,
and the fourth invalid one in a row loses the lock (R64, R219, R223, R230). A port whose conditions hold comes up, takes
the grid of its payload, and its lane carries payload; HOST_TX takes the source of R225 on every lane of the port at
once: nothing while unmapped, in no port or disabled, the fault stream while the port is down (R225 to R228, R240). -/
def Obligations.HostMarkersAndPorts : Prop :=
  ((∀ (s : State) (u : UnitId) (m : Nat), s.dev.hrxLive u = false ∨ s.dev.hostValid u m = none →
     exec (.hostMarker u m) s = .next s) ∧
   (∀ (s : State) (u : UnitId) (m : Nat), s.dev.hrxLive u = true → s.dev.hrx u = 3 → s.dev.width u = 1 →
     (s.dev.hostValid u m = some true → ((s.dev.unit u).host.firstAm.contains (m - amPeriod) = false ∨ m < amPeriod) →
       ∃ t, exec (.hostMarker u m) s = .next t ∧ m ∈ (t.dev.unit u).host.firstAm ∧ t.dev.hrx u = 3 ∧ s.unitOnly t u [] []) ∧
     (s.dev.hostValid u m = some true → amPeriod ≤ m → (s.dev.unit u).host.firstAm.contains (m - amPeriod) = true →
       ∃ t, exec (.hostMarker u m) s = .next t ∧ t.dev.hrx u = 4 ∧ t.dev.is F.LU_HOST_STAT_AM_LOCK u = true ∧
         t.dev.is F.LU_BU_STAT_HOST_AM u = true ∧ t.dev.get F.LU_HOST_STAT_HRX_DLY u = 0 ∧
         (t.dev.unit u).host.amPos = m ∧
         s.unitOnly t u [(F.LU_HOST_STAT_HRX_STATE, u.val), (F.LU_HOST_STAT_HRX_DLY, u.val), (F.LU_HOST_STAT_AM_LOCK, u.val),
           (F.LU_BU_STAT_HOST_AM, u.val)] []) ∧
     (s.dev.hostValid u m = some false → exec (.hostMarker u m) s = .next s)) ∧
   (∀ (s : State) (u : UnitId) (m : Nat) (valid : Bool), s.dev.hrxLive u = true → s.dev.hrx u = 4 →
     s.dev.hostValid u m = some valid →
     (((s.dev.unit u).host.amPos < m → m % amPeriod ≠ (s.dev.unit u).host.amPos % amPeriod) →
       exec (.hostMarker u m) s = .next s) ∧
     ((s.dev.unit u).host.amPos < m → m % amPeriod = (s.dev.unit u).host.amPos % amPeriod →
       (valid = false → (s.dev.unit u).host.badAm < 3 →
         ∃ t, exec (.hostMarker u m) s = .next t ∧ (t.dev.unit u).host.badAm = (s.dev.unit u).host.badAm + 1 ∧
           (t.dev.unit u).host.amPos = m ∧ s.unitOnly t u [] []) ∧
       (valid = true → s.dev.hostSet (s.dev.portOf u) = true →
         ∃ t, exec (.hostMarker u m) s = .next t ∧ (t.dev.unit u).host.badAm = 0 ∧ (t.dev.unit u).host.amPos = m ∧
           s.unitOnly t u [] []) ∧
       (valid = false → 3 ≤ (s.dev.unit u).host.badAm → Claims.portIdle s.dev u → (s.dev.unit u).tx ≠ .data →
         ∃ t, exec (.hostMarker u m) s = .next t ∧ t.dev.hrx u = 3 ∧ t.dev.is F.LU_HOST_STAT_AM_LOCK u = false ∧
           t.dev.is F.LU_HOST_EVT_AM_LOL u = true ∧
           s.unitOnly t u [(F.LU_HOST_STAT_HRX_STATE, u.val), (F.LU_HOST_STAT_AM_LOCK, u.val), (F.LU_BU_STAT_HOST_AM, u.val),
             (F.LU_HOST_EVT_AM_LOL, u.val)] [])))) ∧
  ((∀ (s : State) (p : UnitId), s.dev.pathLive p = true → s.dev.isPort p = true → s.dev.portOk p = true →
     s.dev.portUp p = false →
     ∃ t, exec (.portComesUp p) s = .next t ∧ t.dev.portUp p = true ∧
       (s.dev.width p = 1 → s.dev.mapped p = true → s.dev.is F.LU_LINE_FRAME_RX_QUIET p = false →
         (s.dev.region (p / 32)).inReset = false → (s.dev.unit p).host.fill = false → t.dev.get F.LU_HOST_STAT_HTX_SRC p = 3) ∧
       (∀ m, (s.dev.portUnits p).findSome? s.dev.htxMark = some m → ∀ v ∈ s.dev.portUnits p, v / 8 = p / 8 →
         s.dev.base v = p % 8 → t.dev.grid v = m % amPeriod) ∧
       (∀ q : UnitId, q ≠ p → t.dev.portUp q = s.dev.portUp q) ∧ t.keep = s.keep) ∧
   (∀ (s : State) (u : UnitId), s.dev.dieRuns (u / 64) = true → s.dev.inPort u = false → (s.dev.unit u).host.fill = false →
     ∃ t, exec (.htxSourceChange u) s = .next t ∧ t.dev.get F.LU_HOST_STAT_HTX_SRC u = 0 ∧
       s.unitOnly t u [(F.LU_HOST_STAT_HTX_SRC, u.val)] []) ∧
   (∀ (s : State) (u : UnitId), s.dev.dieRuns (u / 64) = true → s.dev.inPort u = true →
     (∀ v ∈ s.dev.portUnits (s.dev.portOf u), (s.dev.unit v).host.fill = false) →
     ∃ t, exec (.htxSourceChange u) s = .next t ∧
       (∀ v ∈ s.dev.portUnits (s.dev.portOf u), t.dev.get F.LU_HOST_STAT_HTX_SRC v =
         (if s.dev.mapped v = false ∨ s.dev.inPort v = false ∨ s.dev.is F.LU_BU_CTRL_EN v = false ∨
             (s.dev.region (v / 32)).inReset = true ∨ s.dev.is F.LU_LINE_FRAME_RX_QUIET v = true then 0
          else if s.dev.portUp (s.dev.portOf v) then 3 else 1)) ∧
       (∀ v, v ∉ s.dev.portUnits (s.dev.portOf u) → t.dev.unit v = s.dev.unit v) ∧ t.keep = s.keep))

/-! Monitoring and tests -/

/-- An interval that has ended replaces the record whole, with the next SEQ, from what it counted, and leaves the events
alone while no condition holds; one that goes on writes nothing. CNT_CLR zeroes every counter of the unit and nothing
else (R18, R242 to R244, R246, R248). Patterns and injection: the generator takes its point and pattern over; the
checker locks after 256 correct bits and loses lock at 32 errors; GO and STOP start and end an injection, whose next
codeword is the first one at its point from the time due on; it counts, and ends when it is single (R18, R249 to R253).
A point of a map scan that is not the last adds its counts and the scan goes on; a dwell of a sweep that has run and is
not the last adds the peaks of the probe's coefficients, marked with their source, and moves the probe (R254, R255,
R264, R265). -/
def Obligations.MonitoringAndTests : Prop :=
  ((∀ (s : State) (u : UnitId), s.dev.due (s.dev.unit u).mon.stop = false → exec (.monitorInterval u) s = .next s) ∧
   (∀ (s : State) (u : UnitId), s.dev.live u = true → s.dev.due (s.dev.unit u).mon.stop = true →
     0 < (s.dev.unit u).mon.acc.est → s.dev.get F.CL_MON_CFG_LQI_THR (u / 8) ≤ (s.dev.unit u).mon.acc.low →
     (s.dev.unit u).mon.acc.low ≤ 0xFFE → (s.dev.unit u).mon.acc.high ≤ 0xFFE →
     (s.dev.unit u).mon.acc.symErr ≤ s.dev.get F.CL_MON_CFG_SYM_M (u / 8) * 2 ^ s.dev.get F.CL_MON_CFG_SYM_E (u / 8) →
     (s.dev.unit u).mon.acc.uncorr = 0 →
     ∃ t, exec (.monitorInterval u) s = .next t ∧
       (∀ f ∈ [F.LU_MON_INT0_SEQ, F.LU_MON_INT1_SEQ, F.LU_MON_INT2_SEQ, F.LU_MON_INT3_SEQ],
         t.dev.get f u = (s.dev.get F.LU_MON_INT0_SEQ u + 1) % 256) ∧
       bitsOf (t.dev.word (F.LU_MON_INT0_SEQ.addr u)) 11 0 = (s.dev.unit u).mon.acc.low ∧
       bitsOf (t.dev.word (F.LU_MON_INT0_SEQ.addr u)) 23 12 = (s.dev.unit u).mon.acc.high ∧
       bitsOf (t.dev.word (F.LU_MON_INT1_SEQ.addr u)) 11 0 =
         min ((s.dev.unit u).mon.acc.sum / (s.dev.unit u).mon.acc.est) 0xFFE ∧
       bitsOf (t.dev.word (F.LU_MON_INT2_SEQ.addr u)) 23 0 = min (s.dev.unit u).mon.acc.symErr 0xFFFFFF ∧
       bitsOf (t.dev.word (F.LU_MON_INT3_SEQ.addr u)) 15 0 = min (s.dev.unit u).mon.acc.hdrErr 0xFFFF ∧
       (t.dev.unit u).mon.exp = s.dev.get F.CL_MON_CFG_MON_EXP (u / 8) ∧
       (t.dev.unit u).mon.start = (s.dev.unit u).mon.stop ∧ (t.dev.unit u).mon.acc = (s.dev.unit u).mon.next ∧
       s.unitOnly t u [] ([F.LU_MON_INT0_SEQ, F.LU_MON_INT1_SEQ, F.LU_MON_INT2_SEQ, F.LU_MON_INT3_SEQ].map (·.addr u))) ∧
   (∀ (s : State) (u : UnitId), s.dev.off .lu u 0 = false → s.dev.tst .lu u = false →
     ∃ t, exec (.cntClr u) s = .next t ∧
       (∀ k, k < 64 → t.dev.word (blkBase .lu u + 0x400 + 4 * k) = resetOf (blkBase .lu u + 0x400 + 4 * k)) ∧
       (∀ a, (a < blkBase .lu u + 0x400 ∨ blkBase .lu u + 0x500 ≤ a) → t.dev.word a = s.dev.word a) ∧
       t = { s with dev := { s.dev with regs := t.dev.regs, shadows := t.dev.shadows } })) ∧
  ((∀ (s : State) (u : UnitId), s.dev.live u = true →
     ∃ t, exec (.genPtChange u) s = .next t ∧ (t.dev.unit u).mon.genPt = s.dev.get F.LU_PAT_CTRL_GEN_PT u ∧
       (t.dev.unit u).mon.genPat = s.dev.get F.LU_PAT_CTRL_GEN_PAT u ∧ s.unitOnly t u [] []) ∧
   (∀ (s : State) (u : UnitId), s.dev.live u = true → s.dev.is F.LU_PAT_CTRL_PAT_LOCK u = false →
     ((s.dev.get F.LU_PAT_CTRL_CHK_PT u = 1 ∧ s.dev.rxData u = true) ∨
       (s.dev.get F.LU_PAT_CTRL_CHK_PT u = 2 ∧ s.dev.is F.LU_HOST_STAT_CDR_LOCK u = true)) →
     (256 ≤ (s.dev.unit u).mon.chkRun →
       ∃ t, exec (.patLock u) s = .next t ∧ t.dev.is F.LU_PAT_CTRL_PAT_LOCK u = true ∧
         s.unitOnly t u [(F.LU_PAT_CTRL_PAT_LOCK, u.val)] []) ∧
     ((s.dev.unit u).mon.chkRun < 256 → exec (.patLock u) s = .next s)) ∧
   (∀ (s : State) (u : UnitId), s.dev.live u = true → s.dev.is F.LU_PAT_CTRL_PAT_LOCK u = true →
     (32 ≤ ((s.dev.unit u).mon.chkWin.filter id).length →
       ∃ t, exec (.patLol u) s = .next t ∧ t.dev.is F.LU_PAT_CTRL_PAT_LOCK u = false ∧ t.dev.is F.LU_MON_EVT_PAT_LOL u = true ∧
         (t.dev.unit u).mon.chkBits = [] ∧
         s.unitOnly t u [(F.LU_PAT_CTRL_PAT_LOCK, u.val), (F.LU_MON_EVT_PAT_LOL, u.val)] []) ∧
     (((s.dev.unit u).mon.chkWin.filter id).length < 32 → exec (.patLol u) s = .next s)) ∧
   (∀ (s : State) (u : UnitId), s.dev.off .lu u 0 = false → s.dev.tst .lu u = false →
     (∃ t, exec (.injGo u) s = .next t ∧ (t.dev.unit u).mon.inj = some ⟨s.dev.get F.LU_INJ_CTRL_PERIOD u,
         s.dev.get F.LU_INJ_CTRL_SYMS u, s.dev.is F.LU_INJ_CTRL_POINT u, 136 * s.dev.refa⟩ ∧ s.unitOnly t u [] []) ∧
     (∃ t, exec (.injStop u) s = .next t ∧ (t.dev.unit u).mon.inj = none ∧ s.unitOnly t u [] [])) ∧
   (∀ (s : State) (u : UnitId) (p : InjSt) (start : Nat), s.dev.live u = true → (s.dev.unit u).mon.inj = some p →
     (p.host = true ∨ s.dev.linePayload u = true) → (s.dev.unit u).mon.hit = none →
     start = max p.next (136 * s.dev.refa - 408) +
       toCw (if p.host then s.dev.grid u else s.dev.txGrid u) (max p.next (136 * s.dev.refa - 408)) →
     (136 * (s.dev.refa + 40) < start → exec (.injection u) s = .next s) ∧
     (start ≤ 136 * (s.dev.refa + 40) →
       ∃ t, exec (.injection u) s = .next t ∧ (t.dev.unit u).mon.hit = some (start, p.syms) ∧
         (t.dev.unit u).mon.hitHost = p.host ∧
         t.dev.count (blkBase .lu u + 0x468) = min (s.dev.count (blkBase .lu u + 0x468) + 1) (2 ^ 64 - 1) ∧
         (p.period = 0 → (t.dev.unit u).mon.inj = none ∧ t.dev.is F.LU_MON_EVT_INJ_DONE u = true) ∧
         (p.period ≠ 0 → (t.dev.unit u).mon.inj = some { p with next := start + 5440 * p.period }) ∧
         s.unitOnly t u [(F.LU_MON_EVT_INJ_DONE, u.val)] [blkBase .lu u + 0x468, blkBase .lu u + 0x46C]))) ∧
  ((∀ (s : State) (u : UnitId) (c : Nat × Nat × Nat) (r : ScanSt), (s.dev.cluster (u / 8)).scan = some r →
     r.lane = u.val % 8 → r.mode = 2 → r.pts.length < 1023 →
     ∃ t, exec (.mscanPointEnd u c) s = .next t ∧
       (t.dev.cluster (u / 8)).scan =
         some { r with pts := (2 * (r.pts.length % 32), 2 * (r.pts.length / 32), c) :: r.pts } ∧
       s.clusterOnly t (u / 8) [] []) ∧
   (∀ (s : State) (u : UnitId) (r : DiagSt) (n : Nat × Nat) (b : Nat), (s.dev.cluster (u / 8)).diag = some r → r.mode = 3 →
     r.lane = u.val % 8 → r.reason = 0 → (s.dev.unit u).canc.probe = some b →
     s.dev.nextDwell u r.against (r.pos + 1) = some n →
     (s.dev.live u = false ∨ s.dev.dwelt u 12 4096 = false → exec (.sweepDwellEnd u) s = .next s) ∧
     (s.dev.live u = true → s.dev.dwelt u 12 4096 = true →
       ∃ t, exec (.sweepDwellEnd u) s = .next t ∧
         (t.dev.cluster (u / 8)).diag = some { r with
           against := n.1, pos := n.2,
           found := r.found ++ (s.dev.mapEntries (u / 8) [{
             src := if r.against = 0 then 6 else 5, agg := if r.against = 0 then 0 else otherLane (u % 8) (r.against - 1),
             start := s.dev.winStart u 12, taps := s.dev.taps (u / 8) (8 * s.dev.slotsT (u / 8) + 48 * b) 48 }]).1 } ∧
         (t.dev.unit u).canc.probe = some b ∧ bitsOf (t.dev.winWord u 12) 23 12 = surveyStart n.2 % 4096 ∧
         Claims.othersBut s t u ∧ t.dev.regs = s.dev.regs ∧ t.keep = s.keep)))

/-! The image -/

/-- The load takes pushed words: from the host, not whole, not yet verified or committed (R290). -/
abbrev Sys2Proof.Claims.pushes (l : LoadSt) : Prop :=
  l.source = 3 ∧ l.committed = false ∧ l.verified = false ∧ l.whole = false

/-- The entry of a slot is not yet DONE. -/
abbrev Sys2Proof.Claims.openEntry (d : Dev) (k : Nat) (e : OpEntry) : Prop := d.entry k = some e ∧ e.state ≠ .done

/-- The entry of a slot has ended with a result, and its handle is the last completion (R379). -/
def Sys2Proof.Claims.ended (s t : State) (k result : Nat) : Prop :=
  (∃ e, t.dev.entry k = some e ∧ e.state = .done ∧ e.result = result) ∧ t.dev.opt.cpl = s.dev.opt.cpl ++ [k] ∧
  ∀ j, j ≠ k → t.dev.entry j = s.dev.entry j

/-- The entry of a slot has ended with a result, its handle is the last completion, and of the others some HELD ones may
be QUEUED again, nothing else (R375, R379). -/
def Sys2Proof.Claims.endedFreeing (s t : State) (k result : Nat) : Prop :=
  (∃ e, t.dev.entry k = some e ∧ e.state = .done ∧ e.result = result) ∧ t.dev.opt.cpl = s.dev.opt.cpl ++ [k] ∧
  ∀ j, j ≠ k → t.dev.entry j = s.dev.entry j ∨
    ∃ f, s.dev.entry j = some f ∧ f.state = .held ∧ t.dev.entry j = some { f with state := .queued }

/-- Pushed words reach the load that is due and are dropped with PERR otherwise; a second without one ends the load with
reason FETCH and fails its operation (R290, R304, R305). VERIFICATION refuses an image with the first reason of R292 and
changes nothing else; the start keeps an accepted one for APPLY; any other is committed: the bank named by the commit
record is that image's, with its header and directory, the anti-rollback minimum follows its security version. Hash and
signature functions are free, so acceptance is a condition on them (R291 to R294, R516, R525). -/
def Obligations.ImagesLoad : Prop :=
  ((∀ (s : State) (w : Word), (∀ l, s.dev.img.load = some l → ¬ Claims.pushes l) →
     exec (.imgPush w) s = .next { s with dev := { s.dev with port := { s.dev.port with perr := true } } }) ∧
   (∀ (s : State) (l : LoadSt) (w : Word), s.dev.img.load = some l → Claims.pushes l → 256 ≤ l.bytes.length →
     exec (.imgPush w) s = .next { s with dev := { s.dev with
       img := { s.dev.img with load := some { l with bytes := l.bytes ++ leBytes w.toNat 4 } } } }) ∧
   (∀ (s : State) (l : LoadSt) (k : Nat) (e : OpEntry), s.dev.img.load = some l → Claims.pushes l → l.slot = some k →
     Claims.openEntry s.dev k e →
     ∃ t, exec .pushTimeout s = .next t ∧ t.dev.img.load = none ∧ t.dev.get F.HUB_IMG_LAST_RESULT 0 = 2 ∧
       t.dev.get F.HUB_IMG_LAST_IMG_REASON 0 = 1 ∧ t.dev.is F.SEC_EVT_IMG_REFUSED 0 = true ∧ Claims.ended s t k 1 ∧
       t.keep = s.keep ∧ t.dev.units = s.dev.units ∧
       s.dev.fieldsKept t.dev [(F.SEC_EVT_IMG_REFUSED, 0), (F.FLT_SUPPR_MASKED, 0)] [F.HUB_IMG_LAST_RESULT.addr 0])) ∧
  (∀ (s : State) (l : LoadSt), s.dev.img.load = some l → l.committed = false → l.verified = false → l.whole = true →
     (∀ (k : Nat) (e : OpEntry), l.slot = some k → Claims.openEntry s.dev k e →
       checkImage s.keep.fuses s.keep.nv (s.dev.is F.SEC_LC_OWNER_LOADED 0) l.source l.bytes ≠ 0 →
       ∃ t, exec .verification s = .next t ∧ t.keep = s.keep ∧ t.dev.img.load = none ∧ t.dev.get F.HUB_IMG_LAST_RESULT 0 = 2 ∧
         t.dev.get F.HUB_IMG_LAST_IMG_REASON 0 =
           checkImage s.keep.fuses s.keep.nv (s.dev.is F.SEC_LC_OWNER_LOADED 0) l.source l.bytes ∧
         Claims.ended s t k 1 ∧
         s.dev.fieldsKept t.dev [(F.SEC_EVT_IMG_REFUSED, 0), (F.FLT_SUPPR_MASKED, 0)] [F.HUB_IMG_LAST_RESULT.addr 0]) ∧
     (l.slot = none →
       ∃ t, exec .verification s = .next t ∧
         (checkImage s.keep.fuses s.keep.nv (s.dev.is F.SEC_LC_OWNER_LOADED 0) l.source l.bytes = 0 →
           t.dev.img.load = some { l with verified := true } ∧ t.dev.start.fetched = true ∧ t.keep.nv.hostStarts = 0 ∧
           t.keep.nv.bank = s.keep.nv.bank ∧ t.keep.fuses = s.keep.fuses ∧ t.dev.regs = s.dev.regs)) ∧
     (l.slot.isSome = true → s.dev.get F.SEC_BL_STAT_STEP 0 ≠ 8 →
       ∃ t, exec .verification s = .next t ∧
         (checkImage s.keep.fuses s.keep.nv (s.dev.is F.SEC_LC_OWNER_LOADED 0) l.source l.bytes = 0 →
           t.keep.nv.arbMin = max s.keep.nv.arbMin (imgSecVer l.bytes) ∧
           t.keep.nv.bank.hash = Config.sha256 (l.bytes.take (imgSigOff l.bytes)) ∧
           t.keep.nv.bank.imgVer = imgVer l.bytes ∧ t.keep.nv.bank.header = l.bytes.take 256 ∧
           t.keep.nv.bank.dir = (l.bytes.drop 256).take (48 * imgSections l.bytes) ∧ t.keep.fuses = s.keep.fuses)))

/-- A region in its turn has its step to run: a class B reaction has it begin again, or its section is not the one
applied, or the load is forced, or the region is not live (R294, R298, R299). -/
def Sys2Proof.Claims.needsStep (s : State) (l : LoadSt) (q : Nat) : Bool :=
  (s.dev.region q).again || (!(l.refused.contains q) && match s.keep.nv.bank.regions.find q with
    | some x => l.force || decide (s.dev.img.applied.find q ≠ some x.1) || !(s.dev.regionIsLive q)
    | none => decide (s.dev.img.applied.find q ≠ none))

/-- A region's step holds it in reset, masked and not live, unless self-test makes it wait; one that sleeps wakes first;
one that runs its new section already is skipped. A step that has settled ends, entries that it held are QUEUED again,
and with the last region the load ends; the firmware switch stops the controller and its restart runs the new firmware
and completes the load (R25, R282, R294 to R299, R302, R304, R375, R480). -/
def Obligations.RegionsAndFirmware : Prop :=
  (∀ (s : State) (q : RegionId) (l : LoadSt), s.dev.img.load = some l → l.committed = true → l.todo.head? = some q.val →
    s.dev.stepOpen l q = true → s.dev.safe = false →
    (Claims.needsStep s l q = true → s.dev.regionTested q = true →
      ∃ t, exec (.regionStep q) s = .next t ∧ t.dev.rgnState q = 3 ∧ s.regsOnly t [] [F.HUB_IMG_RGN_STATES.addr 0]) ∧
    (Claims.needsStep s l q = true → s.dev.regionTested q = false → s.dev.regionTxn q = false → s.dev.asleep q = true →
      ∃ t, exec (.regionStep q) s = .next t ∧ (t.dev.region q).step = (s.dev.region q).step ∧
        (t.dev.region q).inReset = (s.dev.region q).inReset ∧ t.dev.img = s.dev.img ∧ t.keep = s.keep) ∧
    (Claims.needsStep s l q = true → s.dev.regionTested q = false → s.dev.regionTxn q = false → s.dev.asleep q = false →
      ∃ t, exec (.regionStep q) s = .next t ∧ (t.dev.region q).step = 2 ∧ (t.dev.region q).inReset = true ∧
        (t.dev.region q).masked = true ∧ (t.dev.region q).unreleased = false ∧
        t.dev.bit F.HUB_TOPO_REGION_LIVE 0 q = false ∧ t.dev.bit F.FLT_STAT_RG_HELD 0 q = false ∧ t.keep = s.keep) ∧
    (∀ x, (s.dev.region q).again = false → q.val ∉ l.refused → s.keep.nv.bank.regions.find q.val = some x → l.force = false →
      s.dev.img.applied.find q.val = some x.1 → s.dev.regionIsLive q = true → l.todo = [q.val] → l.fwChanged = false →
      l.switching = false → l.slot = none →
      ∃ t, exec (.regionStep q) s = .next t ∧ t.dev.rgnState q = 1 ∧ t.dev.img.load = none ∧
        t.dev.regions = s.dev.regions ∧ t.dev.units = s.dev.units ∧ t.keep = s.keep ∧
        s.dev.fieldsKept t.dev [] [F.HUB_IMG_RGN_STATES.addr 0, F.HUB_IMG_LAST_RESULT.addr 0])) ∧
  (∀ (s : State) (q : RegionId) (l : LoadSt) (k : Nat) (e : OpEntry), s.dev.img.load = some l → l.committed = true →
    l.todo = [q.val] → (s.dev.region q).step = 6 → l.fwChanged = false → l.switching = false → l.slot = some k →
    Claims.openEntry s.dev k e → l.source = 3 →
    ∃ t, exec (.settleEnd q) s = .next t ∧ t.dev.img.load = none ∧ (t.dev.region q).step = 0 ∧
      t.dev.rgnState q = (if (s.keep.nv.bank.regions.find q).isSome then 1 else if s.keep.nv.secEver.contains q.val
        then 8 else 0) ∧
      t.dev.get F.HUB_IMG_LAST_RESULT 0 = b2n l.bad ∧ Claims.endedFreeing s t k 0 ∧ t.keep = s.keep ∧
      (∀ p, p ≠ q.val → t.dev.region p = s.dev.region p) ∧ t.dev.units = s.dev.units ∧
      s.dev.fieldsKept t.dev [] [F.HUB_IMG_RGN_STATES.addr 0, F.HUB_IMG_LAST_RESULT.addr 0]) ∧
  (∀ (s : State) (q : RegionId), s.dev.img.load = none → (s.dev.region q).step = 6 →
    ∃ t, exec (.settleEnd q) s = .next t ∧ (t.dev.region q).step = 0 ∧
      (s.dev.hub.sbStep = 7 → q.val ∈ t.dev.hub.sbDone) ∧
      (∀ j f, s.dev.entry j = some f → f.state = .held → t.dev.heldBack f = false →
        t.dev.entry j = some { f with state := .queued }) ∧
      ((∀ e ∈ s.dev.opt.entries, e.2.state ≠ .held) → s.dev.hub.sbStep ≠ 7 → s.regionOnly t q [] [])) ∧
  (∀ (s : State) (l : LoadSt), s.dev.img.load = some l → l.committed = true → l.todo = [] → l.fwChanged = true →
    ∃ t, exec .firmwareSwitch s = .next t ∧ t.dev.bus.firmware = false ∧ t.dev.bus.pages = [] ∧
      t.dev.img.load = some { l with fwChanged := false, switching := true } ∧
      t.dev.img.fwHash = ((entryOf l.bytes 1).map (·.hash)).getD [] ∧
      t = { s with dev := { s.dev with bus := t.dev.bus, img := t.dev.img } }) ∧
  (∀ (s : State) (l : LoadSt), s.dev.img.load = some l → l.switching = true → l.slot = none → s.dev.bus.monitor = false →
    ∃ t, exec .firmwareRestartEnd s = .next t ∧ t.dev.bus.firmware = true ∧ t.dev.img.load = none ∧
      t.dev.get F.HUB_IMG_LAST_RESULT 0 = b2n l.bad ∧ t.keep = s.keep ∧ t.dev.opt = s.dev.opt ∧
      s.dev.fieldsKept t.dev [] [F.HUB_IMG_LAST_RESULT.addr 0]) ∧
  (∀ s : State, s.dev.img.load = none → s.dev.bus.firmware = false → s.dev.bus.monitor = false →
    s.dev.get F.SEC_BL_STAT_STEP 0 = 0 →
    exec .firmwareRestartEnd s = .next { s with dev := { s.dev with bus := { s.dev.bus with
      firmware := true, bad := s.dev.bus.bad.filter (fun w => decide (Config.controllerWord w % 9 ≠ 0)) } } })

/-! The operation table -/

/-- A command that posts an operation: its opcode, target, arguments and tag (R374, R377). -/
def Sys2Proof.Claims.postOf : Instr → Option (Nat × Target × List Word × BitVec 8)
  | .nop g => some (0x00, .package, [], g)
  | .portUp p g => some (0x01, .port p, [], g)
  | .portDown p g => some (0x02, .port p, [], g)
  | .opRetrain t cold g => some (0x03, t, [if cold then 1 else 0], g)
  | .diagSnap t g => some (0x08, t, [1], g)
  | .diagSweep t g => some (0x08, t, [2], g)
  | .diagCold t g => some (0x08, t, [3], g)
  | .mscanCross t dw n g => some (0x09, t, [BitVec.ofNat 32 (1 + 4 * dw.val + 256 * n.toNat)], g)
  | .mscanMap t dw n g => some (0x09, t, [BitVec.ofNat 32 (2 + 4 * dw.val + 256 * n.toNat)], g)
  | .cal t force g => some (0x0A, t, [if force then 1 else 0], g)
  | .memorySelftest t g => some (0x10, t, [1], g)
  | .analogueLoopBack t g => some (0x10, t, [2], g)
  | .logicScan t g => some (0x10, t, [3], g)
  | .imgLoad src force g =>
    some (0x18, .package, [(match src with | .slot0 => 1 | .slot1 => 2 | .host => 3) + (if force then 16 else 0)], g)
  | .attest a b c d g => some (0x19, .package, [a, b, c, d], g)
  | .lcChange x g => some (0x1A, .package, [BitVec.ofNat 32 x.val], g)
  | .rgnReset t g => some (0x1C, t, [], g)
  | .pkgReset g => some (0x1D, .package, [], g)
  | .standbyEntry g => some (0x1E, .package, [1], g)
  | .standbyExit g => some (0x1E, .package, [0], g)
  | _ => none

/-- The four words that a post leaves in OPT_ARG0 to OPT_ARG3. -/
def Sys2Proof.Claims.fourArgs (args : List Word) : List Word := (List.range 4).map (fun i => (args[i]?).getD 0)

/-- The checks of R373 on a post whose opcode is known: the target, the arguments, the life cycle. -/
def Sys2Proof.Claims.targetOk (d : Dev) (op : Nat) (t : Target) (args : List Word) : Bool :=
  d.targetGood op ((args[0]?).getD 0).toNat (targetCode t).1 (some t)

def Sys2Proof.Claims.permitted (s : State) (op : Nat) (args : List Word) : Bool :=
  decide (op ≠ 0x10) || testPermitted s.keep.fuses.state (((args[0]?).getD 0).toNat % 16) s.dev.img.pkgWord

/-- OPT_LAST_POST shows a handle, a tag and a result; its reserved bits stay as they were (R349, R389). -/
abbrev Sys2Proof.Claims.lastPosted (s t : State) (handle tag result : Nat) : Prop :=
  bitsOf (t.dev.word (F.OPT_LAST_POST_HANDLE.addr 0)) 31 16 = handle % 2 ^ 16 ∧
  bitsOf (t.dev.word (F.OPT_LAST_POST_HANDLE.addr 0)) 15 8 = tag ∧
  bitsOf (t.dev.word (F.OPT_LAST_POST_HANDLE.addr 0)) 7 4 = bitsOf (s.dev.word (F.OPT_LAST_POST_HANDLE.addr 0)) 7 4 ∧
  bitsOf (t.dev.word (F.OPT_LAST_POST_HANDLE.addr 0)) 3 0 = result

/-- A post that passes the checks of R373 takes the slot freed longest ago with its next GEN and is QUEUED;
OPT_LAST_POST names its handle. One that fails is turned away with its code and PERR, and no entry changes; before the
table is served nothing is written (R370, R372 to R374, R377, R389, R526). -/
def Obligations.PostsAreQueued : Prop :=
  ∀ (c : Instr) (s : State) (op : Nat) (g : Target) (args : List Word) (tag : BitVec 8),
    Claims.postOf c = some (op, g, args, tag) →
    (s.dev.servesTable = false →
      exec c s = .next { s with dev := { s.dev with port := { s.dev.port with perr := true } } }) ∧
    (s.dev.servesTable = true → ∀ slot, s.dev.opt.head = some slot → Claims.targetOk s.dev op g args = true →
      argsGood op (Claims.fourArgs args) = true → Claims.permitted s op args = true →
      ∃ t, exec c s = .next t ∧
        (∃ e, t.dev.entry slot = some e ∧ e.state = .queued ∧ e.opcode = op ∧ e.target = g ∧
          e.args = Claims.fourArgs args ∧ e.posted = postWord op g tag ∧
          e.handle = nextGen ((s.dev.opt.gens.find slot).getD 0) * 1024 + slot) ∧
        (∀ j, j ≠ slot → t.dev.entry j = s.dev.entry j) ∧ t.dev.opt.cpl = s.dev.opt.cpl ∧
        Claims.lastPosted s t (nextGen ((s.dev.opt.gens.find slot).getD 0) * 1024 + slot) tag.toNat 0 ∧
        t = { s with dev := { s.dev with regs := t.dev.regs, opt := t.dev.opt } } ∧
        s.dev.fieldsKept t.dev [] [0x40000, 0x40004, 0x40008, 0x4000C, F.OPT_LAST_POST_HANDLE.addr 0]) ∧
    (s.dev.servesTable = true →
      (s.dev.opt.head = none ∨ Claims.targetOk s.dev op g args = false ∨ argsGood op (Claims.fourArgs args) = false ∨
        Claims.permitted s op args = false) →
      ∃ t r, exec c s = .next t ∧
        t = { s with dev := { s.dev with regs := t.dev.regs, port := { s.dev.port with perr := true } } } ∧
        r = (if s.dev.opt.head = none then 1 else if Claims.targetOk s.dev op g args = false then 3
          else if argsGood op (Claims.fourArgs args) = false then 4 else 5) ∧
        Claims.lastPosted s t 0 tag.toNat r ∧
        s.dev.fieldsKept t.dev [] [0x40000, 0x40004, 0x40008, 0x4000C, F.OPT_LAST_POST_HANDLE.addr 0])

/-- Entries start as R375 and R376 let them, are HELD back, or stay QUEUED; an image load begins with its source; a
self-test of a target that sleeps wakes it first; the end of a NOP and of a package reset (R297, R375 to R377, R379,
R416, R527). -/
def Obligations.EntriesStartAndEnd : Prop :=
  (∀ (s : State) (slot : Fin 1024) (e : OpEntry), s.dev.entry slot = some e → e.state = .queued →
    (s.dev.mayStart e = true → s.dev.heldBack e = false → (e.opcode = 0x00 ∨ e.opcode = 0x19 ∨ e.opcode = 0x1D) →
      ∃ t, exec (.entryStart slot) s = .next t ∧
        t.dev.entry slot = some { e with state := .running, startedAt := some s.dev.time } ∧
        (∀ j, j ≠ slot.val → t.dev.entry j = s.dev.entry j) ∧
        t = { s with dev := { s.dev with opt := t.dev.opt, hub := { s.dev.hub with gates := t.dev.hub.gates } } } ∧
        (e.opcode ≠ 0x19 → t.dev.hub = s.dev.hub)) ∧
    (s.dev.mayStart e = true → s.dev.heldBack e = true → e.opcode ≠ 0x1E →
      ∃ t, exec (.entryStart slot) s = .next t ∧ t.dev.entry slot = some { e with state := .held } ∧
        (∀ j, j ≠ slot.val → t.dev.entry j = s.dev.entry j) ∧ t = { s with dev := { s.dev with opt := t.dev.opt } }) ∧
    (s.dev.mayStart e = true → s.dev.heldBack e = false → e.opcode = 0x18 →
      ∃ t, exec (.entryStart slot) s = .next t ∧
        t.dev.entry slot = some { e with state := .running, startedAt := some s.dev.time } ∧
        t.dev.img.load = some { slot := some slot, source := e.arg % 4, force := bitOf e.arg 4 } ∧
        s.dev.fieldsKept t.dev [] [F.HUB_IMG_REASON_REASONS.addr 0]) ∧
    (s.dev.mayStart e = true → s.dev.heldBack e = false → e.opcode = 0x10 → s.dev.sleeps e.target = true →
      testPermitted s.keep.fuses.state (e.arg % 16) s.dev.img.pkgWord = true →
      ∃ t, exec (.entryStart slot) s = .next t ∧
        t.dev.entry slot = some { e with state := .running, startedAt := some s.dev.time, asleep := true } ∧
        (∀ c : ClusterId, e.target = .cluster c → s.dev.get F.RG_PWR_STAT_STATE (c / 4) = 0 → (s.dev.cluster c).power = 2 →
          (t.dev.cluster c).power = 3) ∧
        t.dev.units = s.dev.units ∧ t.keep = s.keep) ∧
    (s.dev.mayStart e = false →
      ∃ t, exec (.entryStart slot) s = .next t ∧ t.dev.entry slot = some e ∧
        (∀ j, j ≠ slot.val → t.dev.entry j = s.dev.entry j) ∧ t = { s with dev := { s.dev with opt := t.dev.opt } })) ∧
  (∀ (s : State) (slot : Fin 1024) (e : OpEntry) (fs : List Failing),
    s.dev.entry slot = some e → e.state = .running → e.asleep = false →
    (e.opcode = 0x00 →
      ∃ t, exec (.entryDone slot fs) s = .next t ∧ Claims.ended s t slot 0 ∧
        t = { s with dev := { s.dev with opt := t.dev.opt } }) ∧
    (e.opcode = 0x1D →
      ∃ t, exec (.entryDone slot fs) s = .next t ∧ t.keep = s.keep ∧ t.dev.get F.SEC_BL_STAT_RESET_CAUSE 0 = 2 ∧
        (∀ a, a ≠ F.SEC_BL_STAT_RESET_CAUSE.addr 0 → t.dev.word a = resetOf a) ∧ t.dev.opt = {} ∧ t.dev.dies = [] ∧
        t.dev.port = {}))

/-- A running entry reports its progress; a margin scan, a SNAP and a SWEEP show the lanes done of those they cover. One
past its limit times out where it can be stopped, with its event; a completion is read and its entry freed; the steps of
STANDBY, in which a posted write that waits is lost, and an exit's end, FAILED with DETAIL 4 where a class B fault ended
a region step (R353, R378 to R381, R390, R423, R424, R433, R465). -/
def Obligations.EntriesReport : Prop :=
  (∀ (s : State) (slot : Fin 1024) (e : OpEntry) (p n : BitVec 8), s.dev.entry slot = some e →
    e.state = .running → e.asleep = false → e.opcode ≠ 0x10 →
    (e.opcode = 0x08 → (s.dev.cluster (targetCluster e.target)).diag = none) →
    ∃ t, exec (.progressUpdate slot p n) s = .next t ∧
      t.dev.entry slot = some { e with
        progress := if e.opcode = 0x09 ∨ (e.opcode = 0x08 ∧ e.arg % 4 ≠ 3) then e.progress else p.toNat,
        stepNo := if e.opcode = 0x08 ∨ e.opcode = 0x09 ∨ e.opcode = 0x1E then e.stepNo else n.toNat } ∧
      (∀ j, j ≠ slot.val → t.dev.entry j = s.dev.entry j) ∧ t = { s with dev := { s.dev with opt := t.dev.opt } }) ∧
  (∀ (s : State) (slot : Fin 1024) (e : OpEntry) (p n : BitVec 8) (r : DiagSt), s.dev.entry slot = some e →
    e.state = .running → e.asleep = false → e.opcode = 0x08 → e.arg % 4 = 1 →
    (s.dev.cluster (targetCluster e.target)).diag = some r → r.slot = slot.val →
    r.mode = 2 → r.todo.contains n.toNat = true →
    ∃ t, exec (.progressUpdate slot p n) s = .next t ∧
      (t.dev.cluster (targetCluster e.target)).diag =
        some { r with lane := n.toNat, todo := r.todo.filter (fun l => decide (n.toNat < l)) } ∧
      (∃ x, t.dev.entry slot = some x ∧ x.stepNo = n.toNat ∧
        x.progress = min 255 (256 * ((targetLanes e.target).length - (r.todo.filter (fun l => decide (n.toNat ≤ l))).length) /
          (targetLanes e.target).length)) ∧
      t.dev.units = s.dev.units ∧ t.keep = s.keep) ∧
  (∀ (s : State) (slot : Fin 1024) (e : OpEntry), s.dev.entry slot = some e → e.state = .running →
    (e.opcode = 0x0A → (s.dev.cluster (targetCluster e.target)).cal = none → s.dev.mild 0x63 →
      s.dev.pastLimit e = true →
      ∃ t, exec (.entryTimeout slot) s = .next t ∧ Claims.ended s t slot 4 ∧
        (s.dev.collects →
          t.dev.flt.held = s.dev.flt.held ++ [⟨s.dev.time, s.dev.locCode (.package 0), ⟨0x63, .package 0, 0, 0⟩⟩]) ∧
        t.dev.regs = s.dev.regs ∧ t.keep = s.keep) ∧
    ((e.opcode = 0x00 ∨ e.opcode = 0x01 ∨ e.opcode = 0x1E) → exec (.entryTimeout slot) s = .next s) ∧
    (s.dev.pastLimit e = false → exec (.entryTimeout slot) s = .next s)) ∧
  (∀ (s : State), s.dev.servesTable = true →
    (∀ (k : Nat) (r : List Nat) (e : OpEntry), s.dev.opt.cpl = k :: r → s.dev.entry k = some e →
      ∃ t, exec .optCplLo s = .next t ∧ t.dev.opt.cpl = r ∧ t.dev.entry k = none ∧
        t.dev.word (F.OPT_CPL_HI_DETAIL.addr 0) = e.detail ∧ (∀ j, j ≠ k → t.dev.entry j = s.dev.entry j) ∧
        t.dev.opt.freed = s.dev.opt.freed ++ [k] ∧
        t = { s with dev := { s.dev with regs := t.dev.regs, opt := t.dev.opt } } ∧
        s.dev.fieldsKept t.dev [] [F.OPT_CPL_HI_DETAIL.addr 0]) ∧
    (s.dev.opt.cpl = [] →
      ∃ t, exec .optCplLo s = .next t ∧ t.dev.word (F.OPT_CPL_HI_DETAIL.addr 0) = 0 ∧
        s.regsOnly t [] [F.OPT_CPL_HI_DETAIL.addr 0])) ∧
  (∀ s : State,
    (s.dev.hub.sbStep = 5 →
      ∃ t, exec .standbyStepDone s = .next t ∧ t.dev.hub.sbStep = 6 ∧ (∀ c : ClusterId, t.dev.get F.CL_CAL_STAT_STATE c = 6) ∧
        t.keep = s.keep ∧ s.dev.fieldsKept t.dev ((List.range 32).map (fun c => (F.CL_CAL_STAT_STATE, c))) []) ∧
    (∀ e, s.dev.hub.sbStep = 2 → Claims.openEntry s.dev s.dev.hub.sbSlot e →
      ∃ t, exec .standbyStepDone s = .next t ∧ t.dev.hub.sbStep = 0 ∧ t.dev.get F.PWR_PKG_STATE 0 = 2 ∧
        t.dev.bus.pages = [] ∧ t.dev.port.posted = none ∧
        (s.dev.port.posted.isSome = true → t.dev.is F.HUB_REG_EVT_POST_LOST 0 = true) ∧
        Claims.ended s t s.dev.hub.sbSlot 0 ∧ t.keep = s.keep ∧
        s.dev.fieldsKept t.dev [(F.PWR_PKG_STATE, 0), (F.HUB_REG_EVT_POST_LOST, 0)] []) ∧
    (∀ e, s.dev.hub.sbStep = 7 → s.dev.exitDone = true → Claims.openEntry s.dev s.dev.hub.sbSlot e →
      ∃ t, exec .standbyStepDone s = .next t ∧ t.dev.hub.sbStep = 0 ∧ t.dev.get F.PWR_PKG_STATE 0 = 0 ∧
        Claims.ended s t s.dev.hub.sbSlot (if s.dev.hub.sbFailed = [] then 0 else 1) ∧
        (∃ x, t.dev.entry s.dev.hub.sbSlot = some x ∧ x.stepNo = 8 ∧
          x.detail = (if s.dev.hub.sbFailed = [] then 0 else 4)) ∧
        t.keep = s.keep ∧ s.dev.fieldsKept t.dev [(F.PWR_PKG_STATE, 0)] []) ∧
    ((s.dev.hub.sbStep = 0 ∨ (s.dev.hub.sbStep = 7 ∧ s.dev.exitDone = false)) → exec .standbyStepDone s = .next s))

/-- R382: a stale handle written to OPT_CPL_CANCEL sets PERR and changes no entry, and the window of a FREE slot reads
zero in all four words; that of a running one shows its milliseconds since its start (R383). A queued entry is
cancelled; one that is DONE stays (R381, R391). -/
def Obligations.HandlesCancel : Prop :=
  (∀ (s : State) (h : BitVec 16), s.dev.servesTable = true →
    (∀ e, s.dev.entry (h.toNat % 1024) = some e → e.handle ≠ h.toNat) →
    ∃ t, exec (.optCplCancel h) s = .next t ∧ t.dev.port.perr = true ∧ t.dev.opt = s.dev.opt ∧
      t.dev.get F.OPT_STAT_LAST_CANCEL 0 = 3 ∧ s.dev.fieldsKept t.dev [(F.OPT_STAT_LAST_CANCEL, 0)] []) ∧
  (∀ (s : State) (pkg : Fin 8) (slot : Fin 1024), Claims.addressed s.dev pkg → s.dev.servesTable = true →
    s.dev.entry slot = none →
    ∃ t b, exec (.readInc pkg (BitVec.ofNat 24 (0x44000 + 16 * slot.val)) 3 .wellFormed) s = .next t ∧
      t.dev.port.resp = some (b :: List.replicate 16 0) ∧ t.dev.regs = s.dev.regs ∧ t.dev.opt = s.dev.opt) ∧
  (∀ (s : State) (pkg : Fin 8) (slot : Fin 1024) (e : OpEntry) (n : Nat), Claims.addressed s.dev pkg →
    s.dev.servesTable = true → s.dev.entry slot = some e → e.state = .running → e.startedAt = some n →
    ∃ t b, exec (.readInc pkg (BitVec.ofNat 24 (0x44000 + 16 * slot.val)) 3 .wellFormed) s = .next t ∧
      t.dev.port.resp = some (b :: ([BitVec.ofNat 32 (e.handle * 2 ^ 16 + opStateCode .running * 2 ^ 12 + e.opcode), e.posted,
        BitVec.ofNat 32 (e.progress * 2 ^ 24 + e.stepNo * 2 ^ 16 + min 0xFFFF ((s.dev.time - n) / 390625)),
        (0 : Word)].flatMap (fun w => leBytes w.toNat 4))) ∧ t.dev.opt = s.dev.opt) ∧
  (∀ (s : State) (h : BitVec 16) (e : OpEntry), s.dev.servesTable = true → s.dev.entry (h.toNat % 1024) = some e →
    e.handle = h.toNat →
    ((e.state = .queued ∨ e.state = .held) →
      ∃ t, exec (.optCplCancel h) s = .next t ∧ Claims.ended s t (h.toNat % 1024) 2 ∧
        t.dev.get F.OPT_STAT_LAST_CANCEL 0 = 1 ∧ t.dev.port = s.dev.port ∧ t.keep = s.keep ∧
        s.dev.fieldsKept t.dev [(F.OPT_STAT_LAST_CANCEL, 0)] []) ∧
    (e.state = .done →
      ∃ t, exec (.optCplCancel h) s = .next t ∧ t.dev.get F.OPT_STAT_LAST_CANCEL 0 = 2 ∧
        s.regsOnly t [(F.OPT_STAT_LAST_CANCEL, 0)] []))

/-! Power states -/

/-- A sleep transaction: an offer that the conditions allow, and that they have for the hysteresis time, opens it with
the next ID, no other does; votes collect (a member that the rules forbid refuses with its reason), the decision commits
with every vote READY and rolls back at the first refusal, recorded in PWR_TXN (R412 to R415, R433, R434, R436). -/
def Obligations.SleepTransactions : Prop :=
  (∀ (s : State) (dom : Domain) (stood : Bool), stood = false ∨ s.dev.offerable dom = false →
    exec (.sleepOffer dom stood) s = .next s) ∧
  (∀ (s : State) (c : ClusterId), s.dev.offerable (.doze c) = true →
    ∃ t, exec (.sleepOffer (.doze c) true) s = .next t ∧ (t.dev.cluster c).txn = some { id := (s.dev.hub.txnId + 1) % 256 } ∧
      t.dev.hub.txnId = (s.dev.hub.txnId + 1) % 256 ∧ t.dev.bit F.RG_PWR_STAT_CL_TXN (c / 4) (c % 4) = true ∧
      t.dev.units = s.dev.units ∧ t.keep = s.keep ∧ s.dev.fieldsKept t.dev [(F.RG_PWR_STAT_CL_TXN, c.val / 4)] []) ∧
  (∀ (s : State) (q : RegionId), s.dev.offerable (.deep q) = true →
    ∃ t, exec (.sleepOffer (.deep q) true) s = .next t ∧ (t.dev.region q).txn = some { id := (s.dev.hub.txnId + 1) % 256 } ∧
      t.dev.regs = s.dev.regs ∧ t.dev.units = s.dev.units ∧ t.keep = s.keep) ∧
  (∀ (s : State) (dom : Domain) (x : TxnSt) (m : Member) (v : Vote), s.dev.txnOf dom = some x →
    (members dom).contains m = true → (∀ e ∈ x.votes, e.1 ≠ m) →
    ∃ t, exec (.sleepVote dom m v) s = .next t ∧
      t.dev.txnOf dom = some { x with votes := x.votes ++ [(m, if s.dev.refusal dom m = 0 then v
        else .refuse (Fin.ofNat 12 (s.dev.refusal dom m)))] } ∧
      t.dev.units = s.dev.units ∧ t.keep = s.keep) ∧
  (∀ (s : State) (c : ClusterId) (x : TxnSt), (s.dev.cluster c).txn = some x → s.dev.mayDoze c = true →
    (s.dev.cluster c).cal = none → (s.dev.cluster c).scanWait = [] →
    ((∀ m ∈ members (.doze c), (m, Vote.ready) ∈ x.votes) → (∀ e ∈ x.votes, e.2 = .ready) →
      ∃ t, exec (.sleepDecision (.doze c)) s = .next t ∧ (t.dev.cluster c).txn = none ∧ (t.dev.cluster c).power = 1 ∧
        t.dev.bit F.RG_PWR_STAT_CL_DOZE (c / 4) (c % 4) = true ∧ t.dev.is F.PWR_TXN_OUTCOME 0 = true ∧
        t.dev.get F.PWR_TXN_ID 0 = x.id % 256 ∧ t.dev.get F.PWR_PKG_TXN_CNT 0 = (s.dev.get F.PWR_PKG_TXN_CNT 0 + 1) % 256 ∧
        s.dev.fieldsKept t.dev [(F.RG_PWR_STAT_CL_TXN, c.val / 4), (F.RG_PWR_STAT_CL_DOZE, c.val / 4), (F.PWR_PKG_TXN_CNT, 0)]
          [F.PWR_TXN_ID.addr 0]) ∧
    (∀ (pre : List (Member × Vote)) (m : Member) (r : Fin 12) (post : List (Member × Vote)),
      x.votes = pre ++ (m, Vote.refuse r) :: post → (∀ e ∈ pre, e.2 = Vote.ready) →
      ∃ t, exec (.sleepDecision (.doze c)) s = .next t ∧ (t.dev.cluster c).txn = none ∧
        (t.dev.cluster c).power = (s.dev.cluster c).power ∧ (t.dev.cluster c).rollAt = some s.dev.time ∧
        t.dev.is F.PWR_TXN_OUTCOME 0 = false ∧
        t.dev.get F.PWR_TXN_REASON 0 = r.val ∧ t.dev.get F.PWR_PKG_RB_CNT 0 = (s.dev.get F.PWR_PKG_RB_CNT 0 + 1) % 256 ∧
        s.dev.fieldsKept t.dev [(F.RG_PWR_STAT_CL_TXN, c.val / 4), (F.PWR_PKG_RB_CNT, 0)] [F.PWR_TXN_ID.addr 0])) ∧
  (∀ (s : State) (q : RegionId) (x : TxnSt), (s.dev.region q).txn = some x → s.dev.mayDeep q = true →
    (∀ m ∈ members (.deep q), (m, Vote.ready) ∈ x.votes) → (∀ e ∈ x.votes, e.2 = .ready) → s.dev.port.posted = none →
    ∃ t, exec (.sleepDecision (.deep q)) s = .next t ∧ (t.dev.region q).txn = none ∧ (t.dev.region q).gating = true ∧
      t.dev.get F.RG_PWR_STAT_STATE q = 1 ∧ t.dev.is F.PWR_TXN_OUTCOME 0 = true ∧
      s.dev.fieldsKept t.dev [(F.RG_PWR_STAT_STATE, q.val), (F.PWR_PKG_TXN_CNT, 0)] [F.PWR_TXN_ID.addr 0])

/-- WAKE_TRIGGER, WAKE and STAY_AWAKE complete: a trigger wakes a cluster in DOZE, and a region in DEEP with its
clusters; a detector of an idle unit wakes nothing. WAKE and STAY_AWAKE wake the region and its clusters in every power
state, and an open transaction is refused with the reason WAKE or LTR; STAY_AWAKE sets its bit; a region that is off
sets PERR, one under test takes nothing (R18, R416, R418, R420, R425, R437). -/
def Obligations.WakeTriggersReachTheirDomain : Prop :=
  (∀ (s : State) (c : ClusterId), (s.dev.cluster c).power = 2 → s.dev.get F.RG_PWR_STAT_STATE (c / 4) = 0 →
    ∃ t, exec (.wakeTrigger (.cluster c)) s = .next t ∧ (t.dev.cluster c).power = 3 ∧
      (∀ e, e ≠ c.val → t.dev.cluster e = s.dev.cluster e) ∧ t.dev.regs = s.dev.regs ∧ t.keep = s.keep) ∧
  (∀ (s : State) (u : UnitId), ∀ w ∈ [WakeCause.sigdet u, .squelch u],
    (s.dev.idleUnit u = true → exec (.wakeTrigger w) s = .next s) ∧
    (s.dev.idleUnit u = false → (s.dev.cluster (u / 8)).power = 2 → s.dev.get F.RG_PWR_STAT_STATE (u / 32) = 0 →
      ∃ t, exec (.wakeTrigger w) s = .next t ∧ (t.dev.cluster (u / 8)).power = 3 ∧
        (w = .squelch u → u.val % 8 ∈ (t.dev.cluster (u / 8)).squelched) ∧
        (∀ e, e ≠ u.val / 8 → t.dev.cluster e = s.dev.cluster e) ∧ t.dev.regs = s.dev.regs ∧ t.keep = s.keep)) ∧
  (∀ (s : State) (q : RegionId), s.dev.get F.RG_PWR_STAT_STATE q = 2 →
    ∃ t, exec (.wakeTrigger (.region q)) s = .next t ∧ t.dev.get F.RG_PWR_STAT_STATE q = 3 ∧
      (∀ c ∈ clustersOf q, (t.dev.region q).wakes.contains c = true) ∧
      s.regionOnly t q [(F.RG_PWR_STAT_STATE, q.val)] []) ∧
  (∀ (s : State) (q : RegionId), s.dev.off .rg q 0x14 = false → s.dev.tst .rg q = false →
    ∀ x ∈ [(Instr.wake q, []), (.stayAwake q, [(F.RG_PWR_CTRL_STAY_AWAKE, q.val)])],
      ∃ t, exec x.1 s = .next t ∧
        t.dev.get F.RG_PWR_STAT_STATE q = (if s.dev.get F.RG_PWR_STAT_STATE q = 2 then 3 else s.dev.get F.RG_PWR_STAT_STATE q) ∧
        (x.1 = .stayAwake q → t.dev.is F.RG_PWR_CTRL_STAY_AWAKE q = true) ∧
        (s.dev.get F.RG_PWR_STAT_STATE q = 0 → ∀ c ∈ clustersOf q, (s.dev.cluster c).power = 2 →
          (t.dev.cluster c).power = 3) ∧
        (s.dev.get F.RG_PWR_STAT_STATE q = 0 → ∀ c ∈ clustersOf q, ∀ y, (s.dev.cluster c).power = 0 →
          (s.dev.cluster c).txn = some y →
          (t.dev.cluster c).txn = some (y.add .crosstalk (.refuse (if x.1 = .stayAwake q then 7 else 6)))) ∧
        (s.dev.get F.RG_PWR_STAT_STATE q = 1 → (t.dev.region q).wakeDue = true) ∧
        (s.dev.get F.RG_PWR_STAT_STATE q ≠ 0 → ∀ c ∈ clustersOf q, (t.dev.region q).wakes.contains c = true) ∧
        t.keep = s.keep ∧ t.dev.units = s.dev.units ∧ t.dev.port = s.dev.port ∧
        s.dev.fieldsKept t.dev ((F.RG_PWR_STAT_STATE, q.val) :: x.2) []) ∧
  (∀ (s : State) (q : RegionId), ∀ c ∈ [Instr.wake q, .stayAwake q],
    (s.dev.off .rg q 0x14 = true →
      exec c s = .next { s with dev := { s.dev with port := { s.dev.port with perr := true } } }) ∧
    (s.dev.off .rg q 0x14 = false → s.dev.tst .rg q = true → exec c s = .next s))

/-- DOZE_WAKE_DONE and DEEP_WAKE_DONE complete: the cluster is awake, its units' cancellers at G3, a held direction
whose far end woke at its resume; the region is awake with the time of the wake and the words mended, its LQIs gone, its
clusters that have a trigger go on to their own wake; an uncorrectable retention word ends in a region reset. Where no
wake is under way nothing changes (R103, R116, R125, R417 to R419, R421, R437, R438). -/
def Obligations.WakesEnd : Prop :=
  (∀ (s : State) (c : ClusterId), (s.dev.cluster c).power = 3 → s.dev.get F.RG_PWR_STAT_STATE (c / 4) = 0 →
    (∀ e ∈ s.dev.opt.entries, e.2.asleep = false) →
    ∃ t, exec (.dozeWakeDone c) s = .next t ∧ (t.dev.cluster c).power = 0 ∧ (t.dev.cluster c).squelched = [] ∧
      t.dev.bit F.RG_PWR_STAT_CL_DOZE (c / 4) (c % 4) = false ∧
      (∀ u ∈ unitsOf c, t.dev.get F.LU_RB_STAT_GEAR u = (if s.dev.duplex c then 3 else s.dev.get F.LU_RB_STAT_GEAR u)) ∧
      (s.dev.duplex c = true → ∀ u ∈ unitsOf c, t.dev.is F.LU_RB_STAT_WARM u = true ∧
        (t.dev.unit u).canc.gearAt = s.dev.refa ∧ (t.dev.unit u).canc.shortG3 = true) ∧
      (∀ l ∈ (s.dev.cluster c).squelched, l < 8 → s.dev.rxHeld (8 * c.val + l) = true →
        t.dev.get F.LU_LINE_FRAME_RX_FMT (8 * c.val + l) = 3) ∧
      (∀ e, e ≠ c.val → t.dev.cluster e = s.dev.cluster e) ∧ t.keep = s.keep ∧
      ((s.dev.cluster c).squelched = [] → s.dev.fieldsKept t.dev ((F.RG_PWR_STAT_CL_DOZE, c.val / 4) ::
        (unitsOf c).flatMap (fun u => [(F.LU_RB_STAT_GEAR, u), (F.LU_RB_STAT_WARM, u)])) [])) ∧
  (∀ (s : State) (c : ClusterId), ((s.dev.cluster c).power ≠ 3 ∨ s.dev.get F.RG_PWR_STAT_STATE (c / 4) ≠ 0) →
    exec (.dozeWakeDone c) s = .next s) ∧
  (∀ (s : State) (q : RegionId) (us : Nat) (found : List RetWord), s.dev.get F.RG_PWR_STAT_STATE q = 3 →
    (found.any (·.lost) = false → s.dev.mild 0x4A →
     ∃ t, exec (.deepWakeDone q us found) s = .next t ∧ t.dev.get F.RG_PWR_STAT_STATE q = 0 ∧
      t.dev.get F.RG_PWR_STAT_LAST_WAKE q = min us 0xFFFF ∧ t.dev.get F.RG_RET_STAT_RESTORE_FIX q = min found.length 255 ∧
      t.dev.count (F.FLT_ECC_CE_LO_LO.addr 0) = min (s.dev.count (F.FLT_ECC_CE_LO_LO.addr 0) + found.length) (2 ^ 64 - 1) ∧
      t.dev.is F.RG_RET_STAT_RET_VALID q = true ∧ (∀ u ∈ unitsOfRegion q, t.dev.get F.LU_RX_LQI_LQI u = 0xFFFF) ∧
      (∀ c ∈ (s.dev.region q).wakes, (s.dev.cluster c).power = 2 → (t.dev.cluster c).power = 3) ∧
      (t.dev.region q).wakes = [] ∧ ((s.dev.region q).wakes = [] → ∀ c, t.dev.cluster c =
        (if c ∈ clustersOf q then { s.dev.cluster c with stdWait := [] } else s.dev.cluster c)) ∧ t.keep = s.keep ∧
      s.dev.fieldsKept t.dev ([(F.RG_PWR_STAT_STATE, q.val), (F.RG_PWR_STAT_LAST_WAKE, q.val),
        (F.RG_RET_STAT_RESTORE_FIX, q.val), (F.RG_RET_STAT_RET_VALID, q.val)] ++
        (if found = [] then [] else [(F.FLT_SUPPR_MASKED, 0)]) ++ (unitsOfRegion q).map (fun u => (F.LU_RX_LQI_LQI, u)))
        (if found = [] then [] else [F.FLT_ECC_CE_LO_LO.addr 0, F.FLT_ECC_CE_HI_HI.addr 0, F.FLT_ECC_LAST_LOCATION.addr
          0, F.FLT_ECC_INFO_COUNT.addr 0])) ∧
    (found.any (·.lost) = true →
     ∃ t, exec (.deepWakeDone q us found) s = .next t ∧ (t.dev.region q).inReset = true ∧ t.keep = s.keep)) ∧
  (∀ (s : State) (q : RegionId) (us : Nat) (found : List RetWord), s.dev.get F.RG_PWR_STAT_STATE q ≠ 3 →
    exec (.deepWakeDone q us found) s = .next s)

/-- SLEEP_ENTRY_DONE completes in every state that is being entered: a cluster that enters DOZE, or a region that enters
DEEP, is then in it, or wakes when a trigger has come meanwhile; the drivers of the cluster's line and HOST_TX lanes are
off; nothing else changes. No entry is under way: nothing changes (R408, R415, R425, R437). PWR_LTR stores the
tolerance, SCALE and VALUE, and the whole word as it is written when its reserved bits are those read, and wakes what
the tolerance no longer allows, a QUIET direction too; before the start has opened its address it is dropped (R356,
R420, R435, R526). -/
def Obligations.SleepEntriesEndAndTolerances : Prop :=
  ((∀ (s : State) (c : ClusterId), (s.dev.cluster c).power = 1 →
     ∃ t, exec (.sleepEntryDone (.doze c)) s = .next t ∧
       (t.dev.cluster c).power = (if (s.dev.cluster c).wakeDue then 3 else 2) ∧ (t.dev.cluster c).wakeDue = false ∧
       (∀ u ∈ unitsOf c, t.dev.unit u = { s.dev.unit u with lineOut := none } ∧
         (s.dev.mapped u = true → (t.dev.die (u / 64)).htx.find (s.dev.htxLane u) = none)) ∧
       (∀ v, v ∉ unitsOf c → t.dev.unit v = s.dev.unit v) ∧ (∀ e, e ≠ c.val → t.dev.cluster e = s.dev.cluster e) ∧
       t.dev.regs = s.dev.regs ∧ t.keep = s.keep) ∧
   (∀ (s : State) (q : RegionId), s.dev.get F.RG_PWR_STAT_STATE q = 1 →
     ∃ t, exec (.sleepEntryDone (.deep q)) s = .next t ∧
       t.dev.get F.RG_PWR_STAT_STATE q = (if (s.dev.region q).wakeDue then 3 else 2) ∧ (t.dev.region q).wakeDue = false ∧
       s.regionOnly t q [(F.RG_PWR_STAT_STATE, q.val)] []) ∧
   (∀ (s : State) (c : ClusterId), (s.dev.cluster c).power ≠ 1 → exec (.sleepEntryDone (.doze c)) s = .next s) ∧
   (∀ (s : State) (q : RegionId), s.dev.get F.RG_PWR_STAT_STATE q ≠ 1 → exec (.sleepEntryDone (.deep q)) s = .next s)) ∧
  ((∀ (s : State) (p : UnitId) (w : Word), s.dev.offAt ((F.PWR_LTR_VALUE p).addr 0) = true →
     exec (.pwrLtr p w) s = .next s) ∧
   (∀ (s : State) (p : UnitId) (w : Word), s.dev.offAt ((F.PWR_LTR_VALUE p).addr 0) = false →
     ∃ t, exec (.pwrLtr p w) s = .next t ∧ t.dev.get (F.PWR_LTR_VALUE p) 0 = w.toNat % 1024 ∧
       t.dev.get (F.PWR_LTR_SCALE p) 0 = w.toNat / 1024 % 4 ∧
       ((w ^^^ s.dev.voted ((F.PWR_LTR_VALUE p).addr 0)) >>> 12 = 0 →
         t.dev.word ((F.PWR_LTR_VALUE p).addr 0) = w ∧ t.dev.port = s.dev.port ∧
         t.dev.is F.HUB_REG_EVT_RSV_WR 0 = s.dev.is F.HUB_REG_EVT_RSV_WR 0) ∧
       (∀ q, q < 8 → s.dev.get F.RG_PWR_STAT_STATE q ≠ 2 → t.dev.get F.RG_PWR_STAT_STATE q = s.dev.get F.RG_PWR_STAT_STATE q) ∧
       (∀ u, t.dev.unit u = { s.dev.unit u with rouse := (t.dev.unit u).rouse }) ∧
       (∀ u : UnitId, s.dev.quieting u = true → (t.dev.tolerates u 600 && t.dev.ruled (u / 32) 0) = false →
         (t.dev.unit u).rouse = true) ∧ t.keep = s.keep ∧
       s.dev.fieldsKept t.dev ((F.HUB_REG_EVT_RSV_WR, 0) :: (List.range 8).map (fun q => (F.RG_PWR_STAT_STATE, q)))
         [(F.PWR_LTR_VALUE p).addr 0]))

/-! Calibration -/

/-- A run that is due starts: its trigger, its units, its state; without automatic runs nothing starts; a check that has
run and passes goes on to the self-trim, one that finds no signal abandons the run with reason 3, one that fails with
its own reason. A temperature of a cluster in reset is held, but not shown (R448 to R451, R457, R458, R460, R465 to
R467, R472). -/
def Obligations.CalibrationRuns : Prop :=
  (∀ (s : State) (c : ClusterId), (s.dev.cluster c).held = false →
    ((s.dev.bit F.CAL_EN_AUTO 0 c = false ∨ s.dev.trigger c = 0) → exec (.calEvaluation c) s = .next s) ∧
    (s.dev.calPossible c = true → (s.dev.cluster c).cal = none → s.dev.bit F.CAL_EN_AUTO 0 c = true → s.dev.trigger c ≠ 0 →
      (unitsOf c).any s.dev.takesPart = true → (s.dev.cluster c).scan = none →
      ∃ t, exec (.calEvaluation c) s = .next t ∧
        (∃ r, (t.dev.cluster c).cal = some r ∧ r.stage = 0 ∧ r.waiting = false ∧ r.slot = none ∧
          r.trigger = s.dev.trigger c ∧ r.todo = (List.range 8).filter (fun l => s.dev.takesPart (8 * c.val + l))) ∧
        t.dev.get F.CL_CAL_STAT_STATE c = 1 ∧ t.dev.get F.CL_CAL_STAT_TRIGGER c = s.dev.trigger c ∧
        t.dev.get F.CL_CAL_STAT_RUN_SEQ c = (s.dev.get F.CL_CAL_STAT_RUN_SEQ c + 1) % 256 ∧
        (∀ l, l < 8 → t.dev.bit F.CL_CAL_STAT_PART c l = s.dev.takesPart (8 * c.val + l)) ∧
        (∀ e, e ≠ c.val → t.dev.cluster e = s.dev.cluster e) ∧ t.dev.units = s.dev.units ∧ t.keep = s.keep ∧
        s.dev.fieldsKept t.dev [(F.CL_CAL_STAT_RUN_SEQ, c.val), (F.CL_CAL_STAT_TRIGGER, c.val), (F.CL_CAL_STAT_PART, c.val),
          (F.CL_CAL_STAT_UNIT, c.val), (F.CL_CAL_STAT_STATE, c.val), (F.CAL_STAT_RUNNING, 0)] [])) ∧
  (∀ (s : State) (c : ClusterId) (x : BitVec 16), s.dev.clusterLive c = true → s.dev.mild 0x16 →
    ∃ t, exec (.tempUpdate c x) s = .next t ∧ t.dev.get F.CL_CAL_TEMP_T_NOW c = x.toNat ∧
      (x.toInt < 800 → (t.dev.cluster c).coolSince = true) ∧
      (864 ≤ x.toInt → (s.dev.cluster c).coolSince = true → s.dev.collects → s.dev.clusterMasked c = false →
        t.dev.flt.held = s.dev.flt.held ++ [⟨s.dev.time, s.dev.locCode (.cluster c 6), ⟨0x16, .cluster c 6, 0, 0⟩⟩]) ∧
      ((x.toInt < 864 ∨ (s.dev.cluster c).coolSince = false) → t.dev.flt.held = s.dev.flt.held) ∧
      (∀ e, e ≠ c.val → t.dev.cluster e = s.dev.cluster e) ∧ t.keep = s.keep ∧
      s.dev.fieldsKept t.dev [(F.CL_CAL_TEMP_T_NOW, c.val), (F.FLT_SUPPR_MASKED, 0)] []) ∧
  (∀ (s : State) (c : ClusterId) (x : BitVec 16), s.dev.dieRuns (c / 8) = true → s.dev.clusterLive c = false →
    ∃ t, exec (.tempUpdate c x) s = .next t ∧ (t.dev.cluster c).temp = some x.toInt ∧ s.clusterOnly t c [] []) ∧
  (∀ (s : State) (c : ClusterId) (r : CalRun) (l : Nat) (ls : List Nat), (s.dev.cluster c).cal = some r → r.stage = 0 →
    r.todo = l :: ls →
    (s.dev.measured r (65536 * (r.checks + 1)) = false → exec (.calCheckEnd c) s = .next s) ∧
    (s.dev.measured r (65536 * (r.checks + 1)) = true →
      (r.acc.live = true → s.dev.rxData (8 * c.val + l) = true → r.acc.n ≠ 0 → r.acc.reason = 0 →
        ∃ t, exec (.calCheckEnd c) s = .next t ∧
          (t.dev.cluster c).cal = some { r with stage := 1, startAt := s.dev.refa, checks := 0, acc := {} } ∧
          s.clusterOnly t c [] []) ∧
      (r.slot = none → r.followers = [] → r.away = false → (∀ l ∈ r.todo, l < 8) → (s.dev.cluster c).scan = none →
        (s.dev.cluster c).scanWait = [] → s.dev.mild 0x68 →
          (r.acc.live = false ∨ s.dev.rxData (8 * c.val + l) = false ∨ r.acc.n = 0 ∨ r.acc.reason ≠ 0) →
        ∃ t, exec (.calCheckEnd c) s = .next t ∧ (t.dev.cluster c).cal = none ∧ (t.dev.cluster c).trims = r.start ∧
          t.dev.get F.CL_CAL_STAT_REASON c = (if r.acc.live = false ∨ s.dev.rxData (8 * c.val + l) = false ∨ r.acc.n = 0 then 3
            else r.acc.reason) ∧
          t.dev.get F.CL_CAL_STAT_STATE c = 4 ∧
          t.dev.get F.CL_CAL_RUNS_ABANDONED c = min (s.dev.get F.CL_CAL_RUNS_ABANDONED c + 1) 0xFFFF ∧
          t.keep = s.keep ∧ t.dev.units = s.dev.units)))

/-- The turns of a run, each measurement over its tokens: a match, a difference of -40 dB or less, hands the unit over;
a pass in which no trim steps goes on to the verification; the last unit's verified turn reports it, hands it back and
asks for the commit, with its new trims where the difference is -40 dB or less (R451 to R455, R469). The match trims are
free (log entry 4). A failed commit leaves the copy in force, and what lies outside the free slot, as it was and ends
the run with reason 12; a successful one puts the cluster's new store, whose CRC checks, into the free slot under the
next SEQ, shows its sets in CL_CAL_PT and ends the run (R444, R446, R447, R456, R458, R464, R468). -/
def Obligations.CalibrationTurnsAndCommits : Prop :=
  ((∀ (s : State) (c : ClusterId) (r : CalRun) (l : Nat) (ls : List Nat), (s.dev.cluster c).cal = some r → r.stage = 2 →
     r.todo = l :: ls → (r.iter ≠ 0 ∨ r.checks ≠ 0) →
     (s.dev.measured r 65536 = false → ∀ diff sig, exec (.matchIterationEnd c diff sig) s = .next s) ∧
     (s.dev.measured r 65536 = true →
       (∀ diff sig, 10000 * diff ≤ sig → ∃ t, exec (.matchIterationEnd c diff sig) s = .next t ∧
         (t.dev.cluster c).cal =
           some { r with stage := 3, iter := 0, away := true, startAt := s.dev.refa, checks := 0, acc := {} } ∧
         t.dev.is F.LU_RB_STAT_ALLEY (8 * c.val + l) = true ∧
         (∀ e, e ≠ c.val → t.dev.cluster e = s.dev.cluster e) ∧ t.keep = s.keep ∧
         s.dev.fieldsKept t.dev [(F.LU_RB_STAT_ALLEY, 8 * c.val + l)] []) ∧
       (∀ diff sig, sig < 10000 * diff → r.iter < 3 → ∃ t, exec (.matchIterationEnd c diff sig) s = .next t ∧
         (t.dev.cluster c).cal = some { r with iter := r.iter + 1, startAt := s.dev.refa, checks := 0, acc := {} } ∧
         t.dev.regs = s.dev.regs))) ∧
   (∀ (s : State) (c : ClusterId) (r : CalRun) (l : Nat) (ls : List Nat) (skew rms : Nat), (s.dev.cluster c).cal = some r →
     r.stage = 3 → r.todo = l :: ls →
     (r.checks < 4 ∨ s.dev.measured r 262280 = false → exec (.retunePassEnd c [] [] skew rms) s = .next s) ∧
     (4 ≤ r.checks → s.dev.measured r 262280 = true →
       (∀ k o, k < 68 → -32 ≤ s.dev.trim c (trimKey l k o) ∧ s.dev.trim c (trimKey l k o) ≤ 31) →
       ∃ t x, exec (.retunePassEnd c [] [] skew rms) s = .next t ∧ (t.dev.cluster c).cal = some x ∧ x.stage = 4 ∧
         x.passes = r.passes + 1 ∧ x.skewRms = skew ∧ x.ofsRms = rms ∧ x.todo = r.todo ∧ x.startAt = s.dev.refa ∧
         (t.dev.cluster c).trims = (s.dev.cluster c).trims ∧ s.clusterOnly t c [] [])) ∧
   (∀ (s : State) (c : ClusterId) (r : CalRun) (l : Nat), (s.dev.cluster c).cal = some r → r.stage = 4 → r.todo = [l] → l < 8 →
     (s.dev.measured r 65536 = false → ∀ diff sig, exec (.verifyEnd c diff sig) s = .next s) ∧
     (s.dev.measured r 65536 = true → ∀ diff sig, sig < 10000 * diff →
       ∃ t x, exec (.verifyEnd c diff sig) s = .next t ∧ (t.dev.cluster c).cal = some x ∧ x.stage = 5 ∧ x.good = r.good ∧
         t.dev.is F.LU_CAL_STAT_VERIFY_FAIL (8 * c.val + l) = true ∧
         (t.dev.cluster c).trims = backTo r.start (s.dev.cluster c).trims l) ∧
     (s.dev.measured r 65536 = true → ∀ diff sig, 10000 * diff ≤ sig →
       ∃ t x, exec (.verifyEnd c diff sig) s = .next t ∧ (t.dev.cluster c).cal = some x ∧ x.stage = 5 ∧ x.good = r.good ++ [l] ∧
         x.todo = [] ∧ t.dev.hub.commits = s.dev.hub.commits ++ [c.val] ∧ t.dev.get F.CL_CAL_STAT_STATE c = 3 ∧
         t.dev.is F.LU_RB_STAT_ALLEY (8 * c.val + l) = false ∧
         t.dev.get F.LU_CAL_STAT_SKEW_RMS (8 * c.val + l) = min r.skewRms 255 ∧
         t.dev.get F.LU_CAL_STAT_PASSES (8 * c.val + l) = min r.passes 15 ∧
         t.dev.is F.LU_CAL_STAT_VERIFY_FAIL (8 * c.val + l) = false ∧ (t.dev.cluster c).trims = (s.dev.cluster c).trims ∧
         t.keep = s.keep ∧ t.dev.units = s.dev.units ∧
         s.dev.fieldsKept t.dev [(F.LU_RB_STAT_ALLEY, 8 * c.val + l), (F.CL_CAL_STAT_STATE, c.val)]
           [F.LU_CAL_STAT_SKIPPED.addr (8 * c.val + l)]))) ∧
  (∀ (s : State) (c : ClusterId) (cs : List Nat) (r : CalRun), s.dev.hub.commits = c.val :: cs →
    (s.dev.cluster c).cal = some r →
     (s.dev.cluster c).scan = none → (s.dev.cluster c).scanWait = [] → s.dev.mild 0x68 →
     (r.slot = none → r.followers = [] →
       ∃ t, exec (.calCommit false) s = .next t ∧
         t.keep = { s.keep with nv := { s.keep.nv with
           mram := t.keep.nv.mram, bad := t.keep.nv.bad, calOther := t.keep.nv.calOther } } ∧
         (t.keep.nv.calOther = s.keep.nv.calOther ∨ t.keep.nv.calOther = none) ∧
         (∀ a, (a < slotBase s.keep.nv.calFree ∨ slotBase s.keep.nv.calFree + 4096 ≤ a) →
           Memory.read t.keep.nv.mram a = Memory.read s.keep.nv.mram a) ∧ (t.dev.cluster c).cal = none ∧
         t.dev.get F.CL_CAL_STAT_REASON c = 12 ∧ t.dev.get F.CL_CAL_STAT_STATE c = 0 ∧
         t.dev.is F.CAL_EVT_COMMIT_FAIL 0 = true ∧ t.dev.units = s.dev.units) ∧
     (s.keep.nv.calFree ≤ 32 → s.keep.nv.calSeq + 1 < 2 ^ 32 → (∀ l ∈ r.good, l < 8) →
       ∃ t, exec (.calCommit true) s = .next t ∧ t.keep.nv.calSeq = s.keep.nv.calSeq + 1 ∧
         t.keep.nv.calSlots.find c = some s.keep.nv.calFree ∧
         t.keep.nv.calOther = some ⟨s.keep.nv.calSeq, s.keep.nv.calSlots, s.keep.nv.calFree⟩ ∧
         slotOk t.keep.nv.mram s.keep.nv.calFree = true ∧
         (s.keep.nv.calOk = true → ∀ b, b < 5 →
           t.dev.is (F.CL_CAL_PT_VALID b) c = setValid t.keep.nv.mram s.keep.nv.calFree b) ∧
         (∀ a, (a < slotBase s.keep.nv.calFree ∨ slotBase s.keep.nv.calFree + 4096 ≤ a) →
           Memory.read t.keep.nv.mram a = Memory.read s.keep.nv.mram a) ∧
         (t.dev.cluster c).cal = none ∧ t.dev.get F.CL_CAL_STAT_STATE c = 0 ∧
         t.dev.get F.CL_CAL_RUNS_DONE c = min (s.dev.get F.CL_CAL_RUNS_DONE c + 1) 0xFFFF ∧ t.keep.fuses = s.keep.fuses))

/-! The fault collector -/

/-- Raising: an event of class C or D outside every masked domain is held with its time and location code, and one
inside is counted in MASKED (an ARRAY_UE located at its word is what IntegrityAndSensors states); the detectors of a
region in DEEP and of a die without supplies raise nothing. No event is recorded within 16 cycles of its detection; then
the next one of class D is recorded as R505 lays it out, unless it is consequential, which is counted as such (R422,
R554, R470 to R474, R480 to R483, R501, R502, R505, R506). -/
def Obligations.FaultsAreHeldAndRecorded : Prop :=
  (∀ (s : State) (e : FltEvent), (Instr.faultEvent e).wellFormed = true → s.dev.mild e.src.toNat → s.dev.collects →
    ueWord e = none →
    (s.dev.detectorsOff e = true → exec (.faultEvent e) s = .next s) ∧
    (s.dev.detectorsOff e = false → (s.dev.maskedAt e.loc = false ∨ isFixed e.src.toNat = true) →
      exec (.faultEvent e) s = .next { s with dev := { s.dev with flt := { s.dev.flt with
        held := s.dev.flt.held ++ [⟨s.dev.time, s.dev.locCode e.loc, e⟩] } } }) ∧
    (s.dev.detectorsOff e = false → s.dev.maskedAt e.loc = true → isFixed e.src.toNat = false →
      ∃ t, exec (.faultEvent e) s = .next t ∧
        t.dev.get F.FLT_SUPPR_MASKED 0 = min (s.dev.get F.FLT_SUPPR_MASKED 0 + 1) 0xFFFF ∧
        s.regsOnly t [(F.FLT_SUPPR_MASKED, 0)] [])) ∧
  (∀ (s : State) (h : HeldEvent), s.dev.nextHeld = some h → s.dev.time < h.time + 16 → exec .faultRecord s = .next s) ∧
  (∀ (s : State) (h : HeldEvent), s.dev.nextHeld = some h → h.time + 16 ≤ s.dev.time → s.dev.is F.FLT_HQ_FROZEN 0 = false →
    (s.dev.consequential h.ev = false → s.dev.classOf h.ev.src.toNat = 3 → bitsOf (s.dev.matrix h.ev.src.toNat) 19 16 = 0 →
      ∃ t, exec .faultRecord s = .next t ∧ t.dev.flt.held = s.dev.flt.held.erase h ∧
        t.dev.flt.hist.find (s.dev.get F.FLT_HQ_SEQ_SEQ 0 % 64) = some (s.dev.histWords h.ev h.code 3 false false
          (s.dev.alerts h.ev.src.toNat)) ∧
        t.dev.get F.FLT_HQ_SEQ_SEQ 0 = (s.dev.get F.FLT_HQ_SEQ_SEQ 0 + 1) % 2 ^ 32 ∧
        t.dev.get F.FLT_HQ_COUNT 0 = min 64 (s.dev.get F.FLT_HQ_COUNT 0 + 1) ∧
        t.dev.get F.FLT_CNT_CD_CNT_D 0 = min (s.dev.get F.FLT_CNT_CD_CNT_D 0 + 1) 0xFFFF ∧
        (s.dev.alerts h.ev.src.toNat = true →
          t.dev.get F.FLT_ALERT_PENDING 0 = min (s.dev.get F.FLT_ALERT_PENDING 0 + 1) 0xFFFF) ∧
        t.keep = s.keep ∧ t.dev.units = s.dev.units ∧
        s.dev.fieldsKept t.dev [(F.FLT_HQ_COUNT, 0), (F.FLT_CNT_CD_CNT_D, 0), (F.FLT_ALERT_PENDING, 0),
          (F.FLT_ALERT_LAST_SEQ, 0)] [F.FLT_HQ_SEQ_SEQ.addr 0]) ∧
    (s.dev.consequential h.ev = true → s.dev.mild h.ev.src.toNat →
      ∃ t, exec .faultRecord s = .next t ∧ t.dev.flt.held = s.dev.flt.held.erase h ∧
        t.dev.get F.FLT_SUPPR_CONSEQ 0 = min (s.dev.get F.FLT_SUPPR_CONSEQ 0 + 1) 0xFFFF ∧
        t.keep = s.keep ∧ t.dev.units = s.dev.units ∧
        s.dev.fieldsKept t.dev [(F.FLT_HQ_COUNT, 0), (F.FLT_SUPPR_CONSEQ, 0)] [F.FLT_HQ_SEQ_SEQ.addr 0])) ∧
  (∀ s : State, s.dev.flt.held = [] → exec .faultRecord s = .next s)

/-- A fixed class A event enters the package safe state: SAFE with its source, every region in reset, the operation
table empty with a new EPOCH, the class counted. A class B event of a region that is not reacting resets that region
alone; beside a class A decision of the same hub cycle it is counted and takes no reaction of its own (R384, R474, R476,
R478, R486). -/
def Obligations.SafeStates : Prop :=
  (∀ (s : State) (e : FltEvent), (e.src = 0x01 ∨ e.src = 0x02 ∨ e.src = 0x03) → locatedAt e.src.toNat e.loc = true →
    s.dev.collects → s.dev.detectorsOff e = false →
    ∃ t, exec (.faultEvent e) s = .next t ∧ t.dev.safe = true ∧
      (s.dev.safe = false → t.dev.get F.FLT_STAT_SAFE_SRC 0 = e.src.toNat) ∧
      (∀ q, q < 8 → (t.dev.region q).inReset = true) ∧ t.dev.opt.entries = [] ∧ t.dev.opt.cpl = [] ∧
      t.dev.get F.OPT_EPOCH_EPOCH 0 = (s.dev.get F.OPT_EPOCH_EPOCH 0 + 1) % 256 ∧
      t.dev.get F.FLT_CNT_AB_CNT_A 0 = min (s.dev.get F.FLT_CNT_AB_CNT_A 0 + 1) 0xFFFF ∧ t.dev.buffered = [] ∧
      t.keep = s.keep) ∧
  (∀ (s : State) (q : RegionId), s.dev.collects → s.dev.flt.matrix.find 0x12 = none → s.dev.flt.aOpen = false →
    s.dev.deciding = false → s.dev.reacting q = false → s.dev.regionMasked q = false → s.dev.deep q = false →
    (s.dev.die (q.val / 2)).on = true →
    ∃ t, exec (.faultEvent ⟨0x12, .region q 6, 0, s.dev.tag⟩) s = .next t ∧ (t.dev.region q).inReset = true ∧
      (t.dev.region q).masked = true ∧ t.dev.reacting q = true ∧ t.dev.bit F.HUB_TOPO_REGION_LIVE 0 q = false ∧
      t.dev.safe = s.dev.safe ∧ t.dev.get F.FLT_CNT_AB_CNT_B 0 = min (s.dev.get F.FLT_CNT_AB_CNT_B 0 + 1) 0xFFFF ∧
      (∀ p, p ≠ q.val → t.dev.region p = s.dev.region p) ∧ t.keep = s.keep) ∧
  (∀ (s : State) (q : RegionId), s.dev.collects → s.dev.flt.matrix.find 0x12 = none → s.dev.deciding = true →
    s.dev.safe = true →
    s.dev.regionMasked q = false → s.dev.deep q = false → (s.dev.die (q.val / 2)).on = true →
    ∃ t, exec (.faultEvent ⟨0x12, .region q 6, 0, s.dev.tag⟩) s = .next t ∧ t.dev.regions = s.dev.regions ∧
      t.dev.get F.FLT_CNT_AB_CNT_B 0 = min (s.dev.get F.FLT_CNT_AB_CNT_B 0 + 1) 0xFFFF ∧ t.keep = s.keep)

/-- The ends of hold and masking, and the commands of FLT_CTRL: the exit from safe state is refused with the first
reason of R477, or clears SAFE; unfreezing zeroes LOST, but not in the hub cycle of the freeze; an acknowledged snapshot
may be replaced; before HUB_MBIST has ended FLT_CTRL is off, and the command is a write that is dropped (R18, R473,
R477, R480, R481, R484 to R486, R503, R526). -/
def Obligations.CollectorCommands : Prop :=
  (∀ (s : State) (x : BitVec 8), ∃ t, exec (.escWindow x) s = .next t ∧
    (∀ k, t.dev.flt.esc.find k = (if k / 16 = x.toNat ∧ (s.dev.flt.escWin.find k).getD 0 ≠ s.dev.escWindow x.toNat then none
      else s.dev.flt.esc.find k)) ∧
    t = { s with dev := { s.dev with flt := { s.dev.flt with esc := t.dev.flt.esc } } }) ∧
  (∀ (s : State) (u : UnitId), (s.dev.unit u).inReset = false → (s.dev.unit u).underTest = false →
    ∃ t, exec (.maskEnd (.unit u)) s = .next t ∧ t.dev.unit u = { s.dev.unit u with masked := false } ∧ s.unitOnly t u [] []) ∧
  (∀ (s : State) (c : ClusterId), (s.dev.cluster c).inReset = false → (s.dev.cluster c).underTest = false →
    ∃ t, exec (.maskEnd (.cluster c)) s = .next t ∧ t.dev.cluster c = { s.dev.cluster c with masked := false } ∧
      s.clusterOnly t c [] []) ∧
  (∀ (s : State) (n : DieId), (s.dev.die n).underTest = false →
    ∃ t, exec (.maskEnd (.die n)) s = .next t ∧ t.dev.die n = { s.dev.die n with masked := false } ∧
      (∀ p, p ≠ n.val → t.dev.die p = s.dev.die p) ∧ t = { s with dev := { s.dev with dies := t.dev.dies } }) ∧
  (∀ (s : State) (q : RegionId), s.dev.regionHeld q = false → (s.dev.region q).underTest = false →
    ∃ t, exec (.maskEnd (.region q)) s = .next t ∧ t.dev.flt.exitMasks = s.dev.flt.exitMasks.filter (· ≠ q.val) ∧
      (t.dev.region q).masked = false ∧ t.dev.reacting q = false ∧
      (∀ p, p ≠ q.val → t.dev.region p = s.dev.region p) ∧ t.keep = s.keep ∧
      s.dev.fieldsKept t.dev [(F.FLT_STAT_RG_REACT, 0)] []) ∧
  (∀ s : State, s.dev.servesTable = true → (∀ n, n < 4 → (s.dev.die n).supplyBad = false) →
    (∀ r, s.dev.exitReason = r → r ≠ 0 →
      ∃ t, exec .safeExit s = .next t ∧ t.dev.get F.FLT_STAT_EXIT_REASON 0 = r ∧ t.dev.safe = s.dev.safe ∧
        s.regsOnly t [(F.FLT_STAT_EXIT_REASON, 0)] []) ∧
    (s.dev.deciding = false → s.dev.fallback = true → s.dev.exitReason = 1) ∧
    (s.dev.exitReason = 0 → (∀ q, q < 8 → (s.dev.region q).inReset = true → s.dev.bit F.FLT_STAT_RG_HELD 0 q = true) →
      ∃ t, exec .safeExit s = .next t ∧ t.dev.get F.FLT_STAT_EXIT_REASON 0 = 0 ∧ t.dev.safe = false ∧
        t.dev.flt.aOpen = false ∧ t.dev.regions = s.dev.regions ∧ t.keep = s.keep ∧
        s.dev.fieldsKept t.dev [(F.FLT_STAT_EXIT_REASON, 0), (F.FLT_STAT_SAFE, 0)] [])) ∧
  (∀ s : State, s.dev.servesTable = true → s.dev.flt.frozeAt = some s.dev.time → exec .hqUnfreeze s = .next s) ∧
  (∀ s : State, s.dev.servesTable = true → s.dev.flt.frozeAt ≠ some s.dev.time →
    ∃ t, exec .hqUnfreeze s = .next t ∧ t.dev.is F.FLT_HQ_FROZEN 0 = false ∧ t.dev.get F.FLT_HQ_LOST 0 = 0 ∧
    s.regsOnly t [(F.FLT_HQ_FROZEN, 0), (F.FLT_HQ_LOST, 0)] []) ∧
  (∀ (s : State) (c : Instr), s.dev.servesTable = false → (c = .safeExit ∨ c = .hqUnfreeze ∨ c = .snapAck) →
    exec c s = .next { s with dev := { s.dev with port := { s.dev.port with perr := true } } }) ∧
  (∀ s : State, s.dev.servesTable = true → ∃ t, exec .snapAck s = .next t ∧ t.dev.is F.FLT_HQ_SNAP_KEPT 0 = false ∧
    t.dev.flt.snapFree = true ∧
    t.keep = s.keep ∧ s.dev.fieldsKept t.dev [(F.FLT_HQ_SNAP_KEPT, 0)] []) ∧
  (∀ s : State, s.dev.flt.snapDue = true →
    ∃ t, exec .snapshot s = .next t ∧ t.keep.nv.snap.length = 515 ∧ t.keep.nv.mram = s.keep.nv.mram ∧
      t.keep.fuses = s.keep.fuses ∧ t.dev.is F.FLT_HQ_SNAP_VALID 0 = true ∧ t.dev.flt.snapDue = false ∧
      s.dev.fieldsKept t.dev [(F.FLT_HQ_SNAP_VALID, 0)] [])

/-- Scrubbing of the tap pool, word after word of a macro: a clean word changes nothing else; a correctable one is
counted and located, without an event below the bucket's threshold; the first detection of an uncorrectable one poisons
it, counts it and raises its event, and its coefficients act as zero; a poisoned one is counted. ARRAY_UE raised by
another reader of a word does what the scrub's detection does. As a window begins the buckets leak one and take the
threshold in force, a signature token is added up to 64 every 8 s, cool sensors are shown (R487 to R492, R506, R507,
R521, R575). -/
def Obligations.IntegrityAndSensors : Prop :=
  (∀ (s : State) (c : ClusterId) (m : Fin 2) (w : Fin 1024) (syn : BitVec 8), s.dev.scrubs 0 c m w = true →
    (s.dev.flt.poison.contains (functionalCode (.word 0 c m w)) = false →
      exec (.scrubStep 0 c m w .clean) s = .next { s with dev := s.dev.scrubPast 0 c m w } ∧
      exec (.scrubStep 0 c m w .poisoned) s = .next { s with dev := s.dev.scrubPast 0 c m w }) ∧
    (s.dev.flt.poison.contains (functionalCode (.word 0 c m w)) = false →
      ((s.dev.flt.buckets.find (macroCode 0 c m)).getD 0) + 1 < s.dev.flt.bktThr →
      ((s.dev.flt.buckets.find (macroCode 0 c m)).getD 0) < 255 →
      ∃ t, exec (.scrubStep 0 c m w (.correctable syn)) s = .next t ∧
        t.dev.count (F.FLT_ECC_CE_LO_LO.addr 0) = min (s.dev.count (F.FLT_ECC_CE_LO_LO.addr 0) + 1) (2 ^ 64 - 1) ∧
        t.dev.word (F.FLT_ECC_LAST_LOCATION.addr 0) = BitVec.ofNat 32 (physicalCode (.word 0 c m w)) ∧
        t.dev.get F.FLT_ECC_INFO_COUNT 0 = (s.dev.get F.FLT_ECC_INFO_COUNT 0 + 1) % 256 ∧
        t.dev.get F.FLT_ECC_INFO_SYNDROME 0 = syn.toNat ∧ t.dev.is F.FLT_ECC_INFO_UE 0 = false ∧
        t.dev.flt.buckets.find (macroCode 0 c m) = some ((s.dev.flt.buckets.find (macroCode 0 c m)).getD 0 + 1) ∧
        t.dev.flt.held = s.dev.flt.held ∧ t.keep = s.keep ∧ t.dev.clusters = s.dev.clusters ∧
        s.dev.fieldsKept t.dev [] [F.FLT_ECC_CE_LO_LO.addr 0, F.FLT_ECC_CE_HI_HI.addr 0, F.FLT_ECC_LAST_LOCATION.addr 0,
          F.FLT_ECC_INFO_COUNT.addr 0]) ∧
    (s.dev.mild 0x40 → s.dev.flt.poison.contains (functionalCode (.word 0 c m w)) = false →
      ∃ t, exec (.scrubStep 0 c m w (.uncorrectable syn)) s = .next t ∧
        t.dev.count (F.FLT_ECC_UE_LO_LO.addr 0) = min (s.dev.count (F.FLT_ECC_UE_LO_LO.addr 0) + 1) (2 ^ 64 - 1) ∧
        t.dev.flt.poison.contains (functionalCode (.word 0 c m w)) = true ∧ t.dev.is F.FLT_ECC_INFO_UE 0 = true ∧
        (s.dev.collects → s.dev.clusterMasked c = false → t.dev.flt.held = s.dev.flt.held ++
          [⟨s.dev.time, s.dev.locCode (.word 0 c m w), ⟨0x40, .word 0 c m w, syn.setWidth 32, 0⟩⟩]) ∧
        (m = 0 → t.dev.cluster c = { s.dev.cluster c with
          pool := (s.dev.cluster c).pool.filter (fun e => decide (e.1 / 4 ≠ w.val)) }) ∧
        (m = 1 → t.dev.clusters = s.dev.clusters) ∧ (∀ b, b ≠ c.val → t.dev.cluster b = s.dev.cluster b) ∧
        t.keep = s.keep ∧ t.dev.units = s.dev.units ∧
        s.dev.fieldsKept t.dev [(F.FLT_SUPPR_MASKED, 0)] [F.FLT_ECC_UE_LO_LO.addr 0, F.FLT_ECC_UE_HI_HI.addr 0,
          F.FLT_ECC_LAST_LOCATION.addr 0, F.FLT_ECC_INFO_COUNT.addr 0]) ∧
    (∀ f : EccFinding, s.dev.flt.poison.contains (functionalCode (.word 0 c m w)) = true →
      ∃ t, exec (.scrubStep 0 c m w f) s = .next { t with dev := t.dev.scrubPast 0 c m w } ∧
        t.dev.count (F.FLT_ECC_POISON_LO_LO.addr 0) = min (s.dev.count (F.FLT_ECC_POISON_LO_LO.addr 0) + 1) (2 ^ 64 - 1) ∧
        s.regsOnly t [] [F.FLT_ECC_POISON_LO_LO.addr 0, F.FLT_ECC_POISON_HI_HI.addr 0])) ∧
  (∀ (s : State) (a o m w : Nat) (syn : BitVec 8), s.dev.scrubs a o m w = true → s.dev.collects →
    ∃ t, exec (.faultEvent ⟨BitVec.ofNat 8 (0x40 + a), .word a o m w, syn.setWidth 32, 0⟩) s = .next t ∧
      exec (.scrubStep a o m w (.uncorrectable syn)) s = .next { t with dev := t.dev.scrubPast a o m w }) ∧
  (∀ s : State, NMap.sorted s.dev.flt.buckets = true → s.dev.flt.leakDue ≤ s.dev.seconds →
    ∃ t, exec .bucketLeak s = .next t ∧ t.dev.flt.leakDue = s.dev.nextLeak ∧
      (∀ k, (t.dev.flt.buckets.find k).getD 0 = (s.dev.flt.buckets.find k).getD 0 - 1) ∧ t.dev.regs = s.dev.regs ∧
      t.dev.flt.bktThr = s.dev.getV F.FLT_ECC_CFG_BKT_THR 0 ∧ t.keep = s.keep) ∧
  (∀ s : State, s.dev.hub.sigDue ≤ s.dev.time → ∃ t, exec .sigToken s = .next t ∧
    t.dev.get F.SEC_LC_BUCKET 0 = min 64 (s.dev.get F.SEC_LC_BUCKET 0 + 1) ∧
    t = { s with dev := { s.dev with regs := t.dev.regs, hub := { s.dev.hub with sigDue := s.dev.hub.sigDue + 3125000000 } } } ∧
    s.dev.fieldsKept t.dev [(F.SEC_LC_BUCKET, 0)] []) ∧
  (∀ (s : State) (n : DieId) (ts : List (BitVec 16)), (s.dev.die n).on = true → ts.length = 10 →
    (∀ x ∈ ts, x.toInt < 960) →
    ∃ t, exec (.sensorUpdate n ts) s = .next t ∧ (t.dev.die n).critical = false ∧
      (∀ i x, ts[i]? = some x → t.dev.is (F.DIE_TEMP_VALID i) n = true ∧ t.dev.get (F.DIE_TEMP_TEMP i) n = x.toNat) ∧
      t.dev.flt = s.dev.flt ∧ t.keep = s.keep ∧
      s.dev.fieldsKept t.dev [] ((List.range 10).map (fun i => (F.DIE_TEMP_TEMP i).addr n))) ∧
  (∀ (s : State) (c : ClusterId) (m : Fin 2) (w : Fin 1024), NMap.sorted s.dev.flt.scrubNext = true →
    (((s.dev.flt.scrubNext.find (macroCode 0 c m)).getD 0 = w.val →
      ((s.dev.scrubPast 0 c m w).flt.scrubNext.find (macroCode 0 c m)).getD 0 = (w.val + 1) % 1024) ∧
    ((s.dev.flt.scrubNext.find (macroCode 0 c m)).getD 0 ≠ w.val → s.dev.scrubPast 0 c m w = s.dev))) ∧
  (∀ s : State, s.dev.seconds < s.dev.flt.leakDue → exec .bucketLeak s = .next s) ∧
  (∀ s : State, s.dev.time < s.dev.hub.sigDue → exec .sigToken s = .next s)

/-! Pins -/

/-- An update of the TAP's instruction register: its code, whether it takes the pins, and the scan that follows it (R562
to R564). -/
def Sys2Proof.Claims.tapCode : Instr → Option (Nat × Bool × Option BoundaryScan)
  | .extest x => some (0x00, true, some x)
  | .samplePreload x => some (0x01, false, some x)
  | .idcode => some (0x02, false, none)
  | .clamp => some (0x05, true, none)
  | .highz => some (0x06, true, none)
  | .extestPulse x => some (0x08, true, some x)
  | .extestTrain x => some (0x09, true, some x)
  | .bypass => some (0xFF, false, none)
  | _ => none

/-- A plug is shown at its cluster; TAP instructions take the pins, and switch the line dies on, only while RESET_N is
low; the boundary cells capture what they meet and their latches take what is shifted in, unless the instruction behaves
as BYPASS; a package that waited for Test-Logic-Reset starts then; the identity key is fused once, in MANUFACTURE (R510,
R511, R518, R547, R548, R562 to R564). -/
def Obligations.PinsAndFuses : Prop :=
  (∀ (s : State) (c : ClusterId) (m r : Bool), ∃ t, exec (.plugChange c m r) s = .next t ∧
    t.dev.cluster c = { s.dev.cluster c with mated := m, rotated := m && r } ∧ s.clusterOnly t c [] []) ∧
  (∀ (c : Instr) (s : State) (op : Nat) (takes : Bool) (x : Option BoundaryScan), Claims.tapCode c = some (op, takes, x) →
    (s.dev.hub.resetLow = false → s.dev.hub.pinsTaken = false → s.dev.start.begun = true → (takes = true ∨ x = none) →
      exec c s = .next { s with dev := { s.dev with hub := { s.dev.hub with tapIr := op } } }) ∧
    (s.dev.hub.resetLow = false → s.dev.hub.pinsTaken = false → s.dev.start.begun = true → takes = false →
      ∀ b, x = some b → exec c s = .next { s with dev := { s.dev with hub := { s.dev.hub with
        tapIr := op, bsCap := b.pins, bsUpd := drivingCells b.data } } }) ∧
    (s.dev.hub.resetLow = true → s.dev.start.begun = false →
      ∃ t, exec c s = .next t ∧ t.dev.hub.tapIr = op ∧ t.dev.hub.pinsTaken = takes ∧ (∀ n, n < 4 → (t.dev.die n).on = takes) ∧
        (x = none → t.dev.hub.bsCap = s.dev.hub.bsCap ∧ t.dev.hub.bsUpd = s.dev.hub.bsUpd) ∧
        (∀ b, x = some b → t.dev.hub.bsCap = b.pins ∧ t.dev.hub.bsUpd = drivingCells b.data) ∧
        t.dev.regs = s.dev.regs ∧ t.keep = s.keep)) ∧
  (∀ s : State, s.dev.hub.pinsTaken = false →
    exec .testLogicReset s = .next { s with dev := { s.dev with hub := { s.dev.hub with tapIr := 2 } } }) ∧
  (∀ s : State, s.dev.hub.pinsTaken = true → s.dev.hub.resetLow = false →
    ∃ t, exec .testLogicReset s = .next t ∧ t.dev.hub.tapIr = 2 ∧ t.dev.hub.pinsTaken = false ∧ t.dev.start.begun = true ∧
      (∀ n, n < 4 → (t.dev.die n).on = false) ∧ t.dev.regs = s.dev.regs ∧ t.keep = s.keep) ∧
  (∀ (s : State) (seed ident root : List Byte),
    (s.keep.fuses.state = 0 → s.keep.fuses.keyFused = false →
      exec (.identityKeyFuseProgramming seed ident root) s = .next { s with keep := { s.keep with fuses := { s.keep.fuses with
        keyFused := true, seed := seed.take 32, ident := ident.take 16, root := root.take 32 } } }) ∧
    ((s.keep.fuses.state ≠ 0 ∨ s.keep.fuses.keyFused = true) →
      exec (.identityKeyFuseProgramming seed ident root) s = .next s))
end

