-- ==== Sys2Proof/Laws/Map.lean ====
section
/-! SUPPORT. Sparse maps and byte memory: reading after a write, and the canonical forms that every operation keeps. -/

namespace Sys2Proof.Machine

variable {α : Type}

@[simp] theorem NMap.find_insert_self (m : NMap α) (n : Nat) (x : α) : (NMap.insert m n x).find n = some x := by
  induction m with
  | nil => simp [NMap.insert, NMap.find]
  | cons e r ih =>
    obtain ⟨k, v⟩ := e
    by_cases h : k = n
    · simp [NMap.insert, NMap.find, h]
    · by_cases h' : n < k
      · simp [NMap.insert, NMap.find, h, h']
      · simp [NMap.insert, NMap.find, h, h', ih]

theorem NMap.find_insert_ne (m : NMap α) {n k : Nat} (x : α) (h : k ≠ n) : (NMap.insert m n x).find k = m.find k := by
  induction m with
  | nil => simp [NMap.insert, NMap.find, Ne.symm h]
  | cons e r ih =>
    obtain ⟨j, v⟩ := e
    by_cases hj : j = n
    · simp [NMap.insert, NMap.find, hj, Ne.symm h]
    · by_cases h' : n < j
      · simp [NMap.insert, NMap.find, hj, h', Ne.symm h]
      · simp only [NMap.insert, NMap.find, hj, h', if_false, ih]

theorem NMap.find_insert (m : NMap α) (n k : Nat) (x : α) :
    (NMap.insert m n x).find k = if k = n then some x else m.find k := by
  by_cases h : k = n
  · subst h; simp
  · simp [h, NMap.find_insert_ne]

@[simp] theorem NMap.find_erase_self (m : NMap α) (n : Nat) : (NMap.erase m n).find n = none := by
  induction m with
  | nil => rfl
  | cons e r ih =>
    obtain ⟨k, v⟩ := e
    by_cases h : k = n
    · simp [NMap.erase, h, ih]
    · simp [NMap.erase, NMap.find, h, ih]

theorem NMap.find_erase_ne (m : NMap α) {n k : Nat} (h : k ≠ n) : (NMap.erase m n).find k = m.find k := by
  induction m with
  | nil => rfl
  | cons e r ih =>
    obtain ⟨j, v⟩ := e
    by_cases hj : j = n
    · have hk : ¬ n = k := fun x => h x.symm
      simp [NMap.erase, NMap.find, hj, ih, hk]
    · simp only [NMap.erase, NMap.find, hj, if_false, ih]

/-- A filter on keys keeps or hides whole keys. -/
theorem NMap.find_filter (m : NMap α) (p : Nat → Bool) (n : Nat) :
    NMap.find (m.filter (fun e => p e.1)) n = if p n then m.find n else none := by
  induction m with
  | nil => simp [NMap.find]
  | cons e r ih =>
    obtain ⟨k, v⟩ := e
    by_cases hk : k = n
    · subst hk
      by_cases hp : p k
      · simp [hp, NMap.find]
      · simp [hp, ih]
    · by_cases hp : p k
      · simp [hp, NMap.find, hk, ih]
      · simp [hp, NMap.find, hk, ih]

/-! The canonical form of a sparse map -/

theorem NMap.sorted_cons (k : Nat) (v : α) (r : NMap α) :
    NMap.sorted ((k, v) :: r) = true ↔ (∀ e ∈ r, k < e.1) ∧ NMap.sorted r = true := by
  induction r generalizing k v with
  | nil => simp [NMap.sorted]
  | cons e r ih =>
    obtain ⟨j, w⟩ := e
    simp only [NMap.sorted, Bool.and_eq_true, decide_eq_true_eq]
    rw [ih]
    constructor
    · rintro ⟨h, h1, h2⟩
      refine ⟨?_, h1, h2⟩
      intro e he
      rcases List.mem_cons.1 he with rfl | he
      · exact h
      · exact lt_trans h (h1 e he)
    · rintro ⟨h, h1, h2⟩
      exact ⟨h (j, w) (by simp), h1, h2⟩

theorem NMap.mem_insert (m : NMap α) (n : Nat) (x : α) (e : Nat × α) :
    e ∈ NMap.insert m n x → e = (n, x) ∨ e ∈ m := by
  induction m with
  | nil => simp [NMap.insert]
  | cons a r ih =>
    obtain ⟨k, v⟩ := a
    simp only [NMap.insert]
    split
    · simp only [List.mem_cons]; tauto
    · split
      · simp only [List.mem_cons]; tauto
      · simp only [List.mem_cons]; tauto

/-- Inserting keeps the keys rising. -/
theorem NMap.sorted_insert (m : NMap α) (n : Nat) (x : α) (h : m.sorted = true) : (NMap.insert m n x).sorted = true := by
  induction m with
  | nil => rfl
  | cons a r ih =>
    obtain ⟨k, v⟩ := a
    obtain ⟨h1, h2⟩ := (NMap.sorted_cons k v r).1 h
    simp only [NMap.insert]
    split
    · next hk => subst hk; exact (NMap.sorted_cons _ _ _).2 ⟨h1, h2⟩
    · next hk =>
      split
      · next hn =>
        refine (NMap.sorted_cons _ _ _).2 ⟨?_, h⟩
        intro e he
        rcases List.mem_cons.1 he with rfl | he
        · exact hn
        · exact lt_trans hn (h1 e he)
      · next hn =>
        refine (NMap.sorted_cons _ _ _).2 ⟨?_, ih h2⟩
        intro e he
        rcases NMap.mem_insert r n x e he with rfl | he
        · show k < n; omega
        · exact h1 e he

/-- Removing entries keeps the keys rising. -/
theorem NMap.sorted_filter (m : NMap α) (p : Nat × α → Bool) (h : m.sorted = true) :
    NMap.sorted (m.filter p) = true := by
  induction m with
  | nil => rfl
  | cons a r ih =>
    obtain ⟨k, v⟩ := a
    obtain ⟨h1, h2⟩ := (NMap.sorted_cons k v r).1 h
    by_cases hp : p (k, v)
    · rw [List.filter_cons_of_pos hp]
      exact (NMap.sorted_cons _ _ _).2 ⟨fun e he => h1 e (List.mem_of_mem_filter he), ih h2⟩
    · rw [List.filter_cons_of_neg hp]; exact ih h2

/-! Byte memory -/

theorem Memory.read_place (m : Memory) (a b : Nat) (v : Byte) :
    (Memory.place m a v).read b = if b = a then v else m.read b := by
  induction m with
  | nil =>
    by_cases h : b = a
    · simp [Memory.place, Memory.read, h]
    · simp [Memory.place, Memory.read, h, Ne.symm h]
  | cons e r ih =>
    obtain ⟨k, w⟩ := e
    by_cases hk : k = a
    · subst hk
      by_cases h : b = k
      · simp [Memory.place, Memory.read, h]
      · simp [Memory.place, Memory.read, h, Ne.symm h]
    · by_cases hl : a < k
      · by_cases h : b = a
        · simp [Memory.place, Memory.read, hk, hl, h]
        · simp [Memory.place, Memory.read, hk, hl, h, Ne.symm h]
      · simp only [Memory.place, hk, hl, if_false, Memory.read, ih]
        by_cases h : k = b
        · have hb : ¬ b = a := fun x => hk (h.trans x)
          simp [h, hb]
        · simp [h]

theorem Memory.read_drop (m : Memory) (a b : Nat) :
    (Memory.drop m a).read b = if b = a then unlistedByte else m.read b := by
  induction m with
  | nil => simp [Memory.drop, Memory.read]
  | cons e r ih =>
    obtain ⟨k, w⟩ := e
    have ih' : Memory.read (r.filter (fun c => c.1 ≠ a)) b = if b = a then unlistedByte else Memory.read r b := ih
    by_cases hk : k = a
    · subst hk
      by_cases h : b = k
      · subst h; simpa [Memory.drop, Memory.read] using ih'
      · simpa [Memory.drop, Memory.read, h, Ne.symm h] using ih'
    · by_cases h : k = b
      · subst h; simp [Memory.drop, Memory.read, hk]
      · simpa [Memory.drop, Memory.read, hk, h] using ih'

/-- A read after a write: the value written at its address, every other byte as before. -/
theorem Memory.read_write (m : Memory) (a b : Nat) (v : Byte) :
    (Memory.write m a v).read b = if b = a then v else m.read b := by
  unfold Memory.write
  split
  · next h => rw [Memory.read_drop, h]
  · exact Memory.read_place m a b v

theorem Memory.above_iff (m : Memory) (n : Nat) :
    Memory.above m n = true ↔ (∀ e ∈ m, n < e.1) ∧ Memory.wf m = true := by
  induction m generalizing n with
  | nil => simp [Memory.above, Memory.wf]
  | cons e r ih =>
    obtain ⟨k, w⟩ := e
    simp only [Memory.above, Memory.wf, Bool.and_eq_true, decide_eq_true_eq]
    rw [ih]
    constructor
    · rintro ⟨⟨h, hw⟩, h1, h2⟩
      refine ⟨?_, hw, h1, h2⟩
      intro e he
      rcases List.mem_cons.1 he with rfl | he
      · exact h
      · exact lt_trans h (h1 e he)
    · rintro ⟨h, hw, h1, h2⟩
      exact ⟨⟨h (k, w) (by simp), hw⟩, h1, h2⟩

theorem Memory.wf_cons (k : Nat) (w : Byte) (r : Memory) :
    Memory.wf ((k, w) :: r) = true ↔ w ≠ unlistedByte ∧ (∀ e ∈ r, k < e.1) ∧ Memory.wf r = true := by
  simp only [Memory.wf, Bool.and_eq_true, decide_eq_true_eq, Memory.above_iff]

theorem Memory.mem_place (m : Memory) (a : Nat) (v : Byte) (e : Host.Cell) :
    e ∈ Memory.place m a v → e = (a, v) ∨ e ∈ m := by
  induction m with
  | nil => simp [Memory.place]
  | cons x r ih =>
    obtain ⟨k, w⟩ := x
    simp only [Memory.place]
    split
    · simp only [List.mem_cons]; tauto
    · split
      · simp only [List.mem_cons]; tauto
      · simp only [List.mem_cons]; tauto

theorem Memory.wf_place (m : Memory) (a : Nat) (v : Byte) (hv : v ≠ unlistedByte) (h : Memory.wf m = true) :
    Memory.wf (Memory.place m a v) = true := by
  induction m with
  | nil => simp [Memory.place, Memory.wf, Memory.above, hv]
  | cons x r ih =>
    obtain ⟨k, w⟩ := x
    obtain ⟨hw, h1, h2⟩ := (Memory.wf_cons k w r).1 h
    simp only [Memory.place]
    split
    · next hk => subst hk; exact (Memory.wf_cons _ _ _).2 ⟨hv, h1, h2⟩
    · next hk =>
      split
      · next hn =>
        refine (Memory.wf_cons _ _ _).2 ⟨hv, ?_, h⟩
        intro e he
        rcases List.mem_cons.1 he with rfl | he
        · exact hn
        · exact lt_trans hn (h1 e he)
      · next hn =>
        refine (Memory.wf_cons _ _ _).2 ⟨hw, ?_, ih h2⟩
        intro e he
        rcases Memory.mem_place r a v e he with rfl | he
        · show k < a; omega
        · exact h1 e he

theorem Memory.wf_drop (m : Memory) (a : Nat) (h : Memory.wf m = true) : Memory.wf (Memory.drop m a) = true := by
  induction m with
  | nil => rfl
  | cons x r ih =>
    obtain ⟨k, w⟩ := x
    obtain ⟨hw, h1, h2⟩ := (Memory.wf_cons k w r).1 h
    have ih' : Memory.wf (r.filter (fun c => c.1 ≠ a)) = true := ih h2
    by_cases hk : k = a
    · simpa [Memory.drop, hk] using ih'
    · have : Memory.drop ((k, w) :: r) a = (k, w) :: r.filter (fun c => c.1 ≠ a) := by simp [Memory.drop, hk]
      rw [this]
      exact (Memory.wf_cons _ _ _).2 ⟨hw, fun e he => h1 e (List.mem_of_mem_filter he), ih'⟩

/-- A write of one byte keeps the canonical form. -/
theorem Memory.wf_write (m : Memory) (a : Nat) (v : Byte) (h : Memory.wf m = true) :
    Memory.wf (Memory.write m a v) = true := by
  unfold Memory.write
  split
  · exact Memory.wf_drop m a h
  · next hv => exact Memory.wf_place m a v hv h

/-- A write of a run of bytes keeps the canonical form. -/
theorem Memory.wf_writeBytes (m : Memory) (a : Nat) (bs : List Byte) (h : Memory.wf m = true) :
    Memory.wf (Memory.writeBytes m a bs) = true := by
  induction bs generalizing m a with
  | nil => exact h
  | cons b bs ih => exact ih _ _ (Memory.wf_write m a b h)

/-- A read after a write of a run of bytes. -/
theorem Memory.read_writeBytes (m : Memory) (a b : Nat) (bs : List Byte) :
    (Memory.writeBytes m a bs).read b = if a ≤ b ∧ b < a + bs.length then (bs[b - a]?).getD 0 else m.read b := by
  induction bs generalizing m a with
  | nil => have : ¬ (a ≤ b ∧ b < a) := by omega
           simp [Memory.writeBytes, this]
  | cons x xs ih =>
    rw [Memory.writeBytes, ih, Memory.read_write]
    by_cases h : b = a
    · subst h
      have h1 : ¬ (b + 1 ≤ b ∧ b < b + 1 + xs.length) := by omega
      have h2 : b ≤ b ∧ b < b + (x :: xs).length := by simp
      rw [if_neg h1, if_pos h2]; simp
    · by_cases hin : a + 1 ≤ b ∧ b < a + 1 + xs.length
      · have h2 : a ≤ b ∧ b < a + (x :: xs).length := by simp; omega
        rw [if_pos hin, if_pos h2]
        have : b - a = (b - (a + 1)) + 1 := by omega
        rw [this]; simp
      · have h2 : ¬ (a ≤ b ∧ b < a + (x :: xs).length) := by simp; omega
        rw [if_neg hin, if_neg h2, if_neg h]

end Sys2Proof.Machine
end

