-- ==== Sys2Proof/Laws/State.lean ====
section
/-! SUPPORT. One small lemma per field and update of the device, so that no later proof unfolds a record update. -/

namespace Sys2Proof.Machine

variable (d : Dev)

/-! setWord -/

@[simp] theorem Dev.setWord_time (a : Nat) (w : Word) : (d.setWord a w).time = d.time := rfl
@[simp] theorem Dev.setWord_refa (a : Nat) (w : Word) : (d.setWord a w).refa = d.refa := rfl
@[simp] theorem Dev.setWord_draws (a : Nat) (w : Word) : (d.setWord a w).draws = d.draws := rfl
@[simp] theorem Dev.setWord_rwtB (a : Nat) (w : Word) : (d.setWord a w).rwtB = d.rwtB := rfl
@[simp] theorem Dev.setWord_rwtC (a : Nat) (w : Word) : (d.setWord a w).rwtC = d.rwtC := rfl
@[simp] theorem Dev.setWord_buffered (a : Nat) (w : Word) : (d.setWord a w).buffered = d.buffered := rfl
@[simp] theorem Dev.setWord_shadows (a : Nat) (w : Word) : (d.setWord a w).shadows = d.shadows := rfl
@[simp] theorem Dev.setWord_port (a : Nat) (w : Word) : (d.setWord a w).port = d.port := rfl
@[simp] theorem Dev.setWord_bus (a : Nat) (w : Word) : (d.setWord a w).bus = d.bus := rfl
@[simp] theorem Dev.setWord_opt (a : Nat) (w : Word) : (d.setWord a w).opt = d.opt := rfl
@[simp] theorem Dev.setWord_img (a : Nat) (w : Word) : (d.setWord a w).img = d.img := rfl
@[simp] theorem Dev.setWord_flt (a : Nat) (w : Word) : (d.setWord a w).flt = d.flt := rfl
@[simp] theorem Dev.setWord_hub (a : Nat) (w : Word) : (d.setWord a w).hub = d.hub := rfl
@[simp] theorem Dev.setWord_start (a : Nat) (w : Word) : (d.setWord a w).start = d.start := rfl
@[simp] theorem Dev.setWord_units (a : Nat) (w : Word) : (d.setWord a w).units = d.units := rfl
@[simp] theorem Dev.setWord_clusters (a : Nat) (w : Word) : (d.setWord a w).clusters = d.clusters := rfl
@[simp] theorem Dev.setWord_regions (a : Nat) (w : Word) : (d.setWord a w).regions = d.regions := rfl
@[simp] theorem Dev.setWord_dies (a : Nat) (w : Word) : (d.setWord a w).dies = d.dies := rfl

/-! put -/

@[simp] theorem Dev.put_time (f : Fld) (i v : Nat) : (d.put f i v).time = d.time := rfl
@[simp] theorem Dev.put_refa (f : Fld) (i v : Nat) : (d.put f i v).refa = d.refa := rfl
@[simp] theorem Dev.put_draws (f : Fld) (i v : Nat) : (d.put f i v).draws = d.draws := rfl
@[simp] theorem Dev.put_rwtB (f : Fld) (i v : Nat) : (d.put f i v).rwtB = d.rwtB := rfl
@[simp] theorem Dev.put_rwtC (f : Fld) (i v : Nat) : (d.put f i v).rwtC = d.rwtC := rfl
@[simp] theorem Dev.put_buffered (f : Fld) (i v : Nat) : (d.put f i v).buffered = d.buffered := rfl
@[simp] theorem Dev.put_shadows (f : Fld) (i v : Nat) : (d.put f i v).shadows = d.shadows := rfl
@[simp] theorem Dev.put_port (f : Fld) (i v : Nat) : (d.put f i v).port = d.port := rfl
@[simp] theorem Dev.put_bus (f : Fld) (i v : Nat) : (d.put f i v).bus = d.bus := rfl
@[simp] theorem Dev.put_opt (f : Fld) (i v : Nat) : (d.put f i v).opt = d.opt := rfl
@[simp] theorem Dev.put_img (f : Fld) (i v : Nat) : (d.put f i v).img = d.img := rfl
@[simp] theorem Dev.put_flt (f : Fld) (i v : Nat) : (d.put f i v).flt = d.flt := rfl
@[simp] theorem Dev.put_hub (f : Fld) (i v : Nat) : (d.put f i v).hub = d.hub := rfl
@[simp] theorem Dev.put_start (f : Fld) (i v : Nat) : (d.put f i v).start = d.start := rfl
@[simp] theorem Dev.put_units (f : Fld) (i v : Nat) : (d.put f i v).units = d.units := rfl
@[simp] theorem Dev.put_clusters (f : Fld) (i v : Nat) : (d.put f i v).clusters = d.clusters := rfl
@[simp] theorem Dev.put_regions (f : Fld) (i v : Nat) : (d.put f i v).regions = d.regions := rfl
@[simp] theorem Dev.put_dies (f : Fld) (i v : Nat) : (d.put f i v).dies = d.dies := rfl

/-! report -/

@[simp] theorem Dev.report_time (a : Nat) (w : Word) : (d.report a w).time = d.time := rfl
@[simp] theorem Dev.report_refa (a : Nat) (w : Word) : (d.report a w).refa = d.refa := rfl
@[simp] theorem Dev.report_draws (a : Nat) (w : Word) : (d.report a w).draws = d.draws := rfl
@[simp] theorem Dev.report_rwtB (a : Nat) (w : Word) : (d.report a w).rwtB = d.rwtB := rfl
@[simp] theorem Dev.report_rwtC (a : Nat) (w : Word) : (d.report a w).rwtC = d.rwtC := rfl
@[simp] theorem Dev.report_buffered (a : Nat) (w : Word) : (d.report a w).buffered = d.buffered := rfl
@[simp] theorem Dev.report_shadows (a : Nat) (w : Word) : (d.report a w).shadows = d.shadows := rfl
@[simp] theorem Dev.report_port (a : Nat) (w : Word) : (d.report a w).port = d.port := rfl
@[simp] theorem Dev.report_bus (a : Nat) (w : Word) : (d.report a w).bus = d.bus := rfl
@[simp] theorem Dev.report_opt (a : Nat) (w : Word) : (d.report a w).opt = d.opt := rfl
@[simp] theorem Dev.report_img (a : Nat) (w : Word) : (d.report a w).img = d.img := rfl
@[simp] theorem Dev.report_flt (a : Nat) (w : Word) : (d.report a w).flt = d.flt := rfl
@[simp] theorem Dev.report_hub (a : Nat) (w : Word) : (d.report a w).hub = d.hub := rfl
@[simp] theorem Dev.report_start (a : Nat) (w : Word) : (d.report a w).start = d.start := rfl
@[simp] theorem Dev.report_units (a : Nat) (w : Word) : (d.report a w).units = d.units := rfl
@[simp] theorem Dev.report_clusters (a : Nat) (w : Word) : (d.report a w).clusters = d.clusters := rfl
@[simp] theorem Dev.report_regions (a : Nat) (w : Word) : (d.report a w).regions = d.regions := rfl
@[simp] theorem Dev.report_dies (a : Nat) (w : Word) : (d.report a w).dies = d.dies := rfl

/-! setAll -/

@[simp] theorem Dev.setAll_time (a : Nat) (w : Word) : (d.setAll a w).time = d.time := rfl
@[simp] theorem Dev.setAll_refa (a : Nat) (w : Word) : (d.setAll a w).refa = d.refa := rfl
@[simp] theorem Dev.setAll_draws (a : Nat) (w : Word) : (d.setAll a w).draws = d.draws := rfl
@[simp] theorem Dev.setAll_buffered (a : Nat) (w : Word) : (d.setAll a w).buffered = d.buffered := rfl
@[simp] theorem Dev.setAll_shadows (a : Nat) (w : Word) : (d.setAll a w).shadows = d.shadows := rfl
@[simp] theorem Dev.setAll_port (a : Nat) (w : Word) : (d.setAll a w).port = d.port := rfl
@[simp] theorem Dev.setAll_bus (a : Nat) (w : Word) : (d.setAll a w).bus = d.bus := rfl
@[simp] theorem Dev.setAll_opt (a : Nat) (w : Word) : (d.setAll a w).opt = d.opt := rfl
@[simp] theorem Dev.setAll_img (a : Nat) (w : Word) : (d.setAll a w).img = d.img := rfl
@[simp] theorem Dev.setAll_flt (a : Nat) (w : Word) : (d.setAll a w).flt = d.flt := rfl
@[simp] theorem Dev.setAll_hub (a : Nat) (w : Word) : (d.setAll a w).hub = d.hub := rfl
@[simp] theorem Dev.setAll_start (a : Nat) (w : Word) : (d.setAll a w).start = d.start := rfl
@[simp] theorem Dev.setAll_units (a : Nat) (w : Word) : (d.setAll a w).units = d.units := rfl
@[simp] theorem Dev.setAll_clusters (a : Nat) (w : Word) : (d.setAll a w).clusters = d.clusters := rfl
@[simp] theorem Dev.setAll_regions (a : Nat) (w : Word) : (d.setAll a w).regions = d.regions := rfl
@[simp] theorem Dev.setAll_dies (a : Nat) (w : Word) : (d.setAll a w).dies = d.dies := rfl

/-! onUnit -/

@[simp] theorem Dev.onUnit_time (u : Nat) (f : UnitSt → UnitSt) : (d.onUnit u f).time = d.time := rfl
@[simp] theorem Dev.onUnit_refa (u : Nat) (f : UnitSt → UnitSt) : (d.onUnit u f).refa = d.refa := rfl
@[simp] theorem Dev.onUnit_draws (u : Nat) (f : UnitSt → UnitSt) : (d.onUnit u f).draws = d.draws := rfl
@[simp] theorem Dev.onUnit_regs (u : Nat) (f : UnitSt → UnitSt) : (d.onUnit u f).regs = d.regs := rfl
@[simp] theorem Dev.onUnit_rwtB (u : Nat) (f : UnitSt → UnitSt) : (d.onUnit u f).rwtB = d.rwtB := rfl
@[simp] theorem Dev.onUnit_rwtC (u : Nat) (f : UnitSt → UnitSt) : (d.onUnit u f).rwtC = d.rwtC := rfl
@[simp] theorem Dev.onUnit_buffered (u : Nat) (f : UnitSt → UnitSt) : (d.onUnit u f).buffered = d.buffered := rfl
@[simp] theorem Dev.onUnit_shadows (u : Nat) (f : UnitSt → UnitSt) : (d.onUnit u f).shadows = d.shadows := rfl
@[simp] theorem Dev.onUnit_port (u : Nat) (f : UnitSt → UnitSt) : (d.onUnit u f).port = d.port := rfl
@[simp] theorem Dev.onUnit_bus (u : Nat) (f : UnitSt → UnitSt) : (d.onUnit u f).bus = d.bus := rfl
@[simp] theorem Dev.onUnit_opt (u : Nat) (f : UnitSt → UnitSt) : (d.onUnit u f).opt = d.opt := rfl
@[simp] theorem Dev.onUnit_img (u : Nat) (f : UnitSt → UnitSt) : (d.onUnit u f).img = d.img := rfl
@[simp] theorem Dev.onUnit_flt (u : Nat) (f : UnitSt → UnitSt) : (d.onUnit u f).flt = d.flt := rfl
@[simp] theorem Dev.onUnit_hub (u : Nat) (f : UnitSt → UnitSt) : (d.onUnit u f).hub = d.hub := rfl
@[simp] theorem Dev.onUnit_start (u : Nat) (f : UnitSt → UnitSt) : (d.onUnit u f).start = d.start := rfl
@[simp] theorem Dev.onUnit_clusters (u : Nat) (f : UnitSt → UnitSt) : (d.onUnit u f).clusters = d.clusters := rfl
@[simp] theorem Dev.onUnit_regions (u : Nat) (f : UnitSt → UnitSt) : (d.onUnit u f).regions = d.regions := rfl
@[simp] theorem Dev.onUnit_dies (u : Nat) (f : UnitSt → UnitSt) : (d.onUnit u f).dies = d.dies := rfl

/-! onCluster -/

@[simp] theorem Dev.onCluster_time (c : Nat) (f : ClusterSt → ClusterSt) : (d.onCluster c f).time = d.time := rfl
@[simp] theorem Dev.onCluster_refa (c : Nat) (f : ClusterSt → ClusterSt) : (d.onCluster c f).refa = d.refa := rfl
@[simp] theorem Dev.onCluster_draws (c : Nat) (f : ClusterSt → ClusterSt) : (d.onCluster c f).draws = d.draws := rfl
@[simp] theorem Dev.onCluster_regs (c : Nat) (f : ClusterSt → ClusterSt) : (d.onCluster c f).regs = d.regs := rfl
@[simp] theorem Dev.onCluster_rwtB (c : Nat) (f : ClusterSt → ClusterSt) : (d.onCluster c f).rwtB = d.rwtB := rfl
@[simp] theorem Dev.onCluster_rwtC (c : Nat) (f : ClusterSt → ClusterSt) : (d.onCluster c f).rwtC = d.rwtC := rfl
@[simp] theorem Dev.onCluster_buffered (c : Nat) (f : ClusterSt → ClusterSt) : (d.onCluster c f).buffered = d.buffered := rfl
@[simp] theorem Dev.onCluster_shadows (c : Nat) (f : ClusterSt → ClusterSt) : (d.onCluster c f).shadows = d.shadows := rfl
@[simp] theorem Dev.onCluster_port (c : Nat) (f : ClusterSt → ClusterSt) : (d.onCluster c f).port = d.port := rfl
@[simp] theorem Dev.onCluster_bus (c : Nat) (f : ClusterSt → ClusterSt) : (d.onCluster c f).bus = d.bus := rfl
@[simp] theorem Dev.onCluster_opt (c : Nat) (f : ClusterSt → ClusterSt) : (d.onCluster c f).opt = d.opt := rfl
@[simp] theorem Dev.onCluster_img (c : Nat) (f : ClusterSt → ClusterSt) : (d.onCluster c f).img = d.img := rfl
@[simp] theorem Dev.onCluster_flt (c : Nat) (f : ClusterSt → ClusterSt) : (d.onCluster c f).flt = d.flt := rfl
@[simp] theorem Dev.onCluster_hub (c : Nat) (f : ClusterSt → ClusterSt) : (d.onCluster c f).hub = d.hub := rfl
@[simp] theorem Dev.onCluster_start (c : Nat) (f : ClusterSt → ClusterSt) : (d.onCluster c f).start = d.start := rfl
@[simp] theorem Dev.onCluster_units (c : Nat) (f : ClusterSt → ClusterSt) : (d.onCluster c f).units = d.units := rfl
@[simp] theorem Dev.onCluster_regions (c : Nat) (f : ClusterSt → ClusterSt) : (d.onCluster c f).regions = d.regions := rfl
@[simp] theorem Dev.onCluster_dies (c : Nat) (f : ClusterSt → ClusterSt) : (d.onCluster c f).dies = d.dies := rfl

/-! onRegion -/

@[simp] theorem Dev.onRegion_time (q : Nat) (f : RegionSt → RegionSt) : (d.onRegion q f).time = d.time := rfl
@[simp] theorem Dev.onRegion_refa (q : Nat) (f : RegionSt → RegionSt) : (d.onRegion q f).refa = d.refa := rfl
@[simp] theorem Dev.onRegion_draws (q : Nat) (f : RegionSt → RegionSt) : (d.onRegion q f).draws = d.draws := rfl
@[simp] theorem Dev.onRegion_regs (q : Nat) (f : RegionSt → RegionSt) : (d.onRegion q f).regs = d.regs := rfl
@[simp] theorem Dev.onRegion_rwtB (q : Nat) (f : RegionSt → RegionSt) : (d.onRegion q f).rwtB = d.rwtB := rfl
@[simp] theorem Dev.onRegion_rwtC (q : Nat) (f : RegionSt → RegionSt) : (d.onRegion q f).rwtC = d.rwtC := rfl
@[simp] theorem Dev.onRegion_buffered (q : Nat) (f : RegionSt → RegionSt) : (d.onRegion q f).buffered = d.buffered := rfl
@[simp] theorem Dev.onRegion_shadows (q : Nat) (f : RegionSt → RegionSt) : (d.onRegion q f).shadows = d.shadows := rfl
@[simp] theorem Dev.onRegion_port (q : Nat) (f : RegionSt → RegionSt) : (d.onRegion q f).port = d.port := rfl
@[simp] theorem Dev.onRegion_bus (q : Nat) (f : RegionSt → RegionSt) : (d.onRegion q f).bus = d.bus := rfl
@[simp] theorem Dev.onRegion_opt (q : Nat) (f : RegionSt → RegionSt) : (d.onRegion q f).opt = d.opt := rfl
@[simp] theorem Dev.onRegion_img (q : Nat) (f : RegionSt → RegionSt) : (d.onRegion q f).img = d.img := rfl
@[simp] theorem Dev.onRegion_flt (q : Nat) (f : RegionSt → RegionSt) : (d.onRegion q f).flt = d.flt := rfl
@[simp] theorem Dev.onRegion_hub (q : Nat) (f : RegionSt → RegionSt) : (d.onRegion q f).hub = d.hub := rfl
@[simp] theorem Dev.onRegion_start (q : Nat) (f : RegionSt → RegionSt) : (d.onRegion q f).start = d.start := rfl
@[simp] theorem Dev.onRegion_units (q : Nat) (f : RegionSt → RegionSt) : (d.onRegion q f).units = d.units := rfl
@[simp] theorem Dev.onRegion_clusters (q : Nat) (f : RegionSt → RegionSt) : (d.onRegion q f).clusters = d.clusters := rfl
@[simp] theorem Dev.onRegion_dies (q : Nat) (f : RegionSt → RegionSt) : (d.onRegion q f).dies = d.dies := rfl

/-! onDie -/

@[simp] theorem Dev.onDie_time (n : Nat) (f : DieSt → DieSt) : (d.onDie n f).time = d.time := rfl
@[simp] theorem Dev.onDie_refa (n : Nat) (f : DieSt → DieSt) : (d.onDie n f).refa = d.refa := rfl
@[simp] theorem Dev.onDie_draws (n : Nat) (f : DieSt → DieSt) : (d.onDie n f).draws = d.draws := rfl
@[simp] theorem Dev.onDie_regs (n : Nat) (f : DieSt → DieSt) : (d.onDie n f).regs = d.regs := rfl
@[simp] theorem Dev.onDie_rwtB (n : Nat) (f : DieSt → DieSt) : (d.onDie n f).rwtB = d.rwtB := rfl
@[simp] theorem Dev.onDie_rwtC (n : Nat) (f : DieSt → DieSt) : (d.onDie n f).rwtC = d.rwtC := rfl
@[simp] theorem Dev.onDie_buffered (n : Nat) (f : DieSt → DieSt) : (d.onDie n f).buffered = d.buffered := rfl
@[simp] theorem Dev.onDie_shadows (n : Nat) (f : DieSt → DieSt) : (d.onDie n f).shadows = d.shadows := rfl
@[simp] theorem Dev.onDie_port (n : Nat) (f : DieSt → DieSt) : (d.onDie n f).port = d.port := rfl
@[simp] theorem Dev.onDie_bus (n : Nat) (f : DieSt → DieSt) : (d.onDie n f).bus = d.bus := rfl
@[simp] theorem Dev.onDie_opt (n : Nat) (f : DieSt → DieSt) : (d.onDie n f).opt = d.opt := rfl
@[simp] theorem Dev.onDie_img (n : Nat) (f : DieSt → DieSt) : (d.onDie n f).img = d.img := rfl
@[simp] theorem Dev.onDie_flt (n : Nat) (f : DieSt → DieSt) : (d.onDie n f).flt = d.flt := rfl
@[simp] theorem Dev.onDie_hub (n : Nat) (f : DieSt → DieSt) : (d.onDie n f).hub = d.hub := rfl
@[simp] theorem Dev.onDie_start (n : Nat) (f : DieSt → DieSt) : (d.onDie n f).start = d.start := rfl
@[simp] theorem Dev.onDie_units (n : Nat) (f : DieSt → DieSt) : (d.onDie n f).units = d.units := rfl
@[simp] theorem Dev.onDie_clusters (n : Nat) (f : DieSt → DieSt) : (d.onDie n f).clusters = d.clusters := rfl
@[simp] theorem Dev.onDie_regions (n : Nat) (f : DieSt → DieSt) : (d.onDie n f).regions = d.regions := rfl

/-! driveHtx -/

/-- Driving a lane of HOST_TX writes the pins of its die, nothing else. -/
theorem Dev.driveHtx_rest (u : Nat) (o : Option (List Int)) : d.driveHtx u o = { d with dies := (d.driveHtx u o).dies } := by
  unfold Dev.driveHtx
  repeat' split
  all_goals rfl

@[simp] theorem Dev.driveHtx_time (u : Nat) (o : Option (List Int)) : (d.driveHtx u o).time = d.time := by
  rw [Dev.driveHtx_rest]
@[simp] theorem Dev.driveHtx_refa (u : Nat) (o : Option (List Int)) : (d.driveHtx u o).refa = d.refa := by
  rw [Dev.driveHtx_rest]
@[simp] theorem Dev.driveHtx_draws (u : Nat) (o : Option (List Int)) : (d.driveHtx u o).draws = d.draws := by
  rw [Dev.driveHtx_rest]
@[simp] theorem Dev.driveHtx_regs (u : Nat) (o : Option (List Int)) : (d.driveHtx u o).regs = d.regs := by
  rw [Dev.driveHtx_rest]
@[simp] theorem Dev.driveHtx_rwtB (u : Nat) (o : Option (List Int)) : (d.driveHtx u o).rwtB = d.rwtB := by
  rw [Dev.driveHtx_rest]
@[simp] theorem Dev.driveHtx_rwtC (u : Nat) (o : Option (List Int)) : (d.driveHtx u o).rwtC = d.rwtC := by
  rw [Dev.driveHtx_rest]
@[simp] theorem Dev.driveHtx_buffered (u : Nat) (o : Option (List Int)) : (d.driveHtx u o).buffered = d.buffered := by
  rw [Dev.driveHtx_rest]
@[simp] theorem Dev.driveHtx_shadows (u : Nat) (o : Option (List Int)) : (d.driveHtx u o).shadows = d.shadows := by
  rw [Dev.driveHtx_rest]
@[simp] theorem Dev.driveHtx_port (u : Nat) (o : Option (List Int)) : (d.driveHtx u o).port = d.port := by
  rw [Dev.driveHtx_rest]
@[simp] theorem Dev.driveHtx_bus (u : Nat) (o : Option (List Int)) : (d.driveHtx u o).bus = d.bus := by
  rw [Dev.driveHtx_rest]
@[simp] theorem Dev.driveHtx_opt (u : Nat) (o : Option (List Int)) : (d.driveHtx u o).opt = d.opt := by
  rw [Dev.driveHtx_rest]
@[simp] theorem Dev.driveHtx_img (u : Nat) (o : Option (List Int)) : (d.driveHtx u o).img = d.img := by
  rw [Dev.driveHtx_rest]
@[simp] theorem Dev.driveHtx_flt (u : Nat) (o : Option (List Int)) : (d.driveHtx u o).flt = d.flt := by
  rw [Dev.driveHtx_rest]
@[simp] theorem Dev.driveHtx_hub (u : Nat) (o : Option (List Int)) : (d.driveHtx u o).hub = d.hub := by
  rw [Dev.driveHtx_rest]
@[simp] theorem Dev.driveHtx_start (u : Nat) (o : Option (List Int)) : (d.driveHtx u o).start = d.start := by
  rw [Dev.driveHtx_rest]
@[simp] theorem Dev.driveHtx_units (u : Nat) (o : Option (List Int)) : (d.driveHtx u o).units = d.units := by
  rw [Dev.driveHtx_rest]
@[simp] theorem Dev.driveHtx_clusters (u : Nat) (o : Option (List Int)) : (d.driveHtx u o).clusters = d.clusters := by
  rw [Dev.driveHtx_rest]
@[simp] theorem Dev.driveHtx_regions (u : Nat) (o : Option (List Int)) : (d.driveHtx u o).regions = d.regions := by
  rw [Dev.driveHtx_rest]

/-! hold -/

@[simp] theorem Dev.hold_time (e : FltEvent) : (d.hold e).time = d.time := rfl
@[simp] theorem Dev.hold_refa (e : FltEvent) : (d.hold e).refa = d.refa := rfl
@[simp] theorem Dev.hold_draws (e : FltEvent) : (d.hold e).draws = d.draws := rfl
@[simp] theorem Dev.hold_regs (e : FltEvent) : (d.hold e).regs = d.regs := rfl
@[simp] theorem Dev.hold_rwtB (e : FltEvent) : (d.hold e).rwtB = d.rwtB := rfl
@[simp] theorem Dev.hold_rwtC (e : FltEvent) : (d.hold e).rwtC = d.rwtC := rfl
@[simp] theorem Dev.hold_buffered (e : FltEvent) : (d.hold e).buffered = d.buffered := rfl
@[simp] theorem Dev.hold_shadows (e : FltEvent) : (d.hold e).shadows = d.shadows := rfl
@[simp] theorem Dev.hold_port (e : FltEvent) : (d.hold e).port = d.port := rfl
@[simp] theorem Dev.hold_bus (e : FltEvent) : (d.hold e).bus = d.bus := rfl
@[simp] theorem Dev.hold_opt (e : FltEvent) : (d.hold e).opt = d.opt := rfl
@[simp] theorem Dev.hold_img (e : FltEvent) : (d.hold e).img = d.img := rfl
@[simp] theorem Dev.hold_hub (e : FltEvent) : (d.hold e).hub = d.hub := rfl
@[simp] theorem Dev.hold_start (e : FltEvent) : (d.hold e).start = d.start := rfl
@[simp] theorem Dev.hold_units (e : FltEvent) : (d.hold e).units = d.units := rfl
@[simp] theorem Dev.hold_clusters (e : FltEvent) : (d.hold e).clusters = d.clusters := rfl
@[simp] theorem Dev.hold_regions (e : FltEvent) : (d.hold e).regions = d.regions := rfl
@[simp] theorem Dev.hold_dies (e : FltEvent) : (d.hold e).dies = d.dies := rfl

end Sys2Proof.Machine
end

