-- ==== Sys2Proof/Laws/Ops.lean ====
section
/-! SUPPORT. What the shared operations over registers, fields and records do, said once: a read after each update. -/

namespace Sys2Proof.Machine

/-! Bit fields -/

theorem bit_fieldMask (hi lo i : Nat) (hi32 : hi < 32) (hle : lo ≤ hi) :
    (fieldMask hi lo).getLsbD i = decide (lo ≤ i ∧ i ≤ hi) := by
  have hpow : 2 ^ (hi + 1) - 2 ^ lo = (2 ^ (hi + 1 - lo) - 1) * 2 ^ lo := by
    rw [Nat.sub_mul, ← Nat.pow_add, Nat.sub_add_cancel (by omega), one_mul]
  unfold fieldMask
  rw [BitVec.getLsbD_ofNat, hpow, Nat.testBit_mul_two_pow, Nat.testBit_two_pow_sub_one]
  by_cases h1 : lo ≤ i <;> by_cases h2 : i ≤ hi <;> simp [h1, h2] <;> omega

theorem bit_putBits (w : Word) (hi lo v i : Nat) (hi32 : hi < 32) (hle : lo ≤ hi) :
    (putBits w hi lo v).getLsbD i = if lo ≤ i ∧ i ≤ hi then v.testBit (i - lo) else w.getLsbD i := by
  unfold putBits
  by_cases hb : i < 32
  · rw [BitVec.getLsbD_or, BitVec.getLsbD_and, BitVec.getLsbD_and, BitVec.getLsbD_not, bit_fieldMask _ _ _ hi32 hle,
      BitVec.getLsbD_ofNat, Nat.testBit_mul_two_pow]
    by_cases h : lo ≤ i ∧ i ≤ hi
    · simp [h, hb]
    · simp [h, hb]
  · have hge : 32 ≤ i := by omega
    have h : ¬ (lo ≤ i ∧ i ≤ hi) := fun h => by omega
    rw [if_neg h, BitVec.getLsbD_of_ge _ _ hge, BitVec.getLsbD_of_ge _ _ hge]

theorem testBit_bitsOf (w : Word) (hi lo i : Nat) :
    (bitsOf w hi lo).testBit i = (decide (i < hi + 1 - lo) && w.getLsbD (lo + i)) := by
  unfold bitsOf
  rw [Nat.testBit_mod_two_pow, Nat.testBit_div_two_pow]
  rw [show i + lo = lo + i by omega]
  rfl

/-- The field just written holds the value, cut to its width. -/
theorem bitsOf_putBits (w : Word) (hi lo v : Nat) (hi32 : hi < 32) (hle : lo ≤ hi) :
    bitsOf (putBits w hi lo v) hi lo = v % 2 ^ (hi + 1 - lo) := by
  apply Nat.eq_of_testBit_eq
  intro i
  rw [testBit_bitsOf, bit_putBits _ _ _ _ _ hi32 hle, Nat.testBit_mod_two_pow]
  by_cases h : i < hi + 1 - lo
  · have : lo ≤ lo + i ∧ lo + i ≤ hi := by omega
    simp [h, this]
  · simp [h]

/-- A field apart from the one written is unchanged. -/
theorem bitsOf_putBits_apart (w : Word) (hi lo v hi' lo' : Nat) (hi32 : hi < 32) (hle : lo ≤ hi)
    (h : hi' < lo ∨ hi < lo') : bitsOf (putBits w hi lo v) hi' lo' = bitsOf w hi' lo' := by
  apply Nat.eq_of_testBit_eq
  intro i
  rw [testBit_bitsOf, testBit_bitsOf, bit_putBits _ _ _ _ _ hi32 hle]
  by_cases hb : i < hi' + 1 - lo'
  · have : ¬ (lo ≤ lo' + i ∧ lo' + i ≤ hi) := fun x => by omega
    simp [hb, this]
  · simp [hb]

/-! Registers -/

theorem Dev.word_setWord (d : Dev) (a b : Nat) (w : Word) : (d.setWord a w).word b = if b = a then w else d.word b := by
  unfold Dev.setWord Dev.word
  by_cases h : b = a
  · subst h; simp
  · simp [h, NMap.find_insert_ne]

@[simp] theorem Dev.word_setWord_self (d : Dev) (a : Nat) (w : Word) : (d.setWord a w).word a = w := by
  simp [Dev.word_setWord]

theorem Dev.word_setWord_ne (d : Dev) {a b : Nat} (w : Word) (h : b ≠ a) : (d.setWord a w).word b = d.word b := by
  simp [Dev.word_setWord, h]

theorem Dev.word_setAll (d : Dev) (a b : Nat) (w : Word) : (d.setAll a w).word b = if b = a then w else d.word b :=
  d.word_setWord a b w

theorem Dev.word_put (d : Dev) (f : Fld) (i v b : Nat) :
    (d.put f i v).word b = if b = f.addr i then putBits (d.word (f.addr i)) f.hi f.lo v else d.word b :=
  d.word_setWord _ _ _

theorem Dev.word_put_ne (d : Dev) (f : Fld) (i v : Nat) {b : Nat} (h : b ≠ f.addr i) : (d.put f i v).word b = d.word b :=
  by
  simp [Dev.word_put, h]

/-- What hardware reports keeps the reserved bits of the register (R349, R356). -/
theorem Dev.word_report (d : Dev) (a b : Nat) (w : Word) :
    (d.report a w).word b = if b = a then (d.word a &&& rsvMask a) ||| (w &&& ~~~ rsvMask a) else d.word b :=
  d.word_setWord a b _

theorem Dev.word_report_ne (d : Dev) {a b : Nat} (w : Word) (h : b ≠ a) : (d.report a w).word b = d.word b :=
  d.word_setWord_ne _ h

/-- A register word depends on the map of registers alone. -/
theorem Dev.word_congr {d e : Dev} (h : d.regs = e.regs) (a : Nat) : d.word a = e.word a := by
  unfold Dev.word; rw [h]

theorem Dev.get_congr {d e : Dev} (h : d.regs = e.regs) (f : Fld) (i : Nat) : d.get f i = e.get f i := by
  unfold Dev.get; rw [Dev.word_congr h]

@[simp] theorem Dev.word_onUnit (d : Dev) (u : Nat) (f : UnitSt → UnitSt) (x : Nat) : (d.onUnit u f).word x = d.word x :=
  Dev.word_congr (by rfl) x
@[simp] theorem Dev.word_onCluster (d : Dev) (c : Nat) (f : ClusterSt → ClusterSt) (x : Nat) :
    (d.onCluster c f).word x = d.word x :=
  Dev.word_congr (by rfl) x
@[simp] theorem Dev.word_onRegion (d : Dev) (q : Nat) (f : RegionSt → RegionSt) (x : Nat) :
    (d.onRegion q f).word x = d.word x :=
  Dev.word_congr (by rfl) x
@[simp] theorem Dev.word_onDie (d : Dev) (n : Nat) (f : DieSt → DieSt) (x : Nat) : (d.onDie n f).word x = d.word x :=
  Dev.word_congr (by rfl) x
@[simp] theorem Dev.word_driveHtx (d : Dev) (u : Nat) (o : Option (List Int)) (x : Nat) :
    (d.driveHtx u o).word x = d.word x :=
  Dev.word_congr (by simp) x
@[simp] theorem Dev.word_hold (d : Dev) (e : FltEvent) (x : Nat) : (d.hold e).word x = d.word x :=
  Dev.word_congr (by rfl) x
@[simp] theorem Dev.word_setDraws (d : Dev) (n : Nat) (x : Nat) : (d.setDraws n).word x = d.word x :=
  Dev.word_congr (by rfl) x

@[simp] theorem Dev.get_onUnit (d : Dev) (u : Nat) (f : UnitSt → UnitSt) (g : Fld) (j : Nat) :
    (d.onUnit u f).get g j = d.get g j :=
  Dev.get_congr (by rfl) g j
@[simp] theorem Dev.get_onCluster (d : Dev) (c : Nat) (f : ClusterSt → ClusterSt) (g : Fld) (j : Nat) :
    (d.onCluster c f).get g j = d.get g j :=
  Dev.get_congr (by rfl) g j
@[simp] theorem Dev.get_onRegion (d : Dev) (q : Nat) (f : RegionSt → RegionSt) (g : Fld) (j : Nat) :
    (d.onRegion q f).get g j = d.get g j :=
  Dev.get_congr (by rfl) g j
@[simp] theorem Dev.get_onDie (d : Dev) (n : Nat) (f : DieSt → DieSt) (g : Fld) (j : Nat) : (d.onDie n f).get g j = d.get g j :=
  Dev.get_congr (by rfl) g j
@[simp] theorem Dev.get_driveHtx (d : Dev) (u : Nat) (o : Option (List Int)) (g : Fld) (j : Nat) :
    (d.driveHtx u o).get g j = d.get g j :=
  Dev.get_congr (by simp) g j
@[simp] theorem Dev.get_hold (d : Dev) (e : FltEvent) (g : Fld) (j : Nat) : (d.hold e).get g j = d.get g j :=
  Dev.get_congr (by rfl) g j
@[simp] theorem Dev.get_setDraws (d : Dev) (n : Nat) (g : Fld) (j : Nat) : (d.setDraws n).get g j = d.get g j :=
  Dev.get_congr (by rfl) g j

/-- A field after the write of a field: the field itself, another part of its register, another register. -/
theorem Dev.get_put (d : Dev) (f g : Fld) (i j v : Nat) :
    (d.put f i v).get g j =
      if g.addr j = f.addr i then bitsOf (putBits (d.word (f.addr i)) f.hi f.lo v) g.hi g.lo else d.get g j := by
  unfold Dev.get
  rw [Dev.word_put]
  split <;> rfl

theorem Dev.get_put_self (d : Dev) (f : Fld) (i v : Nat) (h : f.hi < 32) (hle : f.lo ≤ f.hi) :
    (d.put f i v).get f i = v % 2 ^ (f.hi + 1 - f.lo) := by
  rw [Dev.get_put, if_pos rfl, bitsOf_putBits _ _ _ _ h hle]

theorem Dev.get_put_other (d : Dev) (f g : Fld) (i j v : Nat) (h : g.addr j ≠ f.addr i) :
    (d.put f i v).get g j = d.get g j := by
  rw [Dev.get_put, if_neg h]

theorem Dev.get_put_apart (d : Dev) (f g : Fld) (i j v : Nat) (h : f.hi < 32) (hle : f.lo ≤ f.hi)
    (ha : g.hi < f.lo ∨ f.hi < g.lo) : (d.put f i v).get g j = d.get g j := by
  rw [Dev.get_put]
  split
  · next e => rw [bitsOf_putBits_apart _ _ _ _ _ _ h hle ha]; unfold Dev.get; rw [e]
  · rfl

theorem Dev.get_setWord_other (d : Dev) (a : Nat) (w : Word) (g : Fld) (j : Nat) (h : g.addr j ≠ a) :
    (d.setWord a w).get g j = d.get g j := by
  unfold Dev.get; rw [Dev.word_setWord_ne _ _ h]

/-! Records -/

/-! A record depends on its own map alone. -/

theorem Dev.unit_congr {d e : Dev} (h : d.units = e.units) (n : Nat) : d.unit n = e.unit n := by
  unfold Dev.unit; rw [h]

@[simp] theorem Dev.unit_setWord (d : Dev) (a : Nat) (w : Word) (x : Nat) : (d.setWord a w).unit x = d.unit x :=
  Dev.unit_congr (by rfl) x
@[simp] theorem Dev.unit_put (d : Dev) (f : Fld) (i v : Nat) (x : Nat) : (d.put f i v).unit x = d.unit x :=
  Dev.unit_congr (by rfl) x
@[simp] theorem Dev.unit_setAll (d : Dev) (a : Nat) (w : Word) (x : Nat) : (d.setAll a w).unit x = d.unit x :=
  Dev.unit_congr (by rfl) x
@[simp] theorem Dev.unit_onCluster (d : Dev) (c : Nat) (f : ClusterSt → ClusterSt) (x : Nat) :
    (d.onCluster c f).unit x = d.unit x :=
  Dev.unit_congr (by rfl) x
@[simp] theorem Dev.unit_onRegion (d : Dev) (q : Nat) (f : RegionSt → RegionSt) (x : Nat) :
    (d.onRegion q f).unit x = d.unit x :=
  Dev.unit_congr (by rfl) x
@[simp] theorem Dev.unit_onDie (d : Dev) (n : Nat) (f : DieSt → DieSt) (x : Nat) : (d.onDie n f).unit x = d.unit x :=
  Dev.unit_congr (by rfl) x
@[simp] theorem Dev.unit_report (d : Dev) (a : Nat) (w : Word) (x : Nat) : (d.report a w).unit x = d.unit x :=
  Dev.unit_congr (by rfl) x
@[simp] theorem Dev.unit_driveHtx (d : Dev) (u : Nat) (o : Option (List Int)) (x : Nat) : (d.driveHtx u o).unit x = d.unit x :=
  Dev.unit_congr (by simp) x
@[simp] theorem Dev.unit_hold (d : Dev) (e : FltEvent) (x : Nat) : (d.hold e).unit x = d.unit x :=
  Dev.unit_congr (by rfl) x
@[simp] theorem Dev.unit_setDraws (d : Dev) (n : Nat) (x : Nat) : (d.setDraws n).unit x = d.unit x :=
  Dev.unit_congr (by rfl) x

theorem Dev.cluster_congr {d e : Dev} (h : d.clusters = e.clusters) (n : Nat) : d.cluster n = e.cluster n := by
  unfold Dev.cluster; rw [h]

@[simp] theorem Dev.cluster_setWord (d : Dev) (a : Nat) (w : Word) (x : Nat) : (d.setWord a w).cluster x = d.cluster x :=
  Dev.cluster_congr (by rfl) x
@[simp] theorem Dev.cluster_put (d : Dev) (f : Fld) (i v : Nat) (x : Nat) : (d.put f i v).cluster x = d.cluster x :=
  Dev.cluster_congr (by rfl) x
@[simp] theorem Dev.cluster_setAll (d : Dev) (a : Nat) (w : Word) (x : Nat) : (d.setAll a w).cluster x = d.cluster x :=
  Dev.cluster_congr (by rfl) x
@[simp] theorem Dev.cluster_onUnit (d : Dev) (u : Nat) (f : UnitSt → UnitSt) (x : Nat) :
    (d.onUnit u f).cluster x = d.cluster x :=
  Dev.cluster_congr (by rfl) x
@[simp] theorem Dev.cluster_onRegion (d : Dev) (q : Nat) (f : RegionSt → RegionSt) (x : Nat) :
    (d.onRegion q f).cluster x = d.cluster x :=
  Dev.cluster_congr (by rfl) x
@[simp] theorem Dev.cluster_onDie (d : Dev) (n : Nat) (f : DieSt → DieSt) (x : Nat) : (d.onDie n f).cluster x = d.cluster x :=
  Dev.cluster_congr (by rfl) x
@[simp] theorem Dev.cluster_report (d : Dev) (a : Nat) (w : Word) (x : Nat) : (d.report a w).cluster x = d.cluster x :=
  Dev.cluster_congr (by rfl) x
@[simp] theorem Dev.cluster_driveHtx (d : Dev) (u : Nat) (o : Option (List Int)) (x : Nat) : (d.driveHtx u o).cluster x = d.cluster x :=
  Dev.cluster_congr (by simp) x
@[simp] theorem Dev.cluster_hold (d : Dev) (e : FltEvent) (x : Nat) : (d.hold e).cluster x = d.cluster x :=
  Dev.cluster_congr (by rfl) x
@[simp] theorem Dev.cluster_setDraws (d : Dev) (n : Nat) (x : Nat) : (d.setDraws n).cluster x = d.cluster x :=
  Dev.cluster_congr (by rfl) x

theorem Dev.region_congr {d e : Dev} (h : d.regions = e.regions) (n : Nat) : d.region n = e.region n := by
  unfold Dev.region; rw [h]

@[simp] theorem Dev.region_setWord (d : Dev) (a : Nat) (w : Word) (x : Nat) : (d.setWord a w).region x = d.region x :=
  Dev.region_congr (by rfl) x
@[simp] theorem Dev.region_put (d : Dev) (f : Fld) (i v : Nat) (x : Nat) : (d.put f i v).region x = d.region x :=
  Dev.region_congr (by rfl) x
@[simp] theorem Dev.region_setAll (d : Dev) (a : Nat) (w : Word) (x : Nat) : (d.setAll a w).region x = d.region x :=
  Dev.region_congr (by rfl) x
@[simp] theorem Dev.region_onUnit (d : Dev) (u : Nat) (f : UnitSt → UnitSt) (x : Nat) : (d.onUnit u f).region x = d.region x :=
  Dev.region_congr (by rfl) x
@[simp] theorem Dev.region_onCluster (d : Dev) (c : Nat) (f : ClusterSt → ClusterSt) (x : Nat) :
    (d.onCluster c f).region x = d.region x :=
  Dev.region_congr (by rfl) x
@[simp] theorem Dev.region_onDie (d : Dev) (n : Nat) (f : DieSt → DieSt) (x : Nat) : (d.onDie n f).region x = d.region x :=
  Dev.region_congr (by rfl) x
@[simp] theorem Dev.region_report (d : Dev) (a : Nat) (w : Word) (x : Nat) : (d.report a w).region x = d.region x :=
  Dev.region_congr (by rfl) x
@[simp] theorem Dev.region_driveHtx (d : Dev) (u : Nat) (o : Option (List Int)) (x : Nat) : (d.driveHtx u o).region x = d.region x :=
  Dev.region_congr (by simp) x
@[simp] theorem Dev.region_hold (d : Dev) (e : FltEvent) (x : Nat) : (d.hold e).region x = d.region x :=
  Dev.region_congr (by rfl) x
@[simp] theorem Dev.region_setDraws (d : Dev) (n : Nat) (x : Nat) : (d.setDraws n).region x = d.region x :=
  Dev.region_congr (by rfl) x

theorem Dev.die_congr {d e : Dev} (h : d.dies = e.dies) (n : Nat) : d.die n = e.die n := by
  unfold Dev.die; rw [h]

@[simp] theorem Dev.die_setWord (d : Dev) (a : Nat) (w : Word) (x : Nat) : (d.setWord a w).die x = d.die x :=
  Dev.die_congr (by rfl) x
@[simp] theorem Dev.die_put (d : Dev) (f : Fld) (i v : Nat) (x : Nat) : (d.put f i v).die x = d.die x :=
  Dev.die_congr (by rfl) x
@[simp] theorem Dev.die_setAll (d : Dev) (a : Nat) (w : Word) (x : Nat) : (d.setAll a w).die x = d.die x :=
  Dev.die_congr (by rfl) x
@[simp] theorem Dev.die_onUnit (d : Dev) (u : Nat) (f : UnitSt → UnitSt) (x : Nat) : (d.onUnit u f).die x = d.die x :=
  Dev.die_congr (by rfl) x
@[simp] theorem Dev.die_onCluster (d : Dev) (c : Nat) (f : ClusterSt → ClusterSt) (x : Nat) :
    (d.onCluster c f).die x = d.die x :=
  Dev.die_congr (by rfl) x
@[simp] theorem Dev.die_onRegion (d : Dev) (q : Nat) (f : RegionSt → RegionSt) (x : Nat) : (d.onRegion q f).die x = d.die x :=
  Dev.die_congr (by rfl) x
@[simp] theorem Dev.die_hold (d : Dev) (e : FltEvent) (x : Nat) : (d.hold e).die x = d.die x := Dev.die_congr (by rfl) x
@[simp] theorem Dev.die_setDraws (d : Dev) (n : Nat) (x : Nat) : (d.setDraws n).die x = d.die x :=
  Dev.die_congr (by rfl) x

@[simp] theorem Dev.unit_onUnit_self (d : Dev) (u : Nat) (f : UnitSt → UnitSt) : (d.onUnit u f).unit u = f (d.unit u) :=
  by
  simp [Dev.onUnit, Dev.unit]

theorem Dev.unit_onUnit (d : Dev) (u v : Nat) (f : UnitSt → UnitSt) :
    (d.onUnit u f).unit v = if v = u then f (d.unit u) else d.unit v := by
  by_cases h : v = u
  · subst h; simp
  · simp [Dev.onUnit, Dev.unit, NMap.find_insert_ne, h]

@[simp] theorem Dev.cluster_onCluster_self (d : Dev) (c : Nat) (f : ClusterSt → ClusterSt) :
    (d.onCluster c f).cluster c = f (d.cluster c) := by
  simp [Dev.onCluster, Dev.cluster]

theorem Dev.cluster_onCluster (d : Dev) (c v : Nat) (f : ClusterSt → ClusterSt) :
    (d.onCluster c f).cluster v = if v = c then f (d.cluster c) else d.cluster v := by
  by_cases h : v = c
  · subst h; simp
  · simp [Dev.onCluster, Dev.cluster, NMap.find_insert_ne, h]

@[simp] theorem Dev.region_onRegion_self (d : Dev) (q : Nat) (f : RegionSt → RegionSt) :
    (d.onRegion q f).region q = f (d.region q) := by
  simp [Dev.onRegion, Dev.region]

theorem Dev.region_onRegion (d : Dev) (q v : Nat) (f : RegionSt → RegionSt) :
    (d.onRegion q f).region v = if v = q then f (d.region q) else d.region v := by
  by_cases h : v = q
  · subst h; simp
  · simp [Dev.onRegion, Dev.region, NMap.find_insert_ne, h]

@[simp] theorem Dev.die_onDie_self (d : Dev) (n : Nat) (f : DieSt → DieSt) : (d.onDie n f).die n = f (d.die n) := by
  simp [Dev.onDie, Dev.die]

theorem Dev.die_onDie (d : Dev) (n v : Nat) (f : DieSt → DieSt) :
    (d.onDie n f).die v = if v = n then f (d.die n) else d.die v := by
  by_cases h : v = n
  · subst h; simp
  · simp [Dev.onDie, Dev.die, NMap.find_insert_ne, h]

/-! Outcomes -/

@[simp] theorem State.act_eq (s : State) (f : Dev → Dev) : s.act f = .next { s with dev := f s.dev } := rfl
@[simp] theorem State.actK_eq (s : State) (f : Keep → Dev → Dev) : s.actK f = .next { s with dev := f s.keep s.dev } :=
  rfl
@[simp] theorem State.actNv_eq (s : State) (f : Fuses → Nv → Dev → Nv × Dev) :
    s.actNv f = .next { s with
      keep := { s.keep with nv := (f s.keep.fuses s.keep.nv s.dev).1 }, dev := (f s.keep.fuses s.keep.nv s.dev).2 } :=
  rfl

end Sys2Proof.Machine
end

