-- ==== Sys2Proof/Laws/Fields.lean ====
section
/-! SUPPORT. Reading one register field after writing another, with side conditions that are closed facts of the two fields;
what a write leaves of the registers; when two devices class a source alike. -/

namespace Sys2Proof.Machine

/-- A field lies in a word and in its block. -/
def Fld.fits (f : Fld) : Bool :=
  decide (f.lo ≤ f.hi ∧ f.hi < 32 ∧ f.off < (match f.blk with
    | .hub => 0x100000 | .lu => 0x1000 | .cl => 0x4000 | .rg => 0x4000 | .die => 0x8000))

/-- Two fields of the same block number lie apart: in other registers, or in other bits of one. -/
def Fld.apart (f g : Fld) : Bool :=
  f.fits && decide (f.blk = g.blk) && (decide (f.off ≠ g.off) || decide (g.hi < f.lo) || decide (f.hi < g.lo))

/-- How many blocks of a kind there are (R11); the hub counts as one. -/
def blkCount : Blk → Nat
  | .hub => 1
  | .lu => 256
  | .cl => 32
  | .rg => 8
  | .die => 4

theorem Fld.addr_inj {f g : Fld} (h : f.blk = g.blk) (i : Nat) : f.addr i = g.addr i ↔ f.off = g.off := by
  unfold Fld.addr; rw [h]; omega

/-- Fields of blocks of other kinds or numbers have other addresses. -/
theorem Fld.addr_ne {f g : Fld} {i j : Nat} (hf : f.fits = true) (hg : g.fits = true) (hi : i < blkCount f.blk)
    (hj : j < blkCount g.blk) (h : f.blk ≠ g.blk ∨ i ≠ j) : g.addr j ≠ f.addr i := by
  obtain ⟨fb, fo, fh, fl⟩ := f
  obtain ⟨gb, go, gh, gl⟩ := g
  simp only [Fld.fits, decide_eq_true_eq] at hf hg
  cases fb <;> cases gb <;> simp_all [Fld.addr, blkBase, blkCount] <;> omega

@[simp] theorem Dev.get_put_eq (d : Dev) (f : Fld) (i v : Nat) (h : f.fits = true) :
    (d.put f i v).get f i = v % 2 ^ (f.hi + 1 - f.lo) := by
  simp only [Fld.fits, decide_eq_true_eq] at h
  exact d.get_put_self f i v h.2.1 h.1

theorem Dev.get_put_sep (d : Dev) (f g : Fld) (i v : Nat) (h : f.apart g = true) : (d.put f i v).get g i = d.get g i := by
  simp only [Fld.apart, Fld.fits, Bool.and_eq_true, Bool.or_eq_true, decide_eq_true_eq] at h
  obtain ⟨⟨⟨h1, h2, -⟩, hb⟩, h3⟩ := h
  rcases h3 with (h3 | h3) | h3
  · exact d.get_put_other f g i i v (fun e => h3 ((Fld.addr_inj hb i).1 e.symm))
  · exact d.get_put_apart f g i i v h2 h1 (.inl h3)
  · exact d.get_put_apart f g i i v h2 h1 (.inr h3)

theorem Dev.get_put_far (d : Dev) (f g : Fld) (i j v : Nat) (hf : f.fits = true) (hg : g.fits = true)
    (hi : i < blkCount f.blk) (hj : j < blkCount g.blk) (h : f.blk ≠ g.blk ∨ i ≠ j) :
    (d.put f i v).get g j = d.get g j :=
  d.get_put_other f g i j v (Fld.addr_ne hf hg hi hj h)

theorem Dev.is_eq (d : Dev) (f : Fld) (i : Nat) : d.is f i = decide (d.get f i = 1) := rfl

/-! What a write leaves -/

theorem Dev.bit_put (d : Dev) (f : Fld) (i v a b : Nat) (hf : f.fits = true)
    (h : a = f.addr i → ¬(f.lo ≤ b ∧ b ≤ f.hi)) : ((d.put f i v).word a).getLsbD b = (d.word a).getLsbD b := by
  simp only [Fld.fits, decide_eq_true_eq] at hf
  rw [Dev.word_put]
  split
  · next e => rw [bit_putBits _ _ _ _ _ hf.2.1 hf.1, if_neg (h e), e]
  · rfl

theorem Dev.fieldsKept_refl (d : Dev) (fs : List (Fld × Nat)) (as : List Nat) : d.fieldsKept d fs as := fun _ _ _ _ => rfl

theorem Dev.fieldsKept_congr {d e e' : Dev} {fs : List (Fld × Nat)} {as : List Nat} (h : e'.regs = e.regs)
    (k : d.fieldsKept e fs as) : d.fieldsKept e' fs as := fun a i ha hf => by
  rw [Dev.word_congr h]; exact k a i ha hf

theorem Dev.fieldsKept_put {d e : Dev} {fs : List (Fld × Nat)} {as : List Nat} (f : Fld) (i v : Nat) (hf : f.fits = true)
    (hm : (f, i) ∈ fs) (k : d.fieldsKept e fs as) : d.fieldsKept (e.put f i v) fs as := fun a b ha h => by
  rw [Dev.bit_put e f i v a b hf (fun e => h _ hm e)]; exact k a b ha h

theorem Dev.fieldsKept_setWord {d e : Dev} {fs : List (Fld × Nat)} {as : List Nat} (a : Nat) (w : Word) (hm : a ∈ as)
    (k : d.fieldsKept e fs as) : d.fieldsKept (e.setWord a w) fs as := fun x b hx h => by
  rw [Dev.word_setWord_ne e w (show x ≠ a from fun q => hx (q ▸ hm))]; exact k x b hx h

theorem Dev.fieldsKept_mono {d e : Dev} {fs gs : List (Fld × Nat)} {as bs : List Nat} (hf : fs ⊆ gs) (ha : as ⊆ bs)
    (k : d.fieldsKept e fs as) : d.fieldsKept e gs bs :=
  fun a i h g => k a i (fun m => h (ha m)) (fun p hp => g p (hf hp))

/-! The reaction matrix -/

/-- The class of a source depends on the matrix of the image alone. -/
theorem Dev.classOf_congr {d e : Dev} (h : d.flt.matrix = e.flt.matrix) (n : Nat) : d.classOf n = e.classOf n := by
  unfold Dev.classOf Dev.matrix; rw [h]

end Sys2Proof.Machine
end

