-- ==== Sys2Proof/Laws/Shared.lean ====
section
/-! SUPPORT. What the shared operations can do, once for each: an event, the port's failure, pool slots, completions. -/

namespace Sys2Proof.Machine

/-- An event of class C or D that no mask stops is held. -/
theorem Dev.takeEvent_mild (d : Dev) (e : FltEvent) (h : d.mild e.src.toNat) : d.takeEvent e = d.hold e := by
  have hc : ¬ d.classOf e.src.toNat ≤ 1 := Nat.not_le.2 h
  simp only [Dev.takeEvent, hc, if_false]

/-- All that raising an event of class C or D can do: nothing where the collector or the detector is off, one more in MASKED, or the
event held. -/
theorem Dev.raise_mild (d : Dev) (e : FltEvent) (h : d.mild e.src.toNat) :
    d.raise e = if d.collectorOff || d.detectorsOff e then d
      else if d.maskedAt e.loc && !(isFixed e.src.toNat) then d.bump F.FLT_SUPPR_MASKED 0 1 else d.hold e := by
  rw [Dev.raise, d.takeEvent_mild e h]

/-- The record of a unit, cluster, region and die, and the port, stay when a class C or D event is raised. -/
theorem Dev.raise_mild_records (d : Dev) (e : FltEvent) (h : d.mild e.src.toNat) :
    (d.raise e).units = d.units ∧ (d.raise e).clusters = d.clusters ∧ (d.raise e).regions = d.regions ∧
      (d.raise e).dies = d.dies ∧ (d.raise e).port = d.port ∧ (d.raise e).opt = d.opt := by
  rw [d.raise_mild e h]
  repeat' split
  all_goals exact ⟨rfl, rfl, rfl, rfl, rfl, rfl⟩

/-- Of the registers only FLT_SUPPR can change when a class C or D event is raised. -/
theorem Dev.raise_mild_word (d : Dev) (e : FltEvent) (h : d.mild e.src.toNat) {a : Nat}
    (ha : a ≠ F.FLT_SUPPR_MASKED.addr 0) : (d.raise e).word a = d.word a := by
  rw [d.raise_mild e h]
  repeat' split
  · rfl
  · exact Dev.word_put_ne _ _ _ _ ha
  · exact Dev.word_hold _ _ _

/-- A port that is not up cannot go down. -/
theorem Dev.portFail_idle (d : Dev) (u : Nat) (h : (d.inPort u && d.portUp (d.portOf u)) = false) : d.portFail u = d := by
  simp [Dev.portFail, h]

/-- A list of units changed one after the other leaves the clusters as they were. -/
theorem Dev.each_onUnit_clusters (d : Dev) (ns : List Nat) (f : UnitSt → UnitSt) :
    (d.each ns (fun d u => d.onUnit u f)).clusters = d.clusters := by
  unfold Dev.each
  induction ns generalizing d with
  | nil => rfl
  | cons u ns ih => exact ih (d.onUnit u f)

/-- A list of units changed one after the other changes nothing but units. -/
theorem Dev.each_onUnit_rest (d : Dev) (ns : List Nat) (f : UnitSt → UnitSt) :
    d.each ns (fun d u => d.onUnit u f) = { d with units := (d.each ns (fun d u => d.onUnit u f)).units } := by
  unfold Dev.each
  induction ns generalizing d with
  | nil => rfl
  | cons u ns ih => exact (ih (d.onUnit u f)).trans rfl

/-- Mending pool words changes nothing but the marks of poisoned words. -/
theorem Dev.mendSlots_rest (d : Dev) (c first n : Nat) :
    d.mendSlots c first n = { d with flt := (d.mendSlots c first n).flt } := by
  unfold Dev.mendSlots Dev.mend
  split <;> rfl

@[simp] theorem Dev.cluster_mendSlots (d : Dev) (c first n b : Nat) :
    (d.mendSlots c first n).cluster b = d.cluster b := by
  rw [Dev.mendSlots_rest]
  rfl

/-- Zeroed slots read 0, every other slot of the cluster is as it was. -/
theorem Dev.zeroSlots_pool (d : Dev) (c first n k : Nat) :
    ((d.zeroSlots c first n).cluster c).pool.find k =
      if first ≤ k ∧ k < first + n then none else (d.cluster c).pool.find k := by
  unfold Dev.zeroSlots
  rw [Dev.cluster_congr (Dev.each_onUnit_clusters _ _ _) c, Dev.cluster_onCluster_self, Dev.cluster_mendSlots]
  refine (NMap.find_filter (d.cluster c).pool (fun k => decide (k < first) || decide (first + n ≤ k)) k).trans ?_
  by_cases h : first ≤ k ∧ k < first + n
  · have h1 : ¬ k < first := Nat.not_lt.2 h.1
    have h2 : ¬ first + n ≤ k := Nat.not_le.2 h.2
    simp [h, h1, h2]
  · by_cases h1 : k < first
    · have h2 : ¬ first ≤ k := Nat.not_le.2 h1
      simp [h1, h2]
    · have h2 : first + n ≤ k := Nat.not_lt.1 (fun h3 => h ⟨Nat.not_lt.1 h1, h3⟩)
      have h3 : ¬ k < first + n := Nat.not_lt.2 h2
      simp [h2, h3]

/-- Zeroing slots touches the cluster's pool, the gradients that wait and the marks of poisoned words, nothing else. -/
theorem Dev.zeroSlots_rest (d : Dev) (c first n : Nat) :
    (d.zeroSlots c first n).regs = d.regs ∧ (d.zeroSlots c first n).regions = d.regions ∧
      (d.zeroSlots c first n).port = d.port ∧ ∀ b, b ≠ c → (d.zeroSlots c first n).cluster b = d.cluster b := by
  unfold Dev.zeroSlots
  dsimp only
  refine ⟨?_, ?_, ?_, fun b hb => ?_⟩
  · rw [Dev.each_onUnit_rest, Dev.mendSlots_rest]; rfl
  · rw [Dev.each_onUnit_rest, Dev.mendSlots_rest]; rfl
  · rw [Dev.each_onUnit_rest, Dev.mendSlots_rest]; rfl
  · rw [Dev.cluster_congr (Dev.each_onUnit_clusters _ _ _) b, Dev.cluster_onCluster, if_neg hb, Dev.cluster_mendSlots]

/-- All that setting a sticky bit and raising its class C or D event can do to the records. -/
theorem Dev.event_mild_records (d : Dev) (f : Fld) (i : Nat) (e : FltEvent) (h : (d.put f i 1).mild e.src.toNat) :
    (d.event f i e).units = d.units ∧ (d.event f i e).clusters = d.clusters ∧ (d.event f i e).regions = d.regions ∧
      (d.event f i e).dies = d.dies ∧ (d.event f i e).port = d.port ∧ (d.event f i e).opt = d.opt := by
  unfold Dev.event
  split
  · exact ⟨rfl, rfl, rfl, rfl, rfl, rfl⟩
  · exact (d.put f i 1).raise_mild_records e h

/-- Of the registers only the bit's and FLT_SUPPR can change. -/
theorem Dev.event_mild_word (d : Dev) (f : Fld) (i : Nat) (e : FltEvent) (h : (d.put f i 1).mild e.src.toNat) {a : Nat}
    (h1 : a ≠ f.addr i) (h2 : a ≠ F.FLT_SUPPR_MASKED.addr 0) : (d.event f i e).word a = d.word a := by
  unfold Dev.event
  split
  · rfl
  · rw [(d.put f i 1).raise_mild_word e h h2, Dev.word_put_ne _ _ _ _ h1]

/-- The class in force of a source depends on the image's matrix alone. -/
theorem Dev.mild_congr {d e : Dev} (h : d.flt.matrix = e.flt.matrix) (n : Nat) : d.mild n ↔ e.mild n := by
  simp only [Dev.mild, Dev.classOf, Dev.matrix, h]

/-- A completion ends its entry, appends its handle's slot to the queue and leaves the other entries. -/
theorem Dev.complete_entry (d : Dev) (k r : Nat) (x : Word) (e : OpEntry) (he : d.entry k = some e) (hs : e.state ≠ .done) :
    (∃ e', (d.complete k r x).entry k = some e' ∧ e'.state = .done ∧ e'.result = r ∧ e'.detail = x) ∧
      (d.complete k r x).opt.cpl = d.opt.cpl ++ [k] ∧ ∀ j, j ≠ k → (d.complete k r x).entry j = d.entry j := by
  unfold Dev.complete
  rw [he]
  dsimp only
  rw [if_neg hs]
  refine ⟨⟨_, NMap.find_insert_self _ _ _, rfl, rfl, rfl⟩, rfl, fun j hj => NMap.find_insert_ne _ _ hj⟩

/-- A completion touches nothing but the operation table. -/
theorem Dev.complete_rest (d : Dev) (k r : Nat) (x : Word) :
    (d.complete k r x) = { d with opt := (d.complete k r x).opt } := by
  unfold Dev.complete
  split
  · rfl
  · split <;> rfl

/-- Entering a state writes LU_BU_STAT of the unit and its own record only. -/
theorem Dev.enter_word (d : Dev) (u st : Nat) {a : Nat} (ha : a ≠ F.LU_BU_STAT_STATE.addr u) :
    (d.enter u st).word a = d.word a := by
  simp only [Dev.enter]
  split
  · rw [Dev.word_onUnit]
  · rw [Dev.word_onUnit, Dev.word_put_ne _ _ _ _ ha]

theorem Dev.enter_unit (d : Dev) (u st : Nat) {v : Nat} (hv : v ≠ u) : (d.enter u st).unit v = d.unit v := by
  simp only [Dev.enter]
  split
  · rw [Dev.unit_onUnit, if_neg hv]
  · rw [Dev.unit_onUnit, if_neg hv, Dev.unit_put]

/-- A refused access sets PERR and does nothing else. -/
theorem Dev.refuse_eq (d : Dev) : d.refuse = { d with port := { d.port with perr := true } } := rfl

/-! Findings in array words -/

/-- A known poisoned word is counted and nothing else, whatever the reader finds in it. -/
theorem Dev.eccRead_known (d : Dev) (v : Nv) (a o m w : Nat) (f : EccFinding) (h : d.knownBad v a o m w = true) :
    d.eccRead v a o m w f = (v, d.addCount (F.FLT_ECC_POISON_LO_LO.addr 0) 1) := by
  simp [Dev.eccRead, Dev.eccUncorrectable, h]

/-- A word that is not known as poisoned: what a reader does with each finding. -/
theorem Dev.eccRead_fresh (d : Dev) (v : Nv) (a o m w : Nat) (f : EccFinding) (h : d.knownBad v a o m w = false) :
    d.eccRead v a o m w f = match f with
      | .clean | .poisoned => (v, d)
      | .correctable syn => (v, d.eccFixed a o m w syn)
      | .uncorrectable syn =>
        ((d.eccLost v a o m w syn).1, (d.eccLost v a o m w syn).2.raise (arrayUe a o m w syn)) := by
  cases f <;> simp [Dev.eccRead, Dev.eccUncorrectable, h]

/-- Storing bytes in the MRAM writes those bytes and changes no other record. -/
@[simp] theorem Nv.store_mram (v : Nv) (a : Nat) (bs : List Byte) : (v.store a bs).mram = v.mram.writeBytes a bs := rfl
theorem Nv.store_rest (v : Nv) (a : Nat) (bs : List Byte) :
    v.store a bs = { v with mram := (v.store a bs).mram, bad := (v.store a bs).bad } := rfl

end Sys2Proof.Machine
end

