-- ==== Sys2Proof/Tests/Slice0.lean ====
section
/-! SUPPORT. The model's own tests: small steps with results taken from the spec, ill-formed terms that the check refuses, and for
every statement with hypotheses, clause by clause, a state and operands that meet them. -/

namespace Sys2Proof.Tests
open Sys2Proof Sys2Proof.Machine

/-- Writes register fields: field, block number, value. -/
def puts (fs : List (Fld × Nat × Nat)) (d : Dev) : Dev := fs.foldl (fun d f => d.put f.1 f.2.1 f.2.2) d

/-- A device at work: the line dies are on, the regions released, a reference clocks the hub, the port answers,
the start has ended. -/
def base : Dev :=
  puts [(F.CLK_STAT_FALLBACK, 0, 0), (F.CLK_STAT_REFA_ST, 0, 2), (F.HUB_CLUSTER_MODE_DUPLEX, 0, 0xFFFFFFFF),
    (F.SEC_BL_STAT_STEP, 0, 0)]
    { dies := (List.range 4).map (fun n => (n, { on := true }))
      regions := (List.range 8).map (fun q => (q, { unreleased := false }))
      port := { answers := true }, start := { begun := true }, hub := { moved := true } }

/-- That device with fields written and more changed. -/
def w (fs : List (Fld × Nat × Nat)) (f : Dev → Dev := id) : State := { dev := f (puts fs base) }

/-- An alignment marker's bits on HOST_RX for a port of one unit, and their complement. -/
def amList : List Bool := (List.range 240).map (Config.amBits 1 0).getLsbD
def amNot : List Bool := amList.map (!·)

/-- The counts of an input check that passes. -/
def goodCheck : CheckAcc := { n := 65536, counts := [25, 25, 25, 25], mags := [50, 10, 10, 50] }


/-- Changes to unit 255, cluster 31, region 7, line die 3 and the device. -/
def onU (f : UnitSt → UnitSt) (d : Dev) : Dev := d.onUnit 255 f
def onC (f : ClusterSt → ClusterSt) (d : Dev) : Dev := d.onCluster 31 f
def onQ (f : RegionSt → RegionSt) (d : Dev) : Dev := d.onRegion 7 f
def onL (f : DieSt → DieSt) (d : Dev) : Dev := d.onDie 3 f
def onDev (f : Dev → Dev) (d : Dev) : Dev := f d

/-- The row of the register at an address. -/
def row (a : Nat) : RegRow := (regAt a).getD ⟨0, 0, 0, []⟩

/-- A lane whose HOST_RX buffer ends at a bit time, in a state of R218. -/
def hostState (st : Nat) (bits : List Bool) (e : Nat) (firsts : List Nat) (bad : Nat) : State :=
  w [(F.CL_PORT_MAP_PORTS, 31, 0x80000000), (F.DIE_XBAR_U_VALID 63, 3, 1), (F.LU_HOST_STAT_HRX_STATE, 255, st)]
    (onU (fun x => { x with host := { rxBuf := bits, rxAt := e, firstAm := firsts, badAm := bad } }))

/-- A SIMPLEX lane of a port of two units that has read a marker. -/
def simplexMark (bits : BitVec 240) (place : Option Nat) : State :=
  w [(F.HUB_CLUSTER_MODE_DUPLEX, 0, 0x7FFFFFFF), (F.CL_PORT_MAP_PORTS, 31, 0x9900), (F.LU_LINE_FRAME_RX_FMT, 251, 2)]
    (onC (fun x => { x with lineDsk := [2] }) ∘
      onDev (fun d => d.onUnit 251 (fun x => { x with rx := { marks := [(7, bits)], place := place } })))

theorem sum_zeros (n k : Nat) : (List.replicate n 0).foldl (· + ·) k = k := by
  induction n generalizing k with
  | zero => rfl
  | succ n ih => simpa [List.replicate_succ] using ih k

theorem sum_ones (n k : Nat) : (List.replicate n 1).foldl (· + ·) k = k + n := by
  induction n generalizing k with
  | zero => rfl
  | succ n ih => rw [List.replicate_succ, List.foldl_cons, ih]; omega

theorem bitDiff_self (l : List Bool) : bitDiff l l = 0 := by
  have h : List.zipWith (fun x y => b2n (x != y)) l l = List.replicate l.length 0 := by
    induction l with
    | nil => rfl
    | cons a l ih => rw [List.zipWith_cons_cons, ih]; cases a <;> rfl
  rw [bitDiff, h, sum_zeros]

theorem bitDiff_not (l : List Bool) : bitDiff (l.map (!·)) l = l.length := by
  have h : List.zipWith (fun x y => b2n (x != y)) (l.map (!·)) l = List.replicate l.length 1 := by
    induction l with
    | nil => rfl
    | cons a l ih => rw [List.map_cons, List.zipWith_cons_cons, ih]; cases a <;> rfl
  rw [bitDiff, h, sum_ones, Nat.zero_add]

/-- Every bit of a marker and of its complement differs. -/
theorem marker_not (b : BitVec 240) :
    bitDiff ((List.range 240).map (~~~ b).getLsbD) ((List.range 240).map b.getLsbD) = 240 := by
  have h : (List.range 240).map (~~~ b).getLsbD = ((List.range 240).map b.getLsbD).map (!·) := by
    rw [List.map_map]
    exact List.map_congr_left fun i hi => by
      have h : i < 240 := List.mem_range.1 hi
      simp [h]
  rw [h, bitDiff_not]; simp

theorem amList_length : amList.length = 240 := by simp [amList]

theorem host_valid (s : State) (l : List Bool) (m : Nat) (hb : (s.dev.unit 255).host.rxBuf = l)
    (he : (s.dev.unit 255).host.rxAt = m + 240) (hl : l.length = 240)
    (hw : s.dev.width 255 = 1 ∧ s.dev.pos 255 = 0) :
    s.dev.hostValid 255 m = some (decide (bitDiff l amList ≤ 3)) := by
  have h : ((s.dev.unit 255).host.rxBuf.drop (m - ((s.dev.unit 255).host.rxAt - (s.dev.unit 255).host.rxBuf.length))).take 240 =
      l := by
    rw [hb, he, hl, Nat.add_sub_cancel, Nat.sub_self, List.drop_zero, List.take_of_length_le (Nat.le_of_eq hl)]
  simp only [Dev.hostValid, h, hw.1, hw.2]
  rw [if_pos ⟨by rw [hb, he, hl]; omega, hl⟩]; rfl

theorem host_yes (s : State) (hb : (s.dev.unit 255).host.rxBuf = amList) {m : Nat}
    (he : (s.dev.unit 255).host.rxAt = m + 240) (hw : s.dev.width 255 = 1 ∧ s.dev.pos 255 = 0 := by decide) :
    s.dev.hostValid 255 m = some true := by
  rw [host_valid s _ m hb he amList_length hw, bitDiff_self]; rfl

theorem host_no (s : State) (hb : (s.dev.unit 255).host.rxBuf = amNot) {m : Nat}
    (he : (s.dev.unit 255).host.rxAt = m + 240) (hw : s.dev.width 255 = 1 ∧ s.dev.pos 255 = 0 := by decide) :
    s.dev.hostValid 255 m = some false := by
  rw [host_valid s _ m hb he (by simp [amNot, amList]) hw, amNot, bitDiff_not, amList_length]; rfl


/-- Trims of the retune witness, all of channel 7 at zero. -/
def trimsOf7 : NMap Int := (List.range 256).map (fun k => (256 * 7 + k, 0))

theorem trimsOf7_find : ∀ k, k < 68 → ∀ o, NMap.find trimsOf7 (trimKey 7 k o) = some 0 := by decide +kernel

/-- The state of the retune witness. -/
def retuneRun : CalRun := { trigger := 3, todo := [7], stage := 3, checks := 4 }
def retuning : State :=
  w [] (onC (fun x => { x with trims := trimsOf7, cal := some retuneRun }) ∘ onDev (fun d => { d with refa := 262277 }))

theorem retuning_trim (k : Nat) (o : Bool) (h : k < 68) : retuning.dev.trim 31 (trimKey 7 k o) = 0 := by
  show (NMap.find trimsOf7 (trimKey 7 k o)).getD _ = 0
  rw [trimsOf7_find k h o]; rfl

/-- What holds of the state that a command leaves. -/
def after (c : Instr) (s : State) (p : State → Bool) : Bool :=
  match exec c s with
  | .next t => p t
  | _ => false

/-! Ill-formed commands: each check of WellFormed refuses its term -/

theorem test_writeInc_of_no_words : (Instr.writeInc 0 0x200 [] .wellFormed).wellFormed = false := by decide
theorem test_writeInc_of_65_words : (Instr.writeInc 0 0x200 (List.replicate 65 0) .wellFormed).wellFormed = false := by decide
theorem test_writeFix_of_no_words : (Instr.writeFix 0 0x200 [] .wellFormed).wellFormed = false := by decide
theorem test_writeFix_of_65_words : (Instr.writeFix 0 0x200 (List.replicate 65 0) .wellFormed).wellFormed = false := by decide
theorem test_event_of_unused_source : (Instr.faultEvent ⟨0xFF, .package 0, 0, 0⟩).wellFormed = false := by decide
theorem test_writeInc_refused : exec (.writeInc 0 0x200 [] .wellFormed) State.reset = .refused (.illFormed "WRITE_INC") := rfl
theorem test_writeFix_refused : exec (.writeFix 0 0x200 [] .wellFormed) State.reset = .refused (.illFormed "WRITE_FIX") := rfl
theorem test_event_refused :
    exec (.faultEvent ⟨0xFF, .package 0, 0, 0⟩) State.reset = .refused (.illFormed "FAULT_EVENT") := rfl

/-! Small steps with results from the spec -/

/-- R7: HUB_PART_ID reads vendor 0x4E5 and part 0x256; a response is RDY and the bytes, lowest first (R17, R315). -/
theorem test_read_part_id : after (.read 0 0 .wellFormed) (w [])
    (fun t => decide (t.dev.port.resp = some [0x80, 0x00, 0x56, 0x52, 0x4E])) = true := by decide

/-- R162 and R188: from preset 3 the decrement of c(+1) leaves the sum's limit; after c(0) = 49 it does not. -/
theorem test_taps_full : firOk (firStep (presetWord 3) 3 false) = false := by decide
theorem test_taps_helped : firTaps (firStep (firStep (presetWord 3) 2 false) 3 false) = [0, -9, 49, -6, 0] := by decide

/-- The worked example after R115: a survey at p = 16 with the peak at tap 39 records delay 935. -/
theorem test_survey_example : after (.surveyDwellEnd 245 16)
    (w [(F.LU_RB_STAT_GEAR, 245, 1), (F.CL_RB_ALLOC_WIN_COUNT, 30, 4), (F.CL_RB_ALLOC_DENSE_TAPS, 30, 16), (F.CL_RB_ALLOC_NEXT_TAPS, 30, 0)]
      (onDev (fun d => ({ d with refa := 36861 }.setWinWord 245 0 (BitVec.ofNat 32 (2 ^ 30 + 896 * 4096))).onCluster 30
        (fun x => { x with pool := [(2535, 861)] }))))
    (fun t => decide ((t.dev.unit 245).canc.survey = [⟨16, 316, 935⟩])) = true := by decide +kernel

/-- The same example: LU_RB_WIN0 of unit 245 reads 0xD039_7134 once locked, with its peak at tap 16 and 30.8 dB. -/
theorem test_window_example : after (.windowCheck 245)
    (w [(F.CL_RB_ALLOC_WIN_COUNT, 30, 1), (F.CL_RB_ALLOC_DENSE_TAPS, 30, 16), (F.CL_RB_ALLOC_NEXT_TAPS, 30, 0)]
      (onDev (fun d => ({ d with refa := 4093 }.setWord ((F.LU_RB_WIN_STATE 0).addr 245) 0x80397FFF).onCluster 30
        (fun x => { x with pool := [(1792, 944)] }))))
    (fun t => decide (t.dev.winWord 245 0 = 0xD0397134)) = true := by decide +kernel

/-- The worked example of R265: entry 2 of the map reads 0x200F_1D38 and 0x03E8_8134. -/
theorem test_map_example :
    entryWords ⟨1, 0, false, 15, 7480, 308⟩ (base.get F.CL_DIAG_CFG_VP 30) = (0x200F1D38, 0x03E88134) := by decide

/-- The worked example of the PLL unlock: words W1 and W2 of its history entry, and W1 to W3 of a slip's. -/
theorem test_history_example : ((base.histWords ⟨0x14, .cluster 30 6, 0, 0⟩ (base.locCode (.cluster 30 6)) 1 false false true).drop 1).take 2 =
    [0x14420000, 0x11EC0000] := by decide
theorem test_history_example_slip : ((base.histWords ⟨0x23, .unit 240 1, 1, 0⟩ (base.locCode (.unit 240 1)) 2 true false false).drop 1).take 3 =
    [0x23880000, 0x0F020000, 1] := by decide

/-- The worked example of a start that learns: word 7 of the record of start 41, and where it lies in the MRAM window. -/
theorem test_ledger_example : stepEntry 7 5 2 16 53 = 0x0000003500102507 := by decide
theorem test_ledger_place : 0x80000 + recordBase 41 + 8 * 7 = 0xB8A38 := by decide

/-- The worked example of R425: unit 244 refuses with WAKE; MEMBER 20, REASON 6, OUTCOME 0, MLEVEL 0. -/
theorem test_rollback_example : after (.sleepDecision (.doze 30))
    (w [(F.PWR_CFG_DOZE_EN, 0, 255)] (onDev (fun d => { d with
      img := { d.img with pwrWords := List.replicate 9 7 }
      clusters := [(30, { txn := some { id := 1, votes := [(.unit 244, .refuse 6)] } })] })))
    (fun t => decide (t.dev.get F.PWR_TXN_MEMBER 0 = 20 ∧ t.dev.get F.PWR_TXN_REASON 0 = 6 ∧ t.dev.get F.PWR_TXN_OUTCOME 0 = 0 ∧
      t.dev.get F.PWR_TXN_MLEVEL 0 = 0)) = true := by decide

/-- R340: HUB_MP_CFG stores 6 for a BURST_EXP of 15 and 4 for a DUMMY of 0. -/
theorem test_write_normalised : after (.write 0 0x200 0xF000 .wellFormed) (w [])
    (fun t => decide (t.dev.word 0x200 = 0x6004)) = true := by decide

/-- R14: a write to an unassigned address sets PERR, which the next status byte shows (R17). -/
theorem test_unassigned_write : after (.write 0 0x2C0000 1 .wellFormed) (w [])
    (fun t => after (.status 0 .wellFormed) t (fun t => (t.dev.port.resp.getD []).any (fun b => b.getLsbD 6))) = true := by decide

/-- A step takes the command at the front and leaves the rest. -/
theorem test_step_front : (match step { w [] (onDev (fun d => { d with time := 3125000000 })) with pending
    := [.sigToken, .hqUnfreeze] } with
    | .next t => decide (t.pending = [.hqUnfreeze] ∧ t.dev.get F.SEC_LC_BUCKET 0 = 9)
    | _ => false) = true := by decide

/-- The worked example after R326: the command byte 0x46 and three address bytes read HUB_PART_ID of package 2; cut short by
one byte the transaction is short (R314, R315, R319). -/
theorem test_request_example : decodeRequest [0x46, 0x00, 0x00, 0x00] false = some (.read 2 0 .wellFormed) := by decide
theorem test_request_short : decodeRequest [0x46, 0x00, 0x00] false = some (.read 2 0 .short) := by decide

/-- R315: a count byte holds N - 1, data words come least significant byte first; bits [7:6] of the count byte must be 00. A bus stuck
high is invalid (R314). -/
theorem test_request_burst : decodeRequest [0xF2, 0x00, 0x02, 0x00, 0x01, 5, 0, 0, 0x80, 6, 0, 0, 0] false =
    some (.writeInc 7 0x200 [0x80000005, 6] .wellFormed) := by decide
theorem test_request_count : decodeRequest [0xEE, 0x00, 0x02, 0x00, 0x41] false = some (.readInc 7 0x200 1 .invalid) := by decide
theorem test_request_high : decodeRequest [0xFF] false = some (.status 7 .invalid) := by decide

/-! Witnesses, by statement and clause -/

theorem test_IdleStepTicks :
    ∃ (s : State), s.pending = [] :=
  ⟨(w []), by decide⟩

theorem test_CommandsKeepWhatTheyDoNotWrite_1 :
    ∃ (c : Instr) (s t : State), exec c s = .next t :=
  ⟨.hqUnfreeze, State.reset, _, rfl⟩

theorem test_CommandsComplete_1 :
    ∃ (c : Instr), c.wellFormed = true :=
  ⟨.writeInc 7 0 (List.replicate 64 0) .wellFormed, by decide⟩

theorem test_CommandsComplete_2 :
    ∃ (c : Instr), c.wellFormed = false :=
  ⟨.writeFix 7 0 (List.replicate 65 0) .wellFormed, by decide⟩

theorem test_MramStaysCanonical :
    ∃ (s t : State), s.memOk ∧ step s = .next t :=
  ⟨{ State.reset with pending := [.sigToken] }, _, by decide, rfl⟩

theorem test_SecurityStateNeverGoesBack_1 :
    ∃ (s t : State), step s = .next t :=
  ⟨{ State.reset with pending := [.hqUnfreeze] }, _, rfl⟩

theorem test_SecurityStateNeverGoesBack_2_1 :
    ∃ (s t : State), step s = .next t :=
  ⟨{ State.reset with pending := [.hqUnfreeze] }, _, rfl⟩

theorem test_SecurityStateNeverGoesBack_2_2 :
    ∃ (s t : State), step s = .next t :=
  ⟨{ State.reset with pending := [.hqUnfreeze] }, _, rfl⟩

theorem test_CommandsKeepWhatTheyDoNotWrite_2 :
    ∃ (c : Instr) (s t : State), Claims.writesKeep c = false ∧ exec c s = .next t :=
  ⟨.sigToken, State.reset, _, rfl, rfl⟩

theorem test_SlavesAnswerTheirPackage_1 :
    ∃ (c : Instr) (s : State) (pkg : Fin 8) (fr : Framing), Claims.slave c = some (pkg, fr) ∧
    s.dev.port.queue = [] ∧
    (s.dev.port.answers = false ∨ (fr ≠ .invalid ∧ pkg.val ≠ s.dev.get F.HUB_GRADE_PKG_ID 0)) :=
  ⟨.status 6 .wellFormed, (w [(F.HUB_GRADE_PKG_ID, 0, 7)]), 6, .wellFormed, by decide⟩

theorem test_SlavesAnswerTheirPackage_2_1_1 :
    ∃ (c : Instr) (pkg : Fin 8), Claims.slave c = some (pkg, .wellFormed) :=
  ⟨.status 6 .wellFormed, 6, by decide⟩

theorem test_SlavesAnswerTheirPackage_2_1_2 :
    ∃ (c : Instr) (pkg : Fin 8) (n : Nat), Claims.slave c = some (pkg, .wellFormed) ∧ 1 ≤ n ∧
    n < (requestBytes c).length :=
  ⟨.read 7 0x200 .wellFormed, 7, 3, by decide⟩

theorem test_SlavesAnswerTheirPackage_2_1_3 :
    ∃ (c : Instr) (pkg : Fin 8) (more : List Byte) (extra : Bool), Claims.slave c = some (pkg, .wellFormed) ∧
    (more ≠ [] ∨ extra = true) :=
  ⟨.writeInc 7 0x200 [0, 5] .wellFormed, 7, [0], false, by decide⟩

theorem test_SlavesAnswerTheirPackage_2_2 :
    ∃ (b : Byte), (b.toNat % 4 ≠ 2 ∨ b.toNat / 4 % 8 = 7) :=
  ⟨0x1E, by decide⟩

theorem test_FailedTransactionsHaveNoOtherEffect :
    ∃ (c : Instr) (s : State) (pkg : Fin 8) (fr : Framing), Claims.slave c = some (pkg, fr) ∧
    fr ≠ .wellFormed ∧ s.dev.port.answers = true ∧ s.dev.port.queue = [] ∧
    (fr = .invalid ∨ pkg.val = s.dev.get F.HUB_GRADE_PKG_ID 0) :=
  ⟨.writeFix 7 0xFFFFFF [0] .long, (w [(F.HUB_GRADE_PKG_ID, 0, 7)]), 7, .long, by decide⟩

theorem test_ReadTimeouts :
    ∃ (s : State) (pkg : Fin 8), Claims.addressed s.dev pkg :=
  ⟨(w [(F.HUB_GRADE_PKG_ID, 0, 7)]), 7, by decide⟩

theorem test_SlavesAnswerTheirPackage_3 :
    ∃ (s : State) (pkg : Fin 8), Claims.addressed s.dev pkg :=
  ⟨(w [(F.HUB_GRADE_PKG_ID, 0, 7)]), 7, by decide⟩

theorem test_ReadsReturnRegisters_1_1 :
    ∃ (s : State) (pkg : Fin 8) (addr : BitVec 24), Claims.addressed s.dev pkg ∧
    Claims.calmAt s.dev addr.toNat :=
  ⟨(w [(F.HUB_GRADE_PKG_ID, 0, 7)]), 7, 0xFFFFFF, by decide⟩

theorem test_ReadsReturnRegisters_1_2 :
    ∃ (s : State) (pkg : Fin 8) (addr : BitVec 24) (cnt : Fin 64), Claims.addressed s.dev pkg ∧
    (∀ a ∈ burst addr.toNat (cnt.val + 1), Claims.calmAt s.dev a ∧ s.dev.offAt a = false ∧ s.dev.tstAt a = false ∧ gateOf a = none ∧ (regAt a).any (fun r => decide (r.mask .rc = 0)) = true) ∧
    s.dev.flt.poison = [] ∧ s.dev.flt.histBad = [] :=
  ⟨(w [(F.HUB_GRADE_PKG_ID, 0, 7)]), 7, 0x200, 1, by decide⟩

theorem test_ReadsReturnRegisters_1_3 :
    ∃ (s : State) (pkg : Fin 8) (addr : BitVec 24), Claims.addressed s.dev pkg ∧
    Claims.calmAt s.dev addr.toNat ∧ s.dev.offAt addr.toNat = false ∧
    s.dev.tstAt addr.toNat = false ∧ gateOf addr.toNat = none ∧
    (regAt addr.toNat).any (fun r => decide (r.mask .rc = 0)) = true ∧ s.dev.flt.poison = [] ∧
    s.dev.flt.histBad = [] :=
  ⟨(w [(F.HUB_GRADE_PKG_ID, 0, 7)]), 7, 0x200, by decide⟩

theorem test_ReadsReturnRegisters_2 :
    ∃ (s : State) (pkg : Fin 8) (addr : BitVec 24) (r : RegRow), Claims.addressed s.dev pkg ∧
    Claims.calmAt s.dev addr.toNat ∧ s.dev.offAt addr.toNat = false ∧
    s.dev.tstAt addr.toNat = false ∧ gateOf addr.toNat = none ∧ s.dev.flt.poison = [] ∧
    s.dev.flt.histBad = [] ∧ regAt addr.toNat = some r :=
  ⟨(w [(F.HUB_GRADE_PKG_ID, 0, 7)]), 7, 0x208, (row 0x208), by decide⟩

theorem test_UnassignedAddresses_1 :
    ∃ (a : Nat), (a % 4 ≠ 0 ∨ 0x2C0000 ≤ a) :=
  ⟨0x2C0000, by decide⟩

theorem test_UnassignedAddresses_2_1_1 :
    ∃ (s : State) (pkg : Fin 8) (addr : BitVec 24), regAt addr.toNat = none ∧
    Claims.addressed s.dev pkg :=
  ⟨(w [(F.HUB_GRADE_PKG_ID, 0, 7)]), 7, 0x2C0000, by decide⟩

theorem test_UnassignedAddresses_2_1_2 :
    ∃ (s : State) (pkg : Fin 8) (addr : BitVec 24), regAt addr.toNat = none ∧
    Claims.addressed s.dev pkg ∧ s.dev.waits addr.toNat = false :=
  ⟨(w [(F.HUB_GRADE_PKG_ID, 0, 7)]), 7, 0x2C0000, by decide⟩

theorem test_UnassignedAddresses_2_2 :
    ∃ (addr : BitVec 24), regAt addr.toNat = none :=
  ⟨0xFFFFFD, by decide⟩

theorem test_CounterShadows_1 :
    ∃ (s : State) (pkg : Fin 8) (addr : BitVec 24), Claims.addressed s.dev pkg ∧
    Claims.counterLow addr.toNat ∧ s.dev.offAt addr.toNat = false ∧ s.dev.tstAt addr.toNat = false :=
  ⟨w [(F.HUB_GRADE_PKG_ID, 0, 7)], 7, BitVec.ofNat 24 (blkBase .lu 255 + 0x468), by decide, .inr (.inr (.inr ⟨255, 13, by decide⟩)),
    by decide⟩

theorem test_CounterShadows_2 :
    ∃ (s : State) (pkg : Fin 8) (addr : BitVec 24) (h : Word), Claims.addressed s.dev pkg ∧
    4 ≤ addr.toNat ∧ Claims.counterLow (addr.toNat - 4) ∧ s.dev.offAt addr.toNat = false ∧
    s.dev.tstAt addr.toNat = false ∧ s.dev.shadows.find (addr.toNat - 4) = some [h] :=
  ⟨w [(F.HUB_GRADE_PKG_ID, 0, 7)] (onDev (fun d => { d with shadows := [(0x30058, [5])] })), 7, 0x3005C, 5, by decide, by decide,
    .inr (.inr (.inl rfl)), by decide⟩

theorem test_WritesAndBurstsStore_1_1 :
    ∃ (s : State) (addr : BitVec 24) (w : Word) (r : RegRow) (b : Blk) (i off : Nat), Claims.takes s.dev addr.toNat w r b i off :=
  ⟨(w []), (BitVec.ofNat 24 0x1FF180), 0x7E, (row 0x1FF180), .lu, 255, (0x1FF180 % 0x1000), by decide⟩

theorem test_WritesAndBurstsStore_1_2 :
    ∃ (s : State) (pkg : Fin 8) (addr : BitVec 24) (w : Word) (r : RegRow) (b : Blk) (i off : Nat) (c : Instr), c ∈ Claims.writesOf pkg addr w ∧
    Claims.takes s.dev addr.toNat w r b i off ∧ Claims.addressed s.dev pkg ∧
    s.dev.waits addr.toNat = false :=
  ⟨(w [(F.HUB_GRADE_PKG_ID, 0, 7)]),
    7,
    (BitVec.ofNat 24 0x1FF180),
    0x7E,
    (row 0x1FF180),
    .lu,
    255,
    (0x1FF180 % 0x1000),
    .writeInc 7 (BitVec.ofNat 24 0x1FF180) [0x7E] .wellFormed, by decide⟩

theorem test_WritesAndBurstsStore_2_1 :
    ∃ (s : State) (pkg : Fin 8) (addr : BitVec 24) (ws : List Word), Claims.addressed s.dev pkg ∧
    1 ≤ ws.length ∧ ws.length ≤ 64 ∧ addr.toNat + 4 * ws.length ≤ 2 ^ 24 ∧
    (∀ x ∈ burst addr.toNat ws.length, kerbsOf x = none ∧ x ≠ 0x140) :=
  ⟨(w [(F.HUB_GRADE_PKG_ID, 0, 7)]), 7, 0x200, (List.replicate 64 5), by decide⟩

theorem test_WritesAndBurstsStore_2_2 :
    ∃ (s : State) (pkg : Fin 8) (addr : BitVec 24) (ws : List Word), Claims.addressed s.dev pkg ∧
    1 ≤ ws.length ∧ ws.length ≤ 64 ∧ addr.toNat + 4 * ws.length ≤ 2 ^ 24 ∧
    kerbsOf addr.toNat = none ∧ addr.toNat ≠ 0x140 :=
  ⟨(w [(F.HUB_GRADE_PKG_ID, 0, 7)]), 7, 0x200, [5, 6], by decide⟩

theorem test_LocksAndCopies_1 :
    ∃ (s : State) (w : Word) (r : RegRow), s.dev.is F.HUB_CFG_LOCK_LK_MP 0 = true ∧
    regAt 0x200 = some r ∧ s.dev.mild 0x60 ∧
    (normal .hub 0x200 (s.dev.voted 0x200) w ^^^ s.dev.voted 0x200) &&& r.mask .rwl ≠ 0 :=
  ⟨(w [(F.HUB_CFG_LOCK_LK_MP, 0, 1)]), 0x5014, (row 0x200), by decide⟩

theorem test_WaitingWordsTakeEffect_1 :
    ∃ (s : State) (a : Nat) (w : Word) (r : RegRow), s.dev.port.posted = some (a, w) ∧
    s.dev.offAt a = false ∧ regAt a = some r :=
  ⟨(w [] (onDev (fun d => { d with port := { d.port with posted := some (0x60000, 0xFFFFFFFF) } }))),
    0x60000,
    0xFFFFFFFF,
    (row 0x60000), by decide⟩

theorem test_LocksAndCopies_2 :
    ∃ (s : State) (x : Word) (r : RegRow), s.dev.rwtB = [(0x10000, x)] ∧ s.dev.rwtC = [] ∧
    regAt 0x10000 = some r ∧ s.dev.mild 0x62 ∧ s.dev.offAt 0x10000 = false :=
  ⟨(w [] (onDev (fun d => { d with rwtB := [(0x10000, 0xFFFFFFFF)] }))), 0xFFFFFFFF, (row 0x10000), by decide⟩

theorem test_GatesClose_1 :
    ∃ (s : State) (i : Fin 4), (s.dev.gateFree i || s.dev.gateBusy i) = true :=
  ⟨(w [(F.CLK_GATE_RUN_EN, 0, 0)] (onDev (fun d => { d with img := { d.img with load := some { slot := none, source := 2 } } }))),
    3, by decide⟩

theorem test_GatesClose_2 :
    ∃ (s : State) (i : Fin 4), s.dev.gateFree i = false ∧ s.dev.gateBusy i = false :=
  ⟨(w [(F.CLK_GATE_RUN_EN, 0, 0)]), 3, by decide⟩

theorem test_GatesClose_3 :
    ∃ (s : State) (q : RegionId), (s.dev.region q).gating = true :=
  ⟨(w [] (onQ (fun x => { x with gating := true }))), 7, by decide⟩

theorem test_WaitingWordsTakeEffect_2 :
    ∃ (s : State) (n : DieId) (a : Nat) (w : Word) (r : RegRow) (b : Blk) (i off : Nat), s.dev.port.queue = [(a, w)] ∧
    Claims.takes s.dev a w r b i off ∧ dieOf b i = n.val ∧ s.dev.waits a = false :=
  ⟨(w [] (onDev (fun d => { d with port := { d.port with queue := [(0x1FF180, 0x7E)] } }))),
    3,
    0x1FF180,
    0x7E,
    (row 0x1FF180),
    .lu,
    255,
    (0x1FF180 % 0x1000), by decide⟩

theorem test_MasterAccesses_1_1 :
    ∃ (s : State) (acc : BusAccess), s.dev.masters acc = true ∧
    s.dev.is F.HUB_MP_EVT_YIELD 0 = true ∧ (Claims.yieldBus s.dev acc).1 % 16 ≠ 0 :=
  ⟨(w [(F.HUB_MP_EVT_YIELD, 0, 1)] (onDev (fun d => { d with
      bus := { d.bus with firmware := true, pageYields := 14 }, img := { d.img with fwSlot := 1, pageTable := [0] } }))), .page, by decide⟩

theorem test_MasterAccesses_1_2 :
    ∃ (s : State) (l : LoadSt) (r : FlashRead), s.dev.img.load = some l ∧ s.dev.fetching = true ∧
    256 ≤ l.bytes.length ∧ Claims.flashGood s.dev r (s.dev.burstLength l) :=
  ⟨(w [(F.HUB_MP_FLASH_DISC_OK, 0, 1)] (onDev (fun d => { d with img := { d.img with load := some { slot := none, source := 2, bytes := List.replicate 9 0 ++ 5 :: List.replicate 246 0 } } }))),
    { slot := none, source := 2, bytes := List.replicate 9 0 ++ 5 :: List.replicate 246 0 },
    { disc := none, strobes := true, bytes := List.replicate 1024 0 }, by decide +kernel⟩

theorem test_MasterAccesses_1_3 :
    ∃ (s : State) (page : Fin 256) (r : FlashRead), s.dev.pageFetching = true ∧
    (∀ e ∈ s.dev.bus.pages, e.2 ≠ page.val) ∧ Claims.flashGood s.dev r 1 ∧
    (Config.sha256 (padTo 4096 (r.bytes.take 4096))).take 16 = sub s.dev.img.pageTable (16 * page.val) 16 :=
  ⟨w [(F.HUB_MP_FLASH_DISC_OK, 0, 1), (F.HUB_IMG_INFO_RESIDENT, 0, 0)] (onDev (fun d => { d with
      bus := { d.bus with firmware := true },
      img := { d.img with pageTable := List.replicate 4080 0 ++ (Config.sha256 (padTo 4096 [0])).take 16 } })), 255,
    { disc := none, strobes := true, bytes := [0] }, by decide, by decide, by decide, by
      show _ = List.take 16 (List.drop 4080 (List.replicate 4080 0 ++ _))
      rw [List.drop_left' List.length_replicate, List.take_take, Nat.min_self]; rfl⟩

theorem test_MasterAccesses_2_1 :
    ∃ (s : State), s.dev.bus.faultLow = false ∧ s.dev.safe = false ∧ s.dev.mild 0x66 :=
  ⟨(w []), by decide⟩

theorem test_MasterAccesses_2_2 :
    ∃ (s : State), s.dev.bus.faultLow = true :=
  ⟨(w [] (onDev (fun d => { d with bus := { d.bus with faultLow := true } }))), by decide⟩

theorem test_PackageResetsAndHubLinks_1_1 :
    ∃ (ns : Nat), 1000 ≤ ns :=
  ⟨1000, by decide⟩

theorem test_PackageResetsAndHubLinks_1_2 :
    ∃ (ns : Nat), ns < 100 :=
  ⟨99, by decide⟩

theorem test_TheStartBegins_1 :
    ∃ (s : State), s.dev.start.begun = false ∧ s.dev.hub.pinsTaken = false :=
  ⟨(w [] (onDev (fun d => { d with start := {} }))), by decide⟩

theorem test_TheStartBegins_2_1 :
    ∃ (s : State) (r : StepEnd), s.dev.start.begun = true ∧ s.dev.start.halted = false ∧
    s.dev.start.holdRef = false ∧ s.dev.get F.SEC_BL_STAT_STEP 0 = 1 ∧ r.ok = true :=
  ⟨(w [(F.SEC_BL_STAT_STEP, 0, 1)]), { ok := true, ms := 3, mask := 0 }, by decide⟩

theorem test_TheStartBegins_2_2 :
    ∃ (s : State), s.dev.start.begun = true ∧ s.dev.start.halted = false ∧
    s.dev.start.holdRef = false ∧ s.dev.get F.SEC_BL_STAT_STEP 0 = 2 :=
  ⟨(w [(F.SEC_BL_STAT_STEP, 0, 2)]), by decide⟩

theorem test_TheStartBegins_2_3 :
    ∃ (s : State) (r : StepEnd), s.dev.start.begun = true ∧ s.dev.start.halted = false ∧
    s.dev.start.holdRef = false ∧ s.dev.get F.SEC_BL_STAT_STEP 0 = 4 ∧ r.ok = true :=
  ⟨(w [(F.SEC_BL_STAT_STEP, 0, 4)]), { ok := true, ms := 3, mask := 0 }, by decide⟩

theorem test_TheStartBegins_3 :
    ∃ (s : State), s.dev.start.begun = true ∧ s.dev.get F.SEC_BL_STAT_STEP 0 = 13 :=
  ⟨(w [(F.SEC_BL_STAT_STEP, 0, 13)]), by decide⟩

theorem test_PackageResetsAndHubLinks_2_1 :
    ∃ (s : State) (n : DieId), (s.dev.die n).on = true ∧
    ((s.dev.die n).lost = false ∨ (s.dev.die n).recovered = true) ∧ s.dev.mild 0x04 :=
  ⟨(w [] (onDev (fun d => { d with flt := { d.flt with matrix := [(4, 0x4800000)] } }))), 3, by decide⟩

theorem test_PackageResetsAndHubLinks_2_2 :
    ∃ (s : State) (n : DieId), (s.dev.die n).lost = true :=
  ⟨(w [] (onL (fun x => { x with lost := true }))), 3, by decide⟩

theorem test_CrosswalkGo_2 :
    ∃ (mask : BitVec 16), mask ≠ 0 :=
  ⟨0x8001, by decide⟩

theorem test_Crosswalks_1_1 :
    ∃ (s : State) (l : List (Nat × Word × Word)) (r : List (List (Nat × Word × Word))), s.dev.hub.xw = l :: r ∧
    Claims.goodCross s.dev l :=
  ⟨(w [] (onDev (fun d => { d with hub := { d.hub with xw := [[(F.LU_TX_FIR_C0.addr 255, 0xFFFFFFFF, presetWord 4)]] } }))),
    [(F.LU_TX_FIR_C0.addr 255, 0xFFFFFFFF, presetWord 4)], [], rfl, by decide, fun e h _ => ⟨255, .inl (by
      rw [List.mem_singleton.1 h]; decide)⟩⟩

theorem test_Crosswalks_1_2 :
    ∃ (s : State) (u : UnitId) (m v : Word), s.dev.hub.xw = [[(F.LU_HOST_CFG_HRX_PRECODE.addr u, m, v)]] ∧
    s.dev.awayAt (F.LU_HOST_CFG_HRX_PRECODE.addr u) = false ∧
    s.dev.is F.LU_HOST_CFG_HRX_PRECODE u = !(bitOf (v &&& m).toNat 1) ∧ bitOf m.toNat 1 = true ∧
    (s.dev.hrx u = 3 ∨ (s.dev.hrx u = 4 ∨ s.dev.hrx u = 5) ∧ (s.dev.inPort u && s.dev.portUp (s.dev.portOf u)) = false) :=
  ⟨(w [(F.LU_HOST_STAT_HRX_STATE, 255, 3)] (onDev (fun d => { d with hub := { d.hub with
      xw := [[(F.LU_HOST_CFG_HRX_PRECODE.addr 255, 2, 2)]] } }))), 255, 2, 2, by decide⟩

theorem test_Crosswalks_2_1 :
    ∃ (s : State), s.dev.hub.xw = [] :=
  ⟨(w []), by decide⟩

theorem test_Crosswalks_2_2 :
    ∃ (s : State) (l : List (Nat × Word × Word)) (r : List (List (Nat × Word × Word))), s.dev.hub.xw = l :: r ∧
    s.dev.mild 0x37 ∧ (l.map (·.1)).Nodup ∧ Claims.calmCross s.dev l :=
  ⟨(w [] (onDev (fun d => { d with hub := { d.hub with xw := [[(F.LU_TX_FIR_C0.addr 255, 0xFFFFFFFF, presetWord 4), (F.LU_HTX_FIR_C0.addr 255, 0xFFFFFFFF, 0)]] } }))),
    [(F.LU_TX_FIR_C0.addr 255, 0xFFFFFFFF, presetWord 4), (F.LU_HTX_FIR_C0.addr 255, 0xFFFFFFFF, 0)],
    [], by decide +kernel⟩

theorem test_Crosswalks_3_1 :
    ∃ (s : State) (u : UnitId) (m v : Word), s.dev.hub.xw = [[(F.LU_TX_FIR_C0.addr u, m, v)]] ∧
    s.dev.mild 0x37 ∧ s.dev.awayAt (F.LU_TX_FIR_C0.addr u) = false ∧
    firOk ((s.dev.word (F.LU_TX_FIR_C0.addr u) &&& ~~~ m) ||| (v &&& m)) = true :=
  ⟨(w [] (onDev (fun d => { d with hub := { d.hub with xw := [[(F.LU_TX_FIR_C0.addr 255, 0xFFFFFFFF, presetWord 4)]] } }))),
    255,
    0xFFFFFFFF,
    (presetWord 4), by decide⟩

theorem test_Crosswalks_3_2 :
    ∃ (s : State) (u : UnitId) (m v : Word), s.dev.hub.xw = [[(F.LU_TX_FIR_C0.addr u, m, v)]] ∧
    s.dev.mild 0x37 ∧ s.dev.awayAt (F.LU_TX_FIR_C0.addr u) = false ∧
    firOk ((s.dev.word (F.LU_TX_FIR_C0.addr u) &&& ~~~ m) ||| (v &&& m)) = false :=
  ⟨(w [] (onDev (fun d => { d with hub := { d.hub with xw := [[(F.LU_TX_FIR_C0.addr 255, 0xFFFFFFFF, 0xFFFFFFFF)]] } }))),
    255,
    0xFFFFFFFF,
    0xFFFFFFFF, by decide⟩

theorem test_Crosswalks_3_3 :
    ∃ (s : State) (u : UnitId) (m v : Word), s.dev.hub.xw = [[(F.LU_TX_FIR_C0.addr u, m, v)]] ∧
    s.dev.mild 0x37 ∧ s.dev.awayAt (F.LU_TX_FIR_C0.addr u) = true :=
  ⟨(w [] (onU (fun x => { x with inReset := true }) ∘ onDev (fun d => { d with hub := { d.hub with xw := [[(F.LU_TX_FIR_C0.addr 255, 0xFFFFFFFF, 0)]] } }))),
    255,
    0xFFFFFFFF,
    0, by decide⟩

theorem test_BlockResetsAndReleases_1_1 :
    ∃ (s : State) (u : UnitId), s.dev.off .lu u 0 = false ∧ s.dev.tst .lu u = false ∧
    (s.dev.unit u).inReset = false :=
  ⟨(w []), 255, by decide⟩

theorem test_BlockResetsAndReleases_1_2 :
    ∃ (s : State) (c : ClusterId), s.dev.off .cl c 0 = false ∧ s.dev.tst .cl c = false ∧
    (s.dev.cluster c).inReset = false :=
  ⟨(w []), 31, by decide⟩

theorem test_BlockResetsAndReleases_1_3 :
    ∃ (s : State) (u : UnitId), s.dev.off .lu u 0 = true :=
  ⟨(w [(F.LU_BU_CTRL_EN, 255, 1)] (onU (fun x => { x with inReset := true }))), 255, by decide⟩

theorem test_BlockResetsAndReleases_1_4 :
    ∃ (s : State) (c : ClusterId), s.dev.off .cl c 0 = true :=
  ⟨(w [] (onC (fun x => { x with inReset := true }))), 31, by decide⟩

theorem test_BlockResetsAndReleases_2_1 :
    ∃ (s : State) (u : UnitId), (s.dev.unit u).inReset = true ∧
    (s.dev.cluster (u / 8)).inReset = false ∧ s.dev.regionHeld (u / 32) = false :=
  ⟨(w [] (onU (fun x => { x with inReset := true }))), 255, by decide⟩

theorem test_BlockResetsAndReleases_2_2 :
    ∃ (s : State) (u : UnitId), (s.dev.unit u).inReset = true ∧ s.dev.regionHeld (u / 32) = true :=
  ⟨(w [] (onU (fun x => { x with inReset := true }) ∘ onQ (fun x => { x with inReset := true }))), 255, by decide⟩

theorem test_BlockResetsAndReleases_2_3 :
    ∃ (s : State) (q : RegionId) (c : Instr), c ∈ [Instr.resetRelease (.region q), .regionRelease q] ∧
    s.dev.mayRelease q = true ∧ s.keep.nv.bank.regions.find q = none :=
  ⟨(w [] (onQ (fun x => { x with inReset := true }))), 7, .regionRelease 7, by decide⟩

theorem test_References_1_1 :
    ∃ (s : State), s.dev.monitorOff = false ∧ s.dev.hub.swTarget = none ∧
    s.dev.get F.CLK_STAT_ACTIVE 0 = 0 ∧ s.dev.is F.CLK_STAT_SW_PEND 0 = false ∧ s.dev.mild 0x67 :=
  ⟨(w []), by decide⟩

theorem test_References_1_2_1 :
    ∃ (s : State), s.dev.monitorOff = true :=
  ⟨(w [] (onDev (fun d => { d with hub := { d.hub with resetLow := true } }))), by decide⟩

theorem test_References_1_2_2 :
    ∃ (s : State), s.dev.monitorOff = true :=
  ⟨(w [] (onDev (fun d => { d with hub := { d.hub with resetLow := true } }))), by decide⟩

theorem test_References_1_3 :
    ∃ (s : State) (m : FreqMeas), s.dev.monitorOff = false ∧ s.dev.hub.swTarget = none ∧
    s.dev.hub.moved = true ∧ s.dev.get F.CLK_STAT_ACTIVE 0 = 0 ∧ s.dev.get F.CLK_STAT_REFA_ST 0 = 2 ∧
    m.toggleA = true ∧ m.toggleB = true ∧ coarseGood (2 ^ 22) m.fbCount = true ∧
    coarseGood (2 ^ 22 + m.diff) m.fbCount = true ∧ m.diff.natAbs ≤ s.dev.clkCfg F.CLK_CFG_REF_TOL ∧
    m.diff.natAbs < 2 ^ 15 ∧ s.dev.hub.absent = [] :=
  ⟨(w [(F.CLK_STAT_REFB_ST, 0, 1), (F.CLK_STAT_STAB_B, 0, 14), (F.CLK_CFG_REF_TOL, 0, 255)]),
    ⟨-84, 4080000, true, true⟩, by decide⟩

theorem test_References_2_1 :
    ∃ (s : State), s.dev.hub.moved = false ∧ s.dev.get F.CLK_STAT_REFA_ST 0 ≠ 2 ∧
    s.dev.get F.CLK_STAT_REFB_ST 0 = 2 ∧ 781250000 ≤ s.dev.time :=
  ⟨(w [(F.CLK_STAT_REFA_ST, 0, 1), (F.CLK_STAT_REFB_ST, 0, 2)] (onDev (fun d => { d with
      time := 781250000, hub := { d.hub with moved := false } }))), by decide⟩

theorem test_References_2_2 :
    ∃ (s : State), s.dev.get F.CLK_STAT_REFB_ST 0 = 2 ∧ s.dev.fallback = false ∧
    s.dev.activeRef = 0 ∧
    (signed (s.dev.get F.CLK_FREQ_DIFF 0) 16).natAbs ≤ s.dev.clkCfg F.CLK_CFG_SW_TOL ∧
    s.dev.is F.CLK_STAT_SW_PEND 0 = false ∧ s.dev.anyTxn = false ∧ s.dev.get F.PWR_PKG_STATE 0 = 0 :=
  ⟨(w [(F.CLK_STAT_REFB_ST, 0, 2)]), by decide⟩

theorem test_References_2_3 :
    ∃ (s : State) (r : Ref), s.dev.get (refSt (refNum r)) 0 ≠ 2 :=
  ⟨(w []), .refB, by decide⟩

theorem test_References_2_4 :
    ∃ (s : State), s.dev.is F.CLK_STAT_SW_PEND 0 = true ∧ s.dev.hub.swPassed = false :=
  ⟨(w [(F.CLK_STAT_SW_PEND, 0, 1)]), by decide⟩

theorem test_References_2_5 :
    ∃ (s : State) (r : Ref), s.dev.is F.CLK_STAT_SW_PEND 0 = true ∧ s.dev.hub.swPassed = true ∧
    s.dev.hub.swTarget = some r :=
  ⟨(w [(F.CLK_STAT_SW_PEND, 0, 1)] (onDev (fun d => { d with hub := { d.hub with swPassed := true, swTarget := some .refB } }))),
    .refB, by decide⟩

theorem test_References_2_6 :
    ∃ (s : State) (r : Ref), s.dev.is F.CLK_STAT_SW_PEND 0 = true ∧ s.dev.hub.swPassed = false ∧
    s.dev.hub.swTarget = some r ∧ s.dev.monitorOff = false ∧ s.dev.mild 0x67 ∧
    (s.dev.running = false ∨ s.dev.activeRef ≠ refNum r) :=
  ⟨(w [(F.CLK_STAT_SW_PEND, 0, 1)] (onDev (fun d => { d with hub := { d.hub with swTarget := some .refA, moved := false } }))),
    .refA, by decide⟩

theorem test_References_3 :
    ∃ (s : State) (c : ClusterId), s.dev.dieServes (c / 8) = true ∧ s.dev.deep (c / 4) = false ∧
    s.dev.mild 0x14 :=
  ⟨(w [] (onDev (fun d => { d with flt := { d.flt with matrix := [(0x14, 0x14C00000)] } }))), 31, by decide⟩

theorem test_TokensOfTheLine_1_1 :
    ∃ (s : State) (u : UnitId), (s.dev.pathLive u && s.dev.frontOn u) = false :=
  ⟨(w [(F.LU_BU_CTRL_EN, 255, 1)] (onU (fun x => { x with inReset := true }))), 255, by decide⟩

theorem test_TokensOfTheLine_1_2 :
    ∃ (s : State) (u : UnitId), (s.dev.pathLive u && s.dev.frontOn u) = true ∧
    (s.dev.unit u).dropRx = true :=
  ⟨(w [(F.LU_BU_CTRL_EN, 255, 1)] (onU (fun x => { x with dropRx := true }))), 255, by decide⟩

theorem test_TokensOfTheLine_1_3 :
    ∃ (s : State) (u : UnitId), (s.dev.pathLive u && s.dev.frontOn u) = true ∧
    (s.dev.unit u).dropRx = false ∧ s.dev.is F.LU_BU_CTRL_EN u = false :=
  ⟨(w []), 255, by decide⟩

theorem test_TokensOfTheLine_1_4_1 :
    ∃ (s : State) (u : UnitId) (r : RxToken), (s.dev.pathLive u && s.dev.frontOn u) = true ∧
    (s.dev.unit u).dropRx = false ∧ s.dev.is F.LU_BU_CTRL_EN u = true ∧
    s.dev.duplex (u / 8) = false ∧ s.dev.get F.LU_BU_STAT_STATE u = 10 ∧
    (∀ e ∈ (s.dev.cluster (u / 8)).stdWait, e.2.1 = s.dev.refa + r.sub.val) ∧
    (∃ l : Fin 4, l.val ≠ u.val % 8 ∧ Claims.stdUp s.dev (8 * (u / 8) + l.val) ∧ (s.dev.cluster (u / 8)).stdWait.find l.val = none) :=
  ⟨(w [(F.HUB_CLUSTER_MODE_DUPLEX, 0, 0x7FFFFFFF), (F.LU_BU_CTRL_EN, 251, 1), (F.LU_BU_STAT_STATE, 251, 10), (F.LU_BU_STAT_STATE, 248, 10)]), 251, ⟨3, Vector.replicate 68 ⟨0, by decide⟩, Vector.replicate 3 ⟨0, by decide⟩, 0, 600, 0, 0⟩, by decide⟩

theorem test_TokensOfTheLine_1_4_2 :
    ∃ (s : State) (u : UnitId) (r : RxToken), (s.dev.pathLive u && s.dev.frontOn u) = true ∧
    (s.dev.unit u).dropRx = false ∧ s.dev.is F.LU_BU_CTRL_EN u = true ∧
    s.dev.duplex (u / 8) = false ∧ s.dev.get F.LU_BU_STAT_STATE u = 10 ∧
    (∀ e ∈ (s.dev.cluster (u / 8)).stdWait, e.2.1 = s.dev.refa + r.sub.val) ∧
    (∀ l : Fin 4, l.val ≠ u.val % 8 → Claims.stdUp s.dev (8 * (u / 8) + l.val) → ((s.dev.cluster (u / 8)).stdWait.find l.val).isSome = true) :=
  ⟨(w [(F.HUB_CLUSTER_MODE_DUPLEX, 0, 0x7FFFFFFF), (F.LU_BU_CTRL_EN, 251, 1), (F.LU_BU_STAT_STATE, 251, 10), (F.LU_BU_STAT_STATE, 248, 10)] (onC (fun x => { x with stdWait := [(0, 3, ⟨3, Vector.replicate 68 ⟨0, by decide⟩, Vector.replicate 3 ⟨0, by decide⟩, 0, 600, 0, 0⟩)] }))), 251, ⟨3, Vector.replicate 68 ⟨0, by decide⟩, Vector.replicate 3 ⟨0, by decide⟩, 0, 600, 0, 0⟩, by decide⟩

theorem test_TokensOfTheLine_1_5 :
    ∃ (s : State) (u : UnitId), (s.dev.pathLive u && s.dev.frontOn u) = true ∧
    (s.dev.unit u).dropRx = false ∧ s.dev.is F.LU_BU_CTRL_EN u = true ∧ s.dev.duplex (u / 8) = true ∧
    s.dev.get F.LU_RX_STAT_DFE_H1 u ≤ 24 ∧ (s.dev.unit u).rx.h1Low < 256 :=
  ⟨(w [(F.LU_BU_CTRL_EN, 255, 1), (F.LU_LINE_FRAME_HDR_LOCK, 255, 1), (F.LU_LINE_FRAME_RX_FMT, 255, 1), (F.LU_RX_STAT_TR_ACQ, 255, 1), (F.LU_RX_STAT_DFE_H1, 255, 24)] (onU (fun x => { x with rx := { steps := [1, 0], h1Low := 255 } }))),
    255, by decide⟩

theorem test_TokensOfTheLine_2_1 :
    ∃ (s : State) (n : UnitId), (s.dev.pathLive (s.dev.laneUnit n) && s.dev.frontOn (s.dev.laneUnit n)) = false :=
  ⟨(w [(F.LU_BU_CTRL_EN, 255, 1)] (onU (fun x => { x with inReset := true }))), 255, by decide⟩

theorem test_TokensOfTheLine_2_2 :
    ∃ (s : State) (n u : UnitId), s.dev.laneUnit n = u.val ∧
    (s.dev.pathLive u && s.dev.frontOn u) = true ∧ (s.dev.unit u).dropHrx = true :=
  ⟨(w [(F.LU_BU_CTRL_EN, 255, 1)] (onU (fun x => { x with dropHrx := true }))), 255, 255, by decide⟩

theorem test_TokensOfTheLine_2_3 :
    ∃ (s : State) (n u : UnitId), s.dev.laneUnit n = u.val ∧
    (s.dev.pathLive u && s.dev.frontOn u) = true ∧ (s.dev.unit u).dropHrx = false ∧
    (s.dev.is F.LU_BU_CTRL_EN u = false ∨ s.dev.duplex (u / 8) = true ∧ ((s.dev.unit u).tx = .zero ∨ (s.dev.unit u).tx = .quiet ∧ (s.dev.unit u).rouse = false)) :=
  ⟨(w [(F.LU_BU_CTRL_EN, 255, 1)] (onU (fun x => { x with tx := .quiet }))), 255, 255, by decide⟩

theorem test_TokensOfTheLine_2_4 :
    ∃ (s : State) (n u : UnitId), s.dev.laneUnit n = u.val ∧
    (s.dev.pathLive u && s.dev.frontOn u) = true ∧ (s.dev.unit u).dropHrx = false ∧
    s.dev.is F.LU_BU_CTRL_EN u = true ∧ s.dev.duplex (u / 8) = true ∧ (s.dev.unit u).tx = .data ∧
    (s.dev.unit u).txWant = none :=
  ⟨(w [(F.LU_BU_CTRL_EN, 255, 1)] (onU (fun x => { x with tx := .data }))), 255, 255, by decide⟩

theorem test_TokensOfTheLine_2_5_1 :
    ∃ (s : State) (n u : UnitId), s.dev.laneUnit n = u.val ∧
    (s.dev.pathLive u && s.dev.frontOn u) = true ∧ (s.dev.unit u).dropHrx = false ∧
    s.dev.is F.LU_BU_CTRL_EN u = true ∧ s.dev.duplex (u / 8) = true ∧ (s.dev.unit u).tx = .data ∧
    (s.dev.unit u).txWant = some .quietNotice :=
  ⟨(w [(F.LU_BU_CTRL_EN, 255, 1)] (onU (fun x => { x with tx := .data, txWant := some .quietNotice }))), 255, 255, by decide⟩

theorem test_TokensOfTheLine_2_5_2 :
    ∃ (s : State) (n u : UnitId), s.dev.laneUnit n = u.val ∧
    (s.dev.pathLive u && s.dev.frontOn u) = true ∧ (s.dev.unit u).dropHrx = false ∧
    s.dev.is F.LU_BU_CTRL_EN u = true ∧ s.dev.duplex (u / 8) = true ∧ (s.dev.unit u).tx = .training ∧
    (s.dev.unit u).txWant = none :=
  ⟨(w [(F.LU_BU_CTRL_EN, 255, 1)] (onU (fun x => { x with tx := .training, txBlock := 39 }))), 255, 255, by decide⟩

theorem test_TokensOfTheLine_2_5_3 :
    ∃ (s : State) (n u : UnitId), s.dev.laneUnit n = u.val ∧
    (s.dev.pathLive u && s.dev.frontOn u) = true ∧ (s.dev.unit u).dropHrx = false ∧
    s.dev.is F.LU_BU_CTRL_EN u = true ∧ s.dev.duplex (u / 8) = true ∧ (s.dev.unit u).tx = .training ∧
    (s.dev.unit u).txWant = some .countdown ∧ (s.dev.unit u).txBlock = 0 :=
  ⟨(w [(F.LU_BU_CTRL_EN, 255, 1)] (onU (fun x => { x with tx := .training, txWant := some .countdown }))), 255, 255, by decide⟩

theorem test_TokensOfTheLine_2_5_4 :
    ∃ (s : State) (n u : UnitId), s.dev.laneUnit n = u.val ∧
    (s.dev.pathLive u && s.dev.frontOn u) = true ∧ (s.dev.unit u).dropHrx = false ∧
    s.dev.is F.LU_BU_CTRL_EN u = true ∧ s.dev.duplex (u / 8) = true ∧ (s.dev.unit u).tx = .announce ∧
    (s.dev.unit u).txWant = none ∧ (s.dev.unit u).txLeft = 1 :=
  ⟨(w [(F.LU_BU_CTRL_EN, 255, 1)] (onU (fun x => { x with tx := .announce, txLeft := 1, reached := 8 }))), 255, 255, by decide⟩

theorem test_SlipsAndMarkers_1 :
    ∃ (s : State) (u : UnitId), s.dev.pathLive u = true ∧ s.dev.mild 0x23 :=
  ⟨(w []), 255, by decide⟩

theorem test_SlipsAndMarkers_2_1 :
    ∃ (s : State) (u : UnitId), (s.dev.unit u).rx.marks = [] :=
  ⟨(w []), 255, by decide⟩

theorem test_SlipsAndMarkers_2_2 :
    ∃ (s : State) (u : UnitId) (m : Nat) (bits : BitVec 240) (r : List (Nat × BitVec 240)), s.dev.lineLive u = true ∧
    s.dev.rxData u = true ∧ (s.dev.unit u).rx.marks = (m, bits) :: r ∧ s.dev.mild 0x30 ∧
    bodyOk (BitVec.ofNat 134 (bits.toNat / 4)) = false :=
  ⟨(w [(F.LU_LINE_FRAME_RX_FMT, 255, 2)] (onU (fun x => { x with rx := { marks := [(557040, 5)] } }))),
    255,
    557040,
    5,
    [], by decide +kernel⟩

theorem test_SlipsAndMarkers_2_3 :
    ∃ (s : State) (u : UnitId) (m p : Nat) (bits : BitVec 240) (r : List (Nat × BitVec 240)), s.dev.lineLive u = true ∧
    s.dev.rxData u = true ∧ (s.dev.inPort u && decide (1 < s.dev.width u)) = false ∧
    (s.dev.unit u).rx.marks = (m, bits) :: r ∧ (s.dev.unit u).rx.mark = some p ∧
    Claims.quietBody s.dev u (BitVec.ofNat 134 (bits.toNat / 4)) :=
  ⟨(w [(F.LU_LINE_FRAME_RX_FMT, 255, 2), (F.LU_BU_STAT_STATE, 255, 10)] (onU (fun x => { x with rx := { marks := [(557040, 34215657839499519484416897539157386078245)], mark := some 557040 } }) ∘ onU (fun x => { x with far := { seen := true } }))),
    255,
    557040,
    557040,
    34215657839499519484416897539157386078245,
    [], by decide +kernel⟩

theorem test_SlipsAndMarkers_2_4_1 :
    ∃ (s : State) (u : UnitId) (m p q : Nat) (bits : BitVec 240) (r : List (Nat × BitVec 240)), s.dev.lineLive u = true ∧
    s.dev.rxData u = true ∧ s.dev.inPort u = true ∧ 1 < s.dev.width u ∧
    (s.dev.unit u).rx.marks = (m, bits) :: r ∧ (s.dev.unit u).rx.mark = some p ∧
    (s.dev.unit u).rx.place = some q ∧ Claims.quietBody s.dev u (BitVec.ofNat 134 (bits.toNat / 4)) ∧
    8 < (markGap (Claims.announcedMark m bits) q).natAbs ∧ Claims.portIdle s.dev u :=
  ⟨(w [(F.CL_PORT_MAP_PORTS, 31, 0x99000000), (F.LU_LINE_FRAME_RX_FMT, 255, 2), (F.LU_BU_STAT_STATE, 255, 10)]
      (onU (fun x => { x with far := { seen := true }, rx := { marks := [(136, 51017099706319891321063849203591087663141)], mark := some 136, place := some 145 } }))),
    255, 136, 136, 145, 51017099706319891321063849203591087663141, [], by decide +kernel⟩

theorem test_SlipsAndMarkers_2_4_2 :
    ∃ (s : State) (u : UnitId) (m p q : Nat) (bits : BitVec 240) (r : List (Nat × BitVec 240)), s.dev.lineLive u = true ∧
    s.dev.rxData u = true ∧ s.dev.inPort u = true ∧ 1 < s.dev.width u ∧
    (s.dev.unit u).rx.marks = (m, bits) :: r ∧ (s.dev.unit u).rx.mark = some p ∧
    (s.dev.unit u).rx.place = some q ∧ Claims.quietBody s.dev u (BitVec.ofNat 134 (bits.toNat / 4)) ∧
    (markGap (Claims.announcedMark m bits) q).natAbs ≤ 8 ∧
    (s.dev.cluster (u / 8)).lineDsk.contains (s.dev.base u) = true :=
  ⟨(w [(F.CL_PORT_MAP_PORTS, 31, 0x99000000), (F.LU_LINE_FRAME_RX_FMT, 255, 2), (F.LU_BU_STAT_STATE, 255, 10)]
      (onU (fun x => { x with far := { seen := true }, rx := { marks := [(136, 51017099706319891321063849203591087663141)], mark := some 136, place := some 144 } }) ∘ onC (fun x => { x with lineDsk := [6] }))),
    255, 136, 136, 144, 51017099706319891321063849203591087663141, [], by decide +kernel⟩

theorem test_SlipsAndMarkers_2_5_1 :
    ∃ (s : State) (u : UnitId) (m : Nat) (bits : BitVec 240) (r : List (Nat × BitVec 240)) (p : Nat), s.dev.pathLive u = true ∧
    s.dev.duplex (u / 8) = false ∧ s.dev.rxData u = true ∧ s.dev.inPort u = true ∧
    1 < s.dev.width u ∧ (s.dev.unit u).rx.marks = (m, bits) :: r ∧ (s.dev.unit u).rx.place = some p ∧
    (3 < Claims.markerDiff s.dev u bits ∨ 8 < (markGap m p).natAbs) ∧ Claims.portIdle s.dev u :=
  ⟨simplexMark 0 (some 16), 251, 7, 0, [], 16, by decide, by decide, by decide, by decide, by decide, rfl, rfl, .inr (by decide),
    by decide⟩

theorem test_SlipsAndMarkers_2_5_2 :
    ∃ (s : State) (u : UnitId) (m : Nat) (bits : BitVec 240) (r : List (Nat × BitVec 240)), s.dev.pathLive u = true ∧
    s.dev.duplex (u / 8) = false ∧ s.dev.rxData u = true ∧ s.dev.inPort u = true ∧
    1 < s.dev.width u ∧ (s.dev.unit u).rx.marks = (m, bits) :: r ∧
    Claims.markerDiff s.dev u bits ≤ 3 ∧
    (∀ p, (s.dev.unit u).rx.place = some p → (markGap m p).natAbs ≤ 8) ∧
    (s.dev.cluster (u / 8)).lineDsk.contains (s.dev.base u) = true :=
  ⟨simplexMark (Config.amBits 2 1) (some 15), 251, 7, Config.amBits 2 1, [], by decide, by decide, by decide, by decide, by decide,
    rfl, by show bitDiff _ ((List.range 240).map (Config.amBits 2 1).getLsbD) ≤ 3; rw [bitDiff_self]; decide,
    fun p h => by cases h; decide, by decide⟩

theorem test_SlipsAndMarkers_2_5_3 :
    ∃ (s : State) (u : UnitId) (m : Nat) (bits : BitVec 240) (r : List (Nat × BitVec 240)), s.dev.pathLive u = true ∧
    s.dev.duplex (u / 8) = false ∧ s.dev.rxData u = true ∧ s.dev.inPort u = true ∧
    1 < s.dev.width u ∧ (s.dev.unit u).rx.marks = (m, bits) :: r ∧
    3 < Claims.markerDiff s.dev u bits ∧ (s.dev.unit u).rx.place = none :=
  ⟨simplexMark (~~~ Config.amBits 2 1) none, 251, 7, ~~~ Config.amBits 2 1, [], by decide, by decide, by decide, by decide,
    by decide, rfl, by show 3 < bitDiff _ ((List.range 240).map (Config.amBits 2 1).getLsbD); rw [marker_not]; decide, rfl⟩

theorem test_ControlBodies_1 :
    ∃ (s : State) (u : UnitId), (s.dev.unit u).rx.bodies = [] :=
  ⟨(w []), 255, by decide⟩

theorem test_ControlBodies_2 :
    ∃ (s : State) (u : UnitId) (tag : Nat) (b : BitVec 134) (r : List (Nat × BitVec 134)), s.dev.lineLive u = true ∧
    s.dev.is F.LU_LINE_FRAME_HDR_LOCK u = true ∧ (s.dev.unit u).rx.bodies = (tag, b) :: r ∧
    bodyOk b = false ∧ s.dev.mild 0x30 :=
  ⟨(w [(F.LU_LINE_FRAME_HDR_LOCK, 255, 1), (F.LU_LINE_FRAME_DESCR_LOCK, 255, 1)] (onU (fun x => { x with rx := { bodies := [(4, 0)] } }))),
    255,
    4,
    0,
    [], by decide +kernel⟩

theorem test_ControlBodies_3 :
    ∃ (s : State) (u : UnitId) (tag : Nat) (b : BitVec 134) (r : List (Nat × BitVec 134)), s.dev.lineLive u = true ∧
    s.dev.is F.LU_LINE_FRAME_HDR_LOCK u = true ∧ (s.dev.unit u).rx.bodies = (tag, b) :: r ∧
    Claims.quietBody s.dev u b :=
  ⟨(w [(F.LU_LINE_FRAME_HDR_LOCK, 255, 1), (F.LU_LINE_FRAME_DESCR_LOCK, 255, 1), (F.LU_LINE_FRAME_RX_FMT, 255, 2), (F.LU_BU_STAT_STATE, 255, 10)] (onU (fun x => { x with rx := { bodies := [(4, 8553914459874879871104224384789346519561)] } }) ∘ onU (fun x => { x with far := { seen := true } }))),
    255,
    4,
    8553914459874879871104224384789346519561,
    [], by decide +kernel⟩

theorem test_NoticesAndTheSwitchToData_1_1 :
    ∃ (s : State) (u : UnitId), s.dev.lineLive u = true ∧ s.dev.rxData u = true ∧
    s.dev.noticed u 12 4 = true ∧ Claims.noRuns s.dev u :=
  ⟨(w [(F.LU_LINE_FRAME_RX_FMT, 255, 2)] (onU (fun x => { x with rx := { notice := (12, 4, 9), tag := 10 } }))),
    255, by decide⟩

theorem test_NoticesAndTheSwitchToData_1_2 :
    ∃ (s : State) (u : UnitId), s.dev.lineLive u = true ∧ s.dev.rxData u = true ∧
    s.dev.noticed u 5 4 = true ∧ Claims.noRuns s.dev u ∧ Claims.portIdle s.dev u :=
  ⟨(w [(F.LU_LINE_FRAME_RX_FMT, 255, 2)] (onU (fun x => { x with rx := { notice := (5, 4, 9), tag := 10 } }))),
    255, by decide⟩

theorem test_NoticesAndTheSwitchToData_1_3 :
    ∃ (s : State) (u : UnitId) (tag phase bit : Nat), s.dev.lineLive u = true ∧
    s.dev.get F.LU_LINE_FRAME_RX_FMT u = 3 ∧ (s.dev.unit u).rx.resumed = some (tag, phase, bit) ∧
    s.dev.inPort u = false :=
  ⟨(w [(F.LU_LINE_FRAME_RX_FMT, 255, 3)] (onU (fun x => { x with rx := { hdrRun := 64, resume := some (3, 100, 7), tag := 43 } }))),
    255,
    3,
    100,
    7, by decide⟩

theorem test_NoticesAndTheSwitchToData_1_4 :
    ∃ (s : State) (u : UnitId), s.dev.lineLive u = true ∧ s.dev.get F.LU_LINE_FRAME_RX_FMT u = 3 ∧
    (s.dev.unit u).rx.resumed = none ∧ Claims.noRuns s.dev u ∧ Claims.portIdle s.dev u ∧
    s.dev.mild 0x20 ∧ s.dev.mild 0x22 :=
  ⟨(w [(F.LU_LINE_FRAME_RX_FMT, 255, 3)] (onU (fun x => { x with rx := { hdrRun := 63, resume := some (3, 100, 7), tag := 43 } }))),
    255, by decide⟩

theorem test_NoticesAndTheSwitchToData_1_5 :
    ∃ (s : State) (u : UnitId), s.dev.lineLive u = true ∧ s.dev.rxHeld u = true ∧
    s.dev.dozing (u / 8) = false ∧ 32 ≤ (s.dev.unit u).rx.energetic :=
  ⟨(w [(F.LU_LINE_FRAME_RX_FMT, 255, 2), (F.LU_LINE_FRAME_RX_QUIET, 255, 1)] (onU (fun x => { x with rx := { energetic := 32 } }))),
    255, by decide⟩

theorem test_NoticesAndTheSwitchToData_2_1 :
    ∃ (s : State) (u : UnitId), s.dev.lineLive u = true ∧
    ((s.dev.unit u).tx = .hold ∧ (s.dev.unit u).txBlock = 0 ∨ (s.dev.unit u).tx = .quiet ∧ (s.dev.unit u).quietAt + 64 ≤ s.dev.refa) ∧
    s.dev.amHeld u = true ∧ s.dev.dozing (u / 8) = false :=
  ⟨(w [(F.LU_HOST_STAT_AM_LOCK, 255, 1)] (onU (fun x => { x with tx := .quiet, quietAt := 3 }) ∘ onDev (fun d => { d with refa := 67 }))),
    255, by decide⟩

theorem test_NoticesAndTheSwitchToData_2_2 :
    ∃ (s : State) (u : UnitId), (s.dev.unit u).tx = .hold ∧ (s.dev.unit u).txBlock ≠ 0 :=
  ⟨(w [] (onU (fun x => { x with tx := .hold, txBlock := 39 }))), 255, by decide⟩

theorem test_NoticesAndTheSwitchToData_2_3 :
    ∃ (s : State) (u : UnitId), s.dev.lineLive u = true ∧ (s.dev.unit u).resumed = true ∧
    (s.dev.unit u).tx = .data ∧ s.dev.amHeld u = true :=
  ⟨(w [(F.LU_HOST_STAT_AM_LOCK, 255, 1)] (onU (fun x => { x with tx := .data, resumed := true }))), 255, by decide⟩

theorem test_NoticesAndTheSwitchToData_2_4 :
    ∃ (s : State) (u : UnitId), s.dev.lineLive u = true ∧ s.dev.get F.LU_BU_STAT_STATE u = 8 ∧
    (s.dev.unit u).tx = .training ∧ s.dev.amHeld u = true ∧
    s.dev.is F.LU_BU_STAT_FAR_READY u = true ∧ s.dev.is F.LU_BU_STAT_RX_READY u = true ∧
    s.dev.is F.LU_LINE_FRAME_PORT_MISMATCH u = false :=
  ⟨(w [(F.LU_HOST_STAT_AM_LOCK, 255, 1), (F.LU_BU_STAT_STATE, 255, 8), (F.LU_BU_STAT_FAR_READY, 255, 1), (F.LU_BU_STAT_RX_READY, 255, 1)] (onU (fun x => { x with tx := .training }))),
    255, by decide⟩

theorem test_NoticesAndTheSwitchToData_2_5 :
    ∃ (s : State) (u : UnitId), s.dev.lineLive u = true ∧ s.dev.get F.LU_BU_STAT_STATE u = 9 ∧
    (s.dev.unit u).tx = .data ∧ s.dev.is F.LU_LINE_FRAME_HDR_LOCK u = true ∧ s.dev.amHeld u = true :=
  ⟨(w [(F.LU_HOST_STAT_AM_LOCK, 255, 1), (F.LU_BU_STAT_STATE, 255, 9), (F.LU_LINE_FRAME_HDR_LOCK, 255, 1)] (onU (fun x => { x with tx := .data }))),
    255, by decide⟩

theorem test_NoticesAndTheSwitchToData_2_6 :
    ∃ (s : State) (u : UnitId) (at' : Nat), s.dev.lineLive u = true ∧
    s.dev.is F.LU_LINE_FRAME_HDR_LOCK u = true ∧ s.dev.is F.LU_LINE_FRAME_DESCR_LOCK u = true ∧
    s.dev.get F.LU_LINE_FRAME_RX_FMT u = 1 ∧ (s.dev.unit u).rx.dataAt = some at' ∧
    s.dev.due at' = true ∧ s.dev.inPort u = false :=
  ⟨(w [(F.LU_LINE_FRAME_RX_FMT, 255, 1), (F.LU_LINE_FRAME_HDR_LOCK, 255, 1), (F.LU_LINE_FRAME_DESCR_LOCK, 255, 1)] (onU (fun x => { x with rx := { dataAt := some 3, mark := some 5 } }))),
    255,
    3, by decide⟩

theorem test_LockAndLossOfTheLine_1_1 :
    ∃ (s : State) (u : UnitId), s.dev.lineLive u = true ∧ s.dev.is F.LU_RX_STAT_TR_LOCK u = true ∧
    s.dev.phaseOf u = 3 ∧ s.dev.is F.LU_LINE_FRAME_HDR_LOCK u = false ∧ 64 ≤ (s.dev.unit u).rx.hdrRun :=
  ⟨(w [(F.LU_RX_STAT_TR_LOCK, 255, 1), (F.LU_BU_STAT_STATE, 255, 3)] (onU (fun x => { x with rx := { hdrRun := 64 } }))),
    255, by decide⟩

theorem test_LockAndLossOfTheLine_1_2 :
    ∃ (s : State) (u : UnitId), s.dev.lineLive u = true ∧
    s.dev.is F.LU_LINE_FRAME_HDR_LOCK u = true ∧
    16 ≤ ((s.dev.unit u).hdrWin.filter (fun b => !b)).length ∧ 4 ≤ s.dev.get F.LU_BU_STAT_STATE u ∧
    s.dev.get F.LU_BU_STAT_STATE u ≤ 8 ∧ Claims.noRuns s.dev u :=
  ⟨(w [(F.LU_LINE_FRAME_HDR_LOCK, 255, 1), (F.LU_BU_STAT_STATE, 255, 8)] (onU (fun x => { x with tx := .training, hdrWin := List.replicate 16 false }))),
    255, by decide⟩

theorem test_LockAndLossOfTheLine_1_3 :
    ∃ (s : State) (u : UnitId), s.dev.lineLive u = true ∧
    s.dev.is F.LU_LINE_FRAME_HDR_LOCK u = true ∧ s.dev.is F.LU_LINE_FRAME_DESCR_LOCK u = false ∧
    (s.dev.unit u).rx.descrOk = true ∧ s.dev.get F.LU_BU_STAT_STATE u ≠ 14 :=
  ⟨(w [(F.LU_LINE_FRAME_HDR_LOCK, 255, 1), (F.LU_BU_STAT_STATE, 255, 3)] (onU (fun x => { x with tx := .training, rx := { descrOk := true } }))),
    255, by decide⟩

theorem test_LockAndLossOfTheLine_1_4 :
    ∃ (s : State) (u : UnitId), s.dev.lineLive u = true ∧ s.dev.get F.LU_LINE_FRAME_RX_FMT u ≠ 2 ∧
    4 ≤ (s.dev.unit u).rx.badBlocks :=
  ⟨(w [(F.LU_LINE_FRAME_RX_FMT, 255, 1)] (onU (fun x => { x with rx := { badBlocks := 4 } }))), 255, by decide⟩

theorem test_LockAndLossOfTheLine_1_5 :
    ∃ (s : State) (u : UnitId), s.dev.lineLive u = true ∧
    s.dev.is F.LU_LINE_FRAME_HDR_LOCK u = true ∧ s.dev.phaseOf u = 3 ∧ (s.dev.unit u).rx.ctl.1 = 80 ∧
    60 ≤ (s.dev.unit u).rx.ctl.2 :=
  ⟨(w [(F.LU_LINE_FRAME_HDR_LOCK, 255, 1), (F.LU_BU_STAT_STATE, 255, 3)] (onU (fun x => { x with rx := { ctl := (80, 60) } }))),
    255, by decide⟩

theorem test_LockAndLossOfTheLine_1_6 :
    ∃ (s : State) (u : UnitId), s.dev.lineLive u = true ∧ (s.dev.unit u).co.precReq = true ∧
    s.dev.get F.LU_LINE_FRAME_RX_FMT u = 1 ∧ s.dev.is F.LU_LINE_FRAME_FAR_PRECODE u = false ∧
    (s.dev.unit u).rx.coded4 = 4 ∧ (s.dev.unit u).rx.plain4 < 4 :=
  ⟨(w [(F.LU_LINE_FRAME_RX_FMT, 255, 1)] (onU (fun x => { x with co := { precReq := true }, rx := { coded4 := 4, plain4 := 3 } }))),
    255, by decide⟩

theorem test_LockAndLossOfTheLine_2_1 :
    ∃ (s : State) (u : UnitId), s.dev.lineLive u = true ∧ s.dev.rxData u = true ∧
    Claims.noRuns s.dev u ∧ Claims.portIdle s.dev u ∧ s.dev.mild 0x20 ∧ s.dev.mild 0x21 ∧
    (s.dev.cluster (u / 8)).silent.length < 7 ∧ 1024 ≤ (s.dev.unit u).rx.silent :=
  ⟨(w [(F.LU_LINE_FRAME_RX_FMT, 255, 2)] (onU (fun x => { x with rx := { silent := 1024 } }))), 255, by decide⟩

theorem test_LockAndLossOfTheLine_2_2 :
    ∃ (s : State) (u : UnitId), (s.dev.cluster (u / 8)).silent.contains (u.val % 8) = true ∧
    (s.dev.unit u).holdEnd ≤ s.dev.time ∧ s.dev.get F.LU_BU_STAT_STATE u ≠ 16 :=
  ⟨(w [] (onC (fun x => { x with silent := [7] }))), 255, by decide⟩

theorem test_LockAndLossOfTheLine_2_3 :
    ∃ (s : State) (u : UnitId), (s.dev.cluster (u / 8)).silent.contains (u.val % 8) = true ∧
    (s.dev.unit u).holdEnd ≤ s.dev.time ∧ s.dev.lineLive u = true ∧
    s.dev.get F.LU_BU_STAT_STATE u = 16 ∧ Claims.noRuns s.dev u ∧ Claims.portIdle s.dev u :=
  ⟨(w [(F.LU_BU_STAT_STATE, 255, 16)] (onC (fun x => { x with silent := [7] }))), 255, by decide⟩

theorem test_LockAndLossOfTheLine_2_4 :
    ∃ (s : State) (u : UnitId), s.dev.lineLive u = true ∧
    (s.dev.rxData u = true ∧ s.dev.noticed u 6 8 = true ∨ s.dev.get F.LU_LINE_FRAME_RX_FMT u = 3 ∧ s.dev.noticed u 6 1 = true) ∧
    Claims.noRuns s.dev u ∧ Claims.portIdle s.dev u ∧ s.dev.mild 0x20 :=
  ⟨(w [(F.LU_LINE_FRAME_RX_FMT, 255, 2)] (onU (fun x => { x with rx := { notice := (6, 8, 9), tag := 10 } }))),
    255, by decide⟩

theorem test_GearsChange_1 :
    ∃ (s : State) (u : UnitId), ¬Claims.gearRun s.dev u :=
  ⟨(w [(F.LU_RB_STAT_GEAR, 255, 3)] (onU (fun x => { x with canc := { gearAt := 5 } }))), 255, by decide⟩

theorem test_GearsChange_2_1 :
    ∃ (s : State) (u : UnitId), s.dev.live u = true ∧ s.dev.duplex (u / 8) = true ∧
    Claims.gearRun s.dev u ∧ s.dev.get F.LU_RB_STAT_GEAR u = 3 ∧ s.dev.phaseOf u = 10 :=
  ⟨(w [(F.LU_RB_STAT_GEAR, 255, 3), (F.LU_BU_STAT_STATE, 255, 10)] (onDev (fun d => { d with refa := 1048573 }))),
    255, by decide⟩

theorem test_GearsChange_2_2 :
    ∃ (s : State) (u : UnitId), s.dev.live u = true ∧ s.dev.duplex (u / 8) = true ∧
    Claims.gearRun s.dev u ∧ s.dev.get F.LU_RB_STAT_GEAR u = 3 ∧ s.dev.get F.LU_BU_STAT_STATE u = 6 ∧
    (s.dev.unit u).srch.phase = .off ∧ (s.dev.unit u).tx = .training :=
  ⟨(w [(F.LU_RB_STAT_GEAR, 255, 3), (F.LU_BU_STAT_STATE, 255, 6)] (onU (fun x => { x with tx := .training }) ∘ onDev (fun d => { d with refa := 1048573 }))),
    255, by decide⟩

theorem test_GearsChange_3 :
    ∃ (s : State) (u : UnitId), s.dev.live u = true ∧ s.dev.duplex (u / 8) = true ∧
    Claims.gearRun s.dev u ∧ s.dev.get F.LU_RB_STAT_GEAR u = 2 ∧ (s.dev.unit u).canc.g2Done = false ∧
    (s.dev.get F.LU_RX_LQI_LQI u < 140 ∨ s.dev.get F.LU_RX_LQI_LQI u = 0xFFFF) :=
  ⟨(w [(F.LU_RB_STAT_GEAR, 255, 2), (F.LU_RX_LQI_LQI, 255, 139), (F.LU_BU_STAT_STATE, 255, 5), (F.LU_RX_STAT_DFE_H1, 255, 15)] (onDev (fun d => { d with refa := 262141 }))),
    255, by decide⟩

theorem test_GearsChange_4 :
    ∃ (s : State) (u : UnitId), s.dev.live u = true ∧ s.dev.duplex (u / 8) = false ∧
    Claims.gearRun s.dev u ∧ s.dev.get F.LU_RB_STAT_GEAR u = 3 :=
  ⟨(w [(F.HUB_CLUSTER_MODE_DUPLEX, 0, 0x7FFFFFFF), (F.LU_RB_STAT_GEAR, 251, 3)] (onDev (fun d => { d with refa := 1048573 }))),
    251, by decide⟩

theorem test_WindowsFindReflections_1_1 :
    ∃ (s : State) (u : UnitId) (p : Fin 62), 1 ≤ s.dev.wins (u / 8) ∧
    s.dev.dwelt u (p % s.dev.wins (u / 8)) (s.dev.dwellLen u) = false :=
  ⟨(w [(F.LU_RB_STAT_GEAR, 255, 1), (F.CL_RB_ALLOC_WIN_COUNT, 31, 4), (F.CL_RB_ALLOC_DENSE_TAPS, 31, 16), (F.CL_RB_ALLOC_NEXT_TAPS, 31, 0)]),
    255,
    61, by decide⟩

theorem test_WindowsFindReflections_1_2 :
    ∃ (s : State) (u : UnitId) (p : Fin 62) (f : Nat), s.dev.live u = true ∧
    s.dev.duplex (u / 8) = true ∧ s.dev.get F.LU_RB_STAT_GEAR u = 1 ∧ 1 ≤ s.dev.wins (u / 8) ∧
    s.dev.wins (u / 8) ≤ 8 ∧ (s.dev.unit u).canc.probe = none ∧
    s.dev.winState u (p % s.dev.wins (u / 8)) = 1 ∧
    s.dev.winStart u (p % s.dev.wins (u / 8)) = surveyStart p ∧
    s.dev.winSlot u (p % s.dev.wins (u / 8)) = some f ∧
    s.dev.dwelt u (p % s.dev.wins (u / 8)) (s.dev.dwellLen u) = true :=
  ⟨(w [(F.LU_RB_STAT_GEAR, 255, 1), (F.CL_RB_ALLOC_WIN_COUNT, 31, 4), (F.CL_RB_ALLOC_DENSE_TAPS, 31, 16), (F.CL_RB_ALLOC_NEXT_TAPS, 31, 0)] (onDev (fun d => { d with refa := 4093 }) ∘ onDev (fun d => d.setWinWord 255 1 (BitVec.ofNat 32 (2 ^ 30 + surveyStart 61 * 4096))))),
    255,
    61,
    3440, by decide⟩

theorem test_WindowsFindReflections_2_1 :
    ∃ (s : State) (u : UnitId), (∀ k ∈ s.dev.placedKeys u, s.dev.dwelt u k 4096 = false) :=
  ⟨(w [(F.CL_RB_ALLOC_WIN_COUNT, 31, 1)]), 255, by decide⟩

theorem test_WindowsFindReflections_2_2 :
    ∃ (s : State) (u : UnitId), s.dev.live u = true ∧ s.dev.duplex (u / 8) = true ∧
    s.dev.wins (u / 8) = 1 ∧ (s.dev.unit u).canc.blocks = [] ∧ 2 ≤ s.dev.winState u 0 ∧
    s.dev.dwelt u 0 4096 = true ∧ 8 ≤ peakTap (s.dev.winTaps u 0) ∧
    peakTap (s.dev.winTaps u 0) ≤ 39 ∧
    tapEnergy (s.dev.winTaps u 0) ≤ (s.dev.cluster (u / 8)).winThr + 60 :=
  ⟨(w [(F.CL_RB_ALLOC_WIN_COUNT, 31, 1), (F.CL_RB_ALLOC_DENSE_TAPS, 31, 16), (F.CL_RB_ALLOC_NEXT_TAPS, 31, 0)] (onDev (fun d => { d with refa := 4093 }) ∘ onDev (fun d => (d.setWord ((F.LU_RB_WIN_STATE 0).addr 255) 0x80100000).onCluster 31 (fun x => { x with pool := [(2423, 16384)] })))),
    255, by decide +kernel⟩

theorem test_WindowsFindReflections_3_1 :
    ∃ (s : State) (u : UnitId) (b p : Nat), s.dev.duplex (u / 8) = true ∧ s.dev.rescans u = true ∧
    (s.dev.cluster (u / 8)).rescan = none ∧ s.dev.sweeping (u / 8) = false ∧
    (s.dev.rescanLanes (u / 8)).1.contains (u % 8) = true ∧
    (∀ l ∈ (s.dev.rescanLanes (u / 8)).1, l < u % 8 → s.dev.rescans (8 * (u / 8) + l) = false) ∧
    s.dev.freeBlock (u / 8) s.dev.refa = some b ∧ s.dev.nextPos u 0 = some p :=
  ⟨(w [(F.CL_RB_POOL_BLOCKS, 31, 9), (F.CL_RB_ALLOC_WIN_COUNT, 31, 2), (F.CL_RB_ALLOC_DENSE_TAPS, 31, 16), (F.CL_RB_ALLOC_NEXT_TAPS, 31, 0), (F.LU_RB_STAT_GEAR, 255, 4), (F.LU_RB_CTRL_RESCAN_EN, 255, 1), (F.CL_RB_CFG_RESCAN_PERIOD, 31, 1)]),
    255,
    0,
    3, by decide⟩

theorem test_WindowsFindReflections_3_2_1 :
    ∃ (s : State) (u : UnitId) (b : Nat), s.dev.live u = true ∧
    (s.dev.cluster (u / 8)).rescan = some (u.val % 8) ∧ (s.dev.unit u).canc.probe = some b ∧
    s.dev.dwelt u 12 4096 = false :=
  ⟨(w [(F.CL_RB_POOL_BLOCKS, 31, 9), (F.CL_RB_ALLOC_WIN_COUNT, 31, 2), (F.CL_RB_ALLOC_DENSE_TAPS, 31, 16), (F.CL_RB_ALLOC_NEXT_TAPS, 31, 0)] (onC (fun x => { x with rescan := some 7 }) ∘ onU (fun x => { x with canc := { probe := some 8 } }))),
    255,
    8, by decide⟩

theorem test_WindowsFindReflections_3_2_2_1 :
    ∃ (s : State) (u : UnitId) (b : Nat) (n : Nat), s.dev.live u = true ∧
    (s.dev.cluster (u / 8)).rescan = some (u.val % 8) ∧ (s.dev.unit u).canc.probe = some b ∧
    s.dev.dwelt u 12 4096 = true ∧ s.dev.nextPos u ((s.dev.winStart u 12 - 81) / 48 + 1) = some n :=
  ⟨(w [(F.CL_RB_POOL_BLOCKS, 31, 9), (F.CL_RB_ALLOC_WIN_COUNT, 31, 2), (F.CL_RB_ALLOC_DENSE_TAPS, 31, 16), (F.CL_RB_ALLOC_NEXT_TAPS, 31, 0)] (onDev (fun d => { d with refa := 4093 }) ∘ onC (fun x => { x with rescan := some 7 }) ∘ onDev (fun d => d.setWinWord 255 12 (BitVec.ofNat 32 (2 ^ 30 + surveyStart 6 * 4096))) ∘ onU (fun x => { x with canc := { probe := some 8 } }))),
    255,
    8,
    7, by decide⟩

theorem test_WindowsFindReflections_3_2_2_2 :
    ∃ (s : State) (u : UnitId) (b : Nat), s.dev.live u = true ∧
    (s.dev.cluster (u / 8)).rescan = some (u.val % 8) ∧ (s.dev.unit u).canc.probe = some b ∧
    s.dev.dwelt u 12 4096 = true ∧ s.dev.nextPos u ((s.dev.winStart u 12 - 81) / 48 + 1) = none ∧
    (∀ r ∈ (s.dev.unit u).canc.probeRecs ++ [s.dev.dwellRec u 12 (8 * s.dev.slotsT (u / 8) + 48 * b)], s.dev.get F.CL_RB_CFG_WIN_THR (u / 8) < r.energy) :=
  ⟨(w [(F.CL_RB_POOL_BLOCKS, 31, 9), (F.CL_RB_ALLOC_WIN_COUNT, 31, 2), (F.CL_RB_ALLOC_DENSE_TAPS, 31, 16), (F.CL_RB_ALLOC_NEXT_TAPS, 31, 0)] (onDev (fun d => { d with refa := 4093 }) ∘ onC (fun x => { x with rescan := some 7 }) ∘ onDev (fun d => d.setWinWord 255 12 (BitVec.ofNat 32 (2 ^ 30 + surveyStart 61 * 4096))) ∘ onU (fun x => { x with canc := { probe := some 8 } }))),
    255,
    8, by decide⟩

theorem test_SoftwareReachesThePool_1 :
    ∃ (s : State) (c : ClusterId), s.dev.off .cl c 0 = true :=
  ⟨(w [] (onC (fun x => { x with inReset := true }))), 31, by decide⟩

theorem test_SoftwareReachesThePool_2_1 :
    ∃ (s : State) (c : ClusterId) (b : Fin 32), s.dev.off .cl c 0 = false ∧
    s.dev.tst .cl c = false ∧ (∀ u ∈ unitsOf c, b.val ∉ (s.dev.unit u).canc.blocks) :=
  ⟨(w []), 31, 31, by decide⟩

theorem test_SoftwareReachesThePool_2_2 :
    ∃ (s : State) (c : ClusterId) (b : Fin 32) (u : UnitId), s.dev.off .cl c 0 = false ∧
    s.dev.tst .cl c = false ∧
    (unitsOf c).find? (fun u => (s.dev.unit u).canc.blocks.contains b.val) = some u.val :=
  ⟨(w [(F.CL_RB_POOL_BLOCKS, 31, 9)] (onU (fun x => { x with canc := { blocks := [8, 3] } }))), 31, 3, 255, by decide⟩

theorem test_SoftwareReachesThePool_3_1 :
    ∃ (s : State) (c : ClusterId), s.dev.off .cl c 0x2000 = true :=
  ⟨(w [] (onC (fun x => { x with inReset := true }))), 31, by decide⟩

theorem test_SoftwareReachesThePool_3_2 :
    ∃ (s : State) (c : ClusterId), s.dev.tst .cl c = true ∧ s.dev.off .cl c 0x2000 = false :=
  ⟨(w [] (onC (fun x => { x with underTest := true }))), 31, by decide⟩

theorem test_SoftwareReachesThePool_3_3 :
    ∃ (s : State) (c : ClusterId) (i : Fin 2048), s.dev.off .cl c 0x2000 = false ∧
    s.dev.tst .cl c = false ∧ s.dev.flt.poison.contains (poolWordCode c (2 * i)) = true :=
  ⟨(w [] (onDev (fun d => { d with flt := { d.flt with poison := [poolWordCode 31 4094] } }))), 31, 2047, by decide⟩

theorem test_SoftwareReachesThePool_4_1 :
    ∃ (s : State) (c : ClusterId) (i : Fin 2048) (f : EccFinding), s.dev.off .cl c 0x2000 = false ∧
    s.dev.tst .cl c = false ∧ s.dev.flt.poison.contains (poolWordCode c (2 * i)) = false ∧
    (f = .clean ∨ f = .poisoned ∨ (s.dev.slotAdapts c (2 * i) = true ∧ s.dev.slotAdapts c (2 * i + 1) = true)) :=
  ⟨(w []), 31, 2047, .clean, by decide⟩

theorem test_SoftwareReachesThePool_4_2_1 :
    ∃ (s : State) (c : ClusterId) (i : Fin 2048), s.dev.off .cl c 0x2000 = false ∧
    s.dev.tst .cl c = false ∧ s.dev.flt.poison.contains (poolWordCode c (2 * i)) = false ∧
    (s.dev.slotAdapts c (2 * i) && s.dev.slotAdapts c (2 * i + 1)) = false ∧ s.dev.mild 0x48 :=
  ⟨(w []), 31, 2047, by decide⟩

theorem test_SoftwareReachesThePool_4_2_2 :
    ∃ (s : State) (c : ClusterId) (i : Fin 2048), s.dev.off .cl c 0x2000 = false ∧
    s.dev.tst .cl c = false ∧ s.dev.flt.poison.contains (poolWordCode c (2 * i)) = false ∧
    (s.dev.slotAdapts c (2 * i) && s.dev.slotAdapts c (2 * i + 1)) = false ∧ s.dev.mild 0x40 :=
  ⟨(w []), 31, 2047, by decide⟩

theorem test_ReceiverAndTiming_1_1_1 :
    ∃ (s : State) (u : UnitId), s.dev.live u = true ∧ s.dev.duplex (u / 8) = true ∧
    s.dev.get F.LU_RB_STAT_GEAR u = 0 ∧ s.dev.is F.LU_RX_STAT_VGA_HELD u = false ∧
    s.dev.due ((s.dev.unit u).canc.gearAt + 2048) = true :=
  ⟨(w [(F.LU_RB_STAT_GEAR, 255, 0)] (onDev (fun d => { d with refa := 2045 }))), 255, by decide⟩

theorem test_ReceiverAndTiming_1_1_2 :
    ∃ (s : State) (u : UnitId), s.dev.live u = true ∧ s.dev.duplex (u / 8) = true ∧
    s.dev.get F.LU_RB_STAT_GEAR u = 0 ∧ s.dev.is F.LU_RX_STAT_VGA_HELD u = false ∧
    s.dev.due ((s.dev.unit u).canc.gearAt + 2048) = false :=
  ⟨(w [(F.LU_RB_STAT_GEAR, 255, 0)]), 255, by decide⟩

theorem test_ReceiverAndTiming_1_2 :
    ∃ (s : State) (u : UnitId), s.dev.windows ≤ (s.dev.unit u).rx.lqi.due :=
  ⟨(w []), 255, by decide⟩

theorem test_ReceiverAndTiming_1_3 :
    ∃ (s : State) (u : UnitId), s.dev.live u = true ∧ s.dev.is F.LU_BU_CTRL_EN u = true ∧
    (s.dev.unit u).rx.lqi.due < s.dev.windows ∧ (s.dev.unit u).canc.depth < 63 ∧
    (s.dev.unit u).rx.lqi.clips * 1000000 ≤ 69632 ∧
    (s.dev.duplex (u / 8) = false ∨ (s.dev.get F.LU_BU_STAT_STATE u = 10 ∧ s.dev.get F.LU_RB_STAT_GEAR u = 4)) :=
  ⟨(w [(F.LU_BU_CTRL_EN, 255, 1), (F.LU_BU_STAT_STATE, 255, 10), (F.LU_RB_STAT_GEAR, 255, 4), (F.LU_RX_STAT_TR_LOCK, 255, 1)] (onU (fun x => { x with canc := { depth := 62 } }) ∘ onDev (fun d => { d with refa := 1021 }) ∘ onU (fun x => { x with rx := { lqi := { n := 1024, mse := 999999999 } } }))),
    255, by decide⟩

theorem test_ReceiverAndTiming_2_1_1 :
    ∃ (s : State) (u : UnitId), s.dev.pathLive u = true ∧ s.dev.timing u = true ∧
    s.dev.rxHeld u = false ∧ s.dev.is F.LU_RX_STAT_TR_LOCK u = false ∧
    4096 ≤ (s.dev.unit u).rx.varLow :=
  ⟨(w [(F.LU_RX_STAT_TR_ACQ, 255, 1), (F.LU_BU_STAT_STATE, 255, 2)] (onU (fun x => { x with tx := .training, rx := { varLow := 4096 } }))),
    255, by decide⟩

theorem test_ReceiverAndTiming_2_1_2 :
    ∃ (s : State) (u : UnitId), s.dev.pathLive u = true ∧ s.dev.timing u = true ∧
    s.dev.rxHeld u = false ∧ s.dev.is F.LU_RX_STAT_TR_LOCK u = false ∧
    (s.dev.unit u).rx.varLow < 4096 :=
  ⟨(w [(F.LU_RX_STAT_TR_ACQ, 255, 1), (F.LU_BU_STAT_STATE, 255, 2)] (onU (fun x => { x with rx := { varLow := 4095 } }))),
    255, by decide⟩

theorem test_ReceiverAndTiming_2_2_1 :
    ∃ (s : State) (u : UnitId), s.dev.pathLive u = true ∧ s.dev.is F.LU_RX_STAT_TR_LOCK u = true ∧
    4096 ≤ (s.dev.unit u).rx.varHigh :=
  ⟨(w [(F.LU_RX_STAT_TR_LOCK, 255, 1)] (onU (fun x => { x with rx := { varHigh := 4096 } }))), 255, by decide⟩

theorem test_ReceiverAndTiming_2_2_2 :
    ∃ (s : State) (u : UnitId), s.dev.pathLive u = true ∧ s.dev.is F.LU_RX_STAT_TR_LOCK u = true ∧
    (s.dev.unit u).rx.varHigh < 4096 :=
  ⟨(w [(F.LU_RX_STAT_TR_LOCK, 255, 1)] (onU (fun x => { x with rx := { varHigh := 4095 } }))), 255, by decide⟩

theorem test_ReceiverAndTiming_2_3_1 :
    ∃ (s : State) (u : UnitId), s.dev.pathLive u = true ∧ s.dev.mild 0x35 ∧
    1024 ≤ (s.dev.unit u).rx.stepRun :=
  ⟨(w [] (onU (fun x => { x with rx := { stepRun := 1024 } }))), 255, by decide⟩

theorem test_ReceiverAndTiming_2_3_2 :
    ∃ (s : State) (u : UnitId), s.dev.pathLive u = true ∧ s.dev.mild 0x35 ∧
    (s.dev.unit u).rx.stepRun < 1024 :=
  ⟨(w [] (onU (fun x => { x with rx := { stepRun := 1023 } }))), 255, by decide⟩

theorem test_ReceiverAndTiming_2_4 :
    ∃ (s : State) (u : UnitId), s.dev.pathLive u = true ∧ s.dev.split u = false ∧
    (s.dev.unit u).rx.servo.win + 1 = s.dev.windows ∧ (s.dev.unit u).rx.servo.due < s.dev.windows ∧
    (s.dev.unit u).rx.servo.n ≠ 0 ∧
    (s.dev.unit u).rx.servo.sum / (100 * (s.dev.unit u).rx.servo.n) < 256 ∧
    (s.dev.unit u).rx.servo.out = false :=
  ⟨(w [] (onDev (fun d => { d with refa := 1021 }) ∘ onU (fun x => { x with rx := { servo := { n := 1024, sum := 6553600 } } }))),
    255, by decide⟩

theorem test_PaceWindows_1 :
    ∃ (s : State) (q : RegionId), s.dev.windows ≤ (s.dev.region q).paceDue :=
  ⟨(w []), 7, by decide⟩

theorem test_PaceWindows_2 :
    ∃ (s : State) (q : RegionId), s.dev.regionLive q = true ∧
    (s.dev.region q).paceDue < s.dev.windows ∧ (∀ u ∈ unitsOfRegion q, s.dev.slowest u = 0) :=
  ⟨(w [] (onDev (fun d => { d with refa := 1021 }))), 7, by decide⟩

theorem test_PaceWindows_3 :
    ∃ (s : State) (q : RegionId) (u c : Nat), s.dev.regionLive q = true ∧
    (s.dev.region q).paceDue < s.dev.windows ∧ s.dev.slowUnit q = (u, c) ∧ 0 < c ∧
    s.dev.is F.RG_PACE_STAT_WARN q = false ∧ s.dev.is F.RG_PACE_STAT_SHED q = false ∧
    s.dev.is F.RG_PACE_STAT_CRIT q = false ∧
    Claims.paceThr s.dev q F.RG_PACE_CFG_SHED_THR ≤ marginDown c ∧
    Claims.paceThr s.dev q F.RG_PACE_CFG_CRIT_THR ≤ marginDown c ∧
    (Claims.paceThr s.dev q F.RG_PACE_CFG_WARN_THR ≤ marginDown c ∨ s.dev.mild 0x3D) :=
  ⟨(w [(F.LU_BU_CTRL_EN, 255, 1), (F.LU_LINE_FRAME_RX_FMT, 255, 2), (F.LU_BU_STAT_STATE, 255, 10), (F.HUB_CLUSTER_MODE_DUPLEX, 0, 0xFFFFFFFF)] (onDev (fun d => { d with refa := 1021 }) ∘ onU (fun x => { x with tx := .data, rx := { slowRx := 600 } }))),
    7,
    255,
    600, by decide +kernel⟩

theorem test_PresetsLoadTheirTaps_1_6 :
    ∃ (p : Nat), 1 ≤ p ∧ p ≤ 5 :=
  ⟨5, by decide⟩

theorem test_PresetsLoadTheirTaps_2 :
    ∃ (s : State) (u : UnitId) (p : Fin 8), s.dev.off .lu u 0 = false ∧ s.dev.tst .lu u = false ∧
    1 ≤ p.val ∧ p.val ≤ 5 :=
  ⟨(w []), 255, 5, by decide⟩

theorem test_PresetsLoadTheirTaps_3 :
    ∃ (s : State) (u : UnitId), s.dev.off .lu u 0 = false ∧ s.dev.tst .lu u = true :=
  ⟨(w [] (onU (fun x => { x with underTest := true }))), 255, by decide⟩

theorem test_PresetsLoadTheirTaps_4 :
    ∃ (s : State) (u : UnitId) (p : Fin 8), (s.dev.off .lu u 0 = true ∨ s.dev.tst .lu u = false ∧ (p.val = 0 ∨ 5 < p.val)) :=
  ⟨(w []), 255, 7, by decide⟩

theorem test_EnablingAUnit_1 :
    ∃ (s : State) (u : UnitId) (v : Bool), s.dev.off .lu u 0 = false ∧
    (s.dev.tst .lu u = true ∨ s.dev.is F.LU_BU_CTRL_EN u = v) :=
  ⟨(w [(F.LU_BU_CTRL_EN, 255, 1)]), 255, true, by decide⟩

theorem test_EnablingAUnit_2 :
    ∃ (s : State) (u : UnitId), s.dev.off .lu u 0 = true :=
  ⟨(w [(F.LU_BU_CTRL_EN, 255, 1)] (onU (fun x => { x with inReset := true }))), 255, by decide⟩

theorem test_EnablingAUnit_3 :
    ∃ (s : State) (u : UnitId), s.dev.off .lu u 0 = false ∧ s.dev.tst .lu u = false ∧
    s.dev.is F.LU_BU_CTRL_EN u = true ∧ Claims.noRuns s.dev u ∧ Claims.portIdle s.dev u ∧
    Claims.aloneInData s.dev u :=
  ⟨(w [(F.LU_BU_CTRL_EN, 255, 1)]), 255, by decide⟩

theorem test_EnablingAUnit_4 :
    ∃ (s : State) (u v : UnitId), s.dev.off .lu u 0 = false ∧ s.dev.tst .lu u = false ∧
    s.dev.is F.LU_BU_CTRL_EN u = true ∧ Claims.noRuns s.dev u ∧ Claims.portIdle s.dev u ∧
    s.dev.inPort u = true ∧ (s.dev.cluster (u / 8)).hrxDsk.contains (s.dev.base u) = true ∧ v ≠ u ∧
    v.val ∈ s.dev.portUnits (s.dev.portOf u) ∧ (s.dev.unit v).tx = .data ∧
    (s.dev.unit v).txWant ≠ some .announce :=
  ⟨(w [(F.LU_BU_CTRL_EN, 255, 1), (F.CL_PORT_MAP_PORTS, 31, 0x99000000)] (onC (fun x => { x with hrxDsk := [6] }) ∘
      onDev (fun d => d.onUnit 254 (fun x => { x with tx := .data })))), 255, 254, by decide⟩

theorem test_EnablingAUnit_5 :
    ∃ (s : State) (u : UnitId), Claims.ready s.dev u ∧ s.dev.is F.LU_BU_CTRL_EN u = false :=
  ⟨(w []), 255, by decide⟩

theorem test_AttemptsStart_1 :
    ∃ (s : State) (u : UnitId), Claims.ready s.dev u ∧ s.dev.is F.LU_BU_CTRL_EN u = true :=
  ⟨(w [(F.LU_BU_CTRL_EN, 255, 1), (F.LU_BU_STAT_STATE, 255, 18)]), 255, by decide⟩

theorem test_AttemptsStart_2 :
    ∃ (s : State) (u : UnitId), s.dev.off .lu u 0 = false ∧ s.dev.tst .lu u = false ∧
    s.dev.get F.LU_BU_STAT_STATE u ≠ 18 :=
  ⟨(w [(F.LU_BU_STAT_STATE, 255, 17), (F.LU_BU_STAT_FAIL_CNT, 255, 15)]), 255, by decide⟩

theorem test_AttemptsStart_3 :
    ∃ (s : State) (u : UnitId), Claims.ready s.dev u ∧ s.dev.get F.LU_BU_STAT_STATE u = 18 :=
  ⟨(w [(F.LU_BU_STAT_STATE, 255, 18)]), 255, by decide⟩

theorem test_AttemptsStart_4_1 :
    ∃ (s : State) (u : UnitId), Claims.ready s.dev u ∧ s.dev.live u = true ∧
    s.dev.get F.LU_BU_STAT_STATE u = 17 ∧ (s.dev.unit u).boEnd ≤ s.dev.time :=
  ⟨(w [(F.LU_BU_STAT_STATE, 255, 17)] (onDev (fun d => { d with time := 5 }))), 255, by decide⟩

theorem test_AttemptsStart_4_2 :
    ∃ (s : State) (u : UnitId), Claims.ready s.dev u ∧ s.dev.live u = true ∧
    s.dev.get F.LU_BU_STAT_STATE u = 17 ∧ s.dev.time < (s.dev.unit u).boEnd :=
  ⟨(w [(F.LU_BU_STAT_STATE, 255, 17)] (onU (fun x => { x with boEnd := 5 }))), 255, by decide⟩

theorem test_AttemptsStart_4_3 :
    ∃ (s : State) (u : UnitId), Claims.ready s.dev u ∧ s.dev.live u = true ∧
    s.dev.get F.LU_BU_STAT_STATE u = 17 ∧ (s.dev.unit u).lostHold = false ∧
    32 ≤ (s.dev.unit u).rx.energetic :=
  ⟨(w [(F.LU_BU_STAT_STATE, 255, 17)] (onU (fun x => { x with rx := { energetic := 32 } }))), 255, by decide⟩

theorem test_AttemptsStart_4_4 :
    ∃ (s : State) (u : UnitId), Claims.ready s.dev u ∧ s.dev.live u = true ∧
    s.dev.get F.LU_BU_STAT_STATE u = 17 ∧
    ((s.dev.unit u).lostHold = true ∨ (s.dev.unit u).rx.energetic < 32) :=
  ⟨(w [(F.LU_BU_STAT_STATE, 255, 17)] (onU (fun x => { x with rx := { energetic := 31 } }))), 255, by decide⟩

theorem test_AttemptsFail_1 :
    ∃ (s : State) (u : UnitId), ((s.dev.limitAt u).map s.dev.due).getD false = false :=
  ⟨(w [(F.LU_BU_STAT_STATE, 255, 2)]), 255, by decide⟩

theorem test_AttemptsFail_2 :
    ∃ (s : State) (u : UnitId) (n : Nat) (p : Nat × Nat), p ∈ [(3, 3), (4, 4), (5, 6), (7, 7), (8, 8), (2, if s.dev.noEnergy u then 1 else 2)] ∧
    Claims.ready s.dev u ∧ s.dev.lineLive u = true ∧ s.dev.mild 0x38 ∧ s.dev.mild 0x24 ∧
    s.dev.limitAt u = some n ∧ s.dev.due n = true ∧ s.dev.phaseOf u = p.1 :=
  ⟨(w [(F.LU_BU_STAT_STATE, 255, 4)] (onDev (fun d => { d with refa := 4093 }))), 255, 4096, (4, 4), by decide⟩

theorem test_AttemptsFail_3_1 :
    ∃ (s : State) (u : UnitId), Claims.ready s.dev u ∧ s.dev.lineLive u = true ∧ s.dev.mild 0x38 ∧
    s.dev.mild 0x24 ∧ (s.dev.unit u).rx.trSeen = true ∧ 2 ≤ s.dev.phaseOf u ∧ s.dev.phaseOf u ≤ 8 ∧
    (s.dev.unit u).rx.silent < 1024 :=
  ⟨(w [(F.LU_BU_STAT_STATE, 255, 8), (F.LU_RX_STAT_TR_LOCK, 255, 1)] (onU (fun x => { x with rx := { silent := 1023, trSeen := true } }))),
    255, by decide⟩

theorem test_AttemptsFail_3_2 :
    ∃ (s : State) (u : UnitId), Claims.ready s.dev u ∧ s.dev.lineLive u = true ∧ s.dev.mild 0x38 ∧
    s.dev.mild 0x24 ∧ (s.dev.unit u).rx.trSeen = true ∧ 2 ≤ s.dev.phaseOf u ∧ s.dev.phaseOf u ≤ 8 ∧
    1024 ≤ (s.dev.unit u).rx.silent ∧ (s.dev.cluster (u / 8)).silent.length < 7 :=
  ⟨(w [(F.LU_BU_STAT_STATE, 255, 8), (F.LU_RX_STAT_TR_LOCK, 255, 1)] (onU (fun x => { x with rx := { silent := 1024, trSeen := true } }))),
    255, by decide⟩

theorem test_AttemptsFail_4 :
    ∃ (s : State) (u : UnitId), (s.dev.unit u).canc.copy = none :=
  ⟨(w []), 255, by decide⟩

theorem test_AttemptsFail_5 :
    ∃ (s : State) (u : UnitId) (secs : List Section), s.dev.live u = true ∧
    (s.dev.unit u).canc.copy = some secs :=
  ⟨(w [(F.LU_BU_STAT_LAST_REASON, 255, 15)] (onU (fun x => { x with canc := { copy := some [] } }))),
    255,
    [], by decide⟩

theorem test_Coefficients_1 :
    ∃ (s : State) (u : UnitId), ((s.dev.unit u).txBlock ≠ 0 ∨ s.dev.due ((s.dev.unit u).co.heardAt + 8) = false) :=
  ⟨(w [] (onU (fun x => { x with txBlock := 1 }))), 255, by decide⟩

theorem test_Coefficients_2_1 :
    ∃ (s : State) (u : UnitId), s.dev.live u = true ∧ s.dev.duplex (u / 8) = true ∧
    (s.dev.unit u).tx = .training ∧ (s.dev.unit u).txBlock = 0 ∧
    s.dev.due ((s.dev.unit u).co.heardAt + 8) = true ∧ (s.dev.unit u).co.holdSeen = true :=
  ⟨(w [] (onU (fun x => { x with tx := .training, co := { holdSeen := true } }) ∘ onDev (fun d => { d with refa := 5 }))),
    255, by decide⟩

theorem test_Coefficients_2_2 :
    ∃ (s : State) (u : UnitId) (tap : Fin 5) (up : Bool), s.dev.live u = true ∧
    s.dev.duplex (u / 8) = true ∧ (s.dev.unit u).tx = .training ∧ (s.dev.unit u).txBlock = 0 ∧
    s.dev.due ((s.dev.unit u).co.heardAt + 8) = true ∧ (s.dev.unit u).co.holdSeen = false ∧
    (s.dev.unit u).co.firNew = false ∧ (s.dev.unit u).co.pend = some ⟨tap, if up then 1 else 2, 0⟩ :=
  ⟨(w [] (onU (fun x => { x with tx := .training, co := { pend := some ⟨4, 1, 0⟩ } }) ∘ onDev (fun d => { d with refa := 5 }))),
    255,
    4,
    true, by decide⟩

theorem test_Coefficients_2_3 :
    ∃ (s : State) (u : UnitId) (p : Fin 8) (tap act : Nat), s.dev.live u = true ∧
    s.dev.duplex (u / 8) = true ∧ (s.dev.unit u).tx = .training ∧ (s.dev.unit u).txBlock = 0 ∧
    s.dev.due ((s.dev.unit u).co.heardAt + 8) = true ∧ (s.dev.unit u).co.holdSeen = false ∧
    (s.dev.unit u).co.firNew = false ∧ (s.dev.unit u).co.pend = some ⟨tap, act, p⟩ ∧ 1 ≤ p.val ∧
    p.val ≤ 5 :=
  ⟨(w [] (onU (fun x => { x with tx := .training, co := { pend := some ⟨0, 0, 5⟩ } }) ∘ onDev (fun d => { d with refa := 5 }))),
    255,
    5,
    0,
    0, by decide⟩

theorem test_Coefficients_3 :
    ∃ (s : State) (u : UnitId), ((s.dev.unit u).co.frames < 64 ∨ (s.dev.unit u).co.frames = 64 ∧ (s.dev.unit u).txBlock ≠ 0) :=
  ⟨(w [] (onU (fun x => { x with tx := .training, txBlock := 39, co := { frames := 64 } }))), 255, by decide⟩

theorem test_Coefficients_4_1 :
    ∃ (s : State) (u : UnitId) (r : CoefReq), s.dev.live u = true ∧
    (64 < (s.dev.unit u).co.frames ∨ (s.dev.unit u).co.frames = 64 ∧ (s.dev.unit u).txBlock = 0) ∧
    (s.dev.unit u).co.req = some r ∧ 3 ≤ (s.dev.unit u).co.abandoned ∧
    (s.dev.unit u).co.counted = false :=
  ⟨(w [] (onU (fun x => { x with tx := .training, co := { req := some ⟨0, 1, 0⟩, abandoned := 3, frames := 64 } }))),
    255,
    ⟨0, 1, 0⟩, by decide⟩

theorem test_Coefficients_4_2 :
    ∃ (s : State) (u : UnitId) (r : CoefReq), s.dev.live u = true ∧
    (64 < (s.dev.unit u).co.frames ∨ (s.dev.unit u).co.frames = 64 ∧ (s.dev.unit u).txBlock = 0) ∧
    (s.dev.unit u).co.req = some r ∧ (s.dev.unit u).co.abandoned < 3 ∧
    (s.dev.unit u).co.holding = false ∧ r.preset ≠ 0 :=
  ⟨(w [] (onU (fun x => { x with tx := .training, co := { req := some ⟨0, 0, 1⟩, abandoned := 2, frames := 64 } }))),
    255,
    ⟨0, 0, 1⟩, by decide⟩

theorem test_Coefficients_4_3 :
    ∃ (s : State) (u : UnitId) (r : CoefReq), s.dev.live u = true ∧
    (64 < (s.dev.unit u).co.frames ∨ (s.dev.unit u).co.frames = 64 ∧ (s.dev.unit u).txBlock = 0) ∧
    (s.dev.unit u).co.req = some r ∧ (s.dev.unit u).co.abandoned < 3 ∧
    (s.dev.unit u).co.holding = true ∧ (s.dev.unit u).co.presetDue = none ∧
    (s.dev.unit u).srch.want = none ∧
    ((s.dev.unit u).co.counted = true ∨ (s.dev.unit u).srch.phase = .off) :=
  ⟨(w [] (onU (fun x => { x with tx := .training, co := { req := some ⟨0, 1, 0⟩, abandoned := 2, frames := 64, holding := true } }))),
    255,
    ⟨0, 1, 0⟩, by decide⟩

theorem test_Coefficients_4_4 :
    ∃ (s : State) (u : UnitId) (r : CoefReq) (a : SearchSt × Bool), s.dev.live u = true ∧
    (64 < (s.dev.unit u).co.frames ∨ (s.dev.unit u).co.frames = 64 ∧ (s.dev.unit u).txBlock = 0) ∧
    (s.dev.unit u).co.req = some r ∧
    (s.dev.unit u).srchWas.answered 0 (s.dev.get F.LU_BU_NEG_TRIALS u) = a ∧
    (s.dev.unit u).co.abandoned < 3 ∧ (s.dev.unit u).co.holding = true ∧
    (s.dev.unit u).co.counted = false ∧ (s.dev.unit u).co.presetDue = none ∧ r.preset = 0 ∧
    (s.dev.unit u).srch.phase ≠ .off ∧ (s.dev.unit u).srch.phase ≠ .done :=
  ⟨(w [] (onU (fun x => { x with
      tx := .training, srch := { phase := .step }, co := { req := some ⟨0, 1, 0⟩, abandoned := 2, frames := 64, holding := true } }))),
    255, ⟨0, 1, 0⟩, _, by decide, by decide, by decide, rfl, by decide⟩

theorem test_Coefficients_5_1 :
    ∃ (s : State) (u : UnitId) (p : Fin 8), s.dev.off .lu u 0 = false ∧ s.dev.tst .lu u = false ∧
    1 ≤ p.val ∧ p.val ≤ 5 ∧ s.dev.duplex (u / 8) = true ∧ 4 ≤ s.dev.phaseOf u ∧ s.dev.phaseOf u ≤ 8 :=
  ⟨(w [(F.LU_BU_STAT_STATE, 255, 8)]), 255, 5, by decide⟩

theorem test_Coefficients_5_2 :
    ∃ (s : State) (u : UnitId) (p : Fin 8), s.dev.off .lu u 0 = false ∧ s.dev.tst .lu u = false ∧
    1 ≤ p.val ∧ p.val ≤ 5 ∧ (s.dev.phaseOf u < 4 ∨ 8 < s.dev.phaseOf u) :=
  ⟨(w [(F.LU_BU_STAT_STATE, 255, 9)]), 255, 5, by decide⟩

theorem test_SimplexLanes_1_1 :
    ∃ (s : State) (u : UnitId), s.dev.pathLive u = true ∧ s.dev.duplex (u / 8) = false ∧
    s.dev.get F.LU_BU_STAT_STATE u = 11 ∧ s.dev.inPort u = false :=
  ⟨(w [(F.HUB_CLUSTER_MODE_DUPLEX, 0, 0x7FFFFFFF), (F.LU_BU_STAT_STATE, 251, 11)]), 251, by decide⟩

theorem test_SimplexLanes_1_2 :
    ∃ (s : State) (u : UnitId), s.dev.pathLive u = true ∧ s.dev.duplex (u / 8) = false ∧
    s.dev.get F.LU_BU_STAT_STATE u = 11 ∧ Claims.noRuns s.dev u ∧ Claims.portIdle s.dev u ∧
    s.dev.mild 0x38 ∧ s.dev.mild 0x24 :=
  ⟨(w [(F.HUB_CLUSTER_MODE_DUPLEX, 0, 0x7FFFFFFF), (F.LU_BU_STAT_STATE, 251, 11)]), 251, by decide⟩

theorem test_SimplexLanes_2 :
    ∃ (s : State) (u : UnitId), s.dev.pathLive u = true ∧ s.dev.duplex (u / 8) = false ∧
    s.dev.get F.LU_BU_STAT_STATE u = 10 ∧ Claims.noRuns s.dev u ∧ Claims.portIdle s.dev u ∧
    s.dev.mild 0x20 :=
  ⟨(w [(F.HUB_CLUSTER_MODE_DUPLEX, 0, 0x7FFFFFFF), (F.LU_BU_STAT_STATE, 251, 10)]), 251, by decide⟩

theorem test_SimplexLanes_3 :
    ∃ (s : State) (u : UnitId) (c : Instr), c ∈ (if s.dev.is F.LU_BU_CTRL_EN u then [Instr.retrain u] else [Instr.en u true]) ∧
    s.dev.off .lu u 0 = false ∧ s.dev.tst .lu u = false ∧ s.dev.duplex (u / 8) = false ∧
    u.val % 8 < 4 ∧ Claims.noRuns s.dev u ∧ Claims.portIdle s.dev u :=
  ⟨(w [(F.HUB_CLUSTER_MODE_DUPLEX, 0, 0x7FFFFFFF), (F.LU_BU_CTRL_EN, 251, 1)]), 251, .retrain 251, by decide⟩

theorem test_HostLanes_1_1 :
    ∃ (s : State) (u : UnitId), s.dev.hrxLive u = true ∧ s.dev.hrx u = 1 :=
  ⟨(w [(F.CL_PORT_MAP_PORTS, 31, 0x80000000), ((F.DIE_XBAR_U_VALID 63), 3, 1), (F.LU_HOST_STAT_HRX_STATE, 255, 1)]),
    255, by decide⟩

theorem test_HostLanes_1_2 :
    ∃ (s : State) (u : UnitId), s.dev.hrxLive u = true ∧ (s.dev.hrx u = 2 ∨ s.dev.hrx u = 3) :=
  ⟨(w [(F.CL_PORT_MAP_PORTS, 31, 0x80000000), ((F.DIE_XBAR_U_VALID 63), 3, 1), (F.LU_HOST_STAT_HRX_STATE, 255, 3)]),
    255, by decide⟩

theorem test_HostLanes_1_3 :
    ∃ (s : State) (u : UnitId), s.dev.hrxLive u = true ∧ s.dev.hrx u = 2 ∧
    s.dev.get F.LU_PAT_CTRL_CHK_PT u ≠ 2 :=
  ⟨(w [(F.CL_PORT_MAP_PORTS, 31, 0x80000000), ((F.DIE_XBAR_U_VALID 63), 3, 1), (F.LU_HOST_STAT_HRX_STATE, 255, 2)]),
    255, by decide⟩

theorem test_HostLanes_1_4 :
    ∃ (s : State) (u : UnitId), s.dev.hrxLive u = true ∧ (s.dev.hrx u = 3 ∨ s.dev.hrx u = 4) ∧
    Claims.portIdle s.dev u ∧ (s.dev.hrx u = 4 → (s.dev.unit u).tx ≠ .data) :=
  ⟨(w [(F.CL_PORT_MAP_PORTS, 31, 0x80000000), ((F.DIE_XBAR_U_VALID 63), 3, 1), (F.LU_HOST_STAT_HRX_STATE, 255, 4)]),
    255, by decide⟩

theorem test_HostLanes_1_5_1 :
    ∃ (s : State) (u : UnitId), s.dev.hrxLive u = true ∧ (s.dev.hrx u = 2 ∨ s.dev.hrx u = 3) ∧
    s.dev.get F.LU_PAT_CTRL_CHK_PT u ≠ 2 ∧ s.dev.mild 0x3A ∧
    s.dev.due ((s.dev.unit u).host.hrxAt + (if s.dev.hrx u = 2 then 131072 else 331776)) = true :=
  ⟨(w [(F.CL_PORT_MAP_PORTS, 31, 0x80000000), ((F.DIE_XBAR_U_VALID 63), 3, 1), (F.LU_HOST_STAT_HRX_STATE, 255, 3)] (onDev (fun d => { d with refa := 331773 }))),
    255, by decide⟩

theorem test_HostLanes_1_5_2 :
    ∃ (s : State) (u : UnitId), s.dev.hrxLive u = true ∧ (s.dev.hrx u = 2 ∨ s.dev.hrx u = 3) ∧
    s.dev.get F.LU_PAT_CTRL_CHK_PT u ≠ 2 ∧ s.dev.mild 0x3A ∧
    s.dev.due ((s.dev.unit u).host.hrxAt + (if s.dev.hrx u = 2 then 131072 else 331776)) = false :=
  ⟨(w [(F.CL_PORT_MAP_PORTS, 31, 0x80000000), ((F.DIE_XBAR_U_VALID 63), 3, 1), (F.LU_HOST_STAT_HRX_STATE, 255, 3)] (onDev (fun d => { d with refa := 331772 }))),
    255, by decide⟩

theorem test_HostLanes_2_1 :
    ∃ (s : State) (u : UnitId), s.dev.hrxLive u = true ∧ s.dev.hrx u = 4 ∧
    s.dev.is F.LU_HOST_STAT_AM_LOCK u = true ∧ s.dev.mayQuiet u true = true :=
  ⟨(w [(F.CL_PORT_MAP_PORTS, 31, 0x80000000), ((F.DIE_XBAR_U_VALID 63), 3, 1), (F.LU_HOST_STAT_HRX_STATE, 255, 4), (F.LU_HOST_STAT_AM_LOCK, 255, 1), ((F.PWR_LTR_VALUE 255), 0, 600), (F.LU_BU_NEG_FAR_CAP, 255, 15), (F.PWR_CFG_QUIET_EN, 0, 255)] (onU (fun x => { x with tx := .data }) ∘ onDev (fun d => { d with img := { d.img with pwrWords := List.replicate 9 7 } }))),
    255, by decide⟩

theorem test_HostLanes_2_2 :
    ∃ (s : State) (u : UnitId), s.dev.hrxLive u = true ∧ s.dev.hrx u = 5 :=
  ⟨(w [(F.CL_PORT_MAP_PORTS, 31, 0x80000000), ((F.DIE_XBAR_U_VALID 63), 3, 1), (F.LU_HOST_STAT_HRX_STATE, 255, 5)]),
    255, by decide⟩

theorem test_HostLanes_2_3 :
    ∃ (s : State) (u : UnitId), s.dev.hrxAsleep u = true ∧ s.dev.hrx u = 5 ∧
    s.dev.idleUnit u = false ∧ s.dev.get F.RG_PWR_STAT_STATE (u / 32) = 2 :=
  ⟨(w [(F.CL_PORT_MAP_PORTS, 31, 0x80000000), ((F.DIE_XBAR_U_VALID 63), 3, 1), (F.LU_HOST_STAT_HRX_STATE, 255, 5), (F.LU_BU_CTRL_EN, 255, 1), (F.RG_PWR_STAT_STATE, 7, 2)]),
    255, by decide⟩

theorem test_HostMarkersAndPorts_1_1 :
    ∃ (s : State) (u : UnitId) (m : Nat), (s.dev.hrxLive u = false ∨ s.dev.hostValid u m = none) :=
  ⟨(w [(F.CL_PORT_MAP_PORTS, 31, 0x80000000), ((F.DIE_XBAR_U_VALID 63), 3, 1), (F.LU_HOST_STAT_HRX_STATE, 255, 3)]),
    255,
    7, by decide⟩

theorem test_HostMarkersAndPorts_1_2_1 :
    ∃ (s : State) (u : UnitId) (m : Nat), s.dev.hrxLive u = true ∧ s.dev.hrx u = 3 ∧
    s.dev.width u = 1 ∧ s.dev.hostValid u m = some true ∧
    ((s.dev.unit u).host.firstAm.contains (m - amPeriod) = false ∨ m < amPeriod) :=
  ⟨hostState 3 amList (240) [] 0, 255, 0, by decide, by decide, by decide, host_yes _ rfl rfl, by decide⟩

theorem test_HostMarkersAndPorts_1_2_2 :
    ∃ (s : State) (u : UnitId) (m : Nat), s.dev.hrxLive u = true ∧ s.dev.hrx u = 3 ∧
    s.dev.width u = 1 ∧ s.dev.hostValid u m = some true ∧ amPeriod ≤ m ∧
    (s.dev.unit u).host.firstAm.contains (m - amPeriod) = true :=
  ⟨hostState 3 amList (amPeriod + 240) [0] 0, 255, amPeriod, by decide, by decide, by decide, host_yes _ rfl rfl, by decide, by decide⟩

theorem test_HostMarkersAndPorts_1_2_3 :
    ∃ (s : State) (u : UnitId) (m : Nat), s.dev.hrxLive u = true ∧ s.dev.hrx u = 3 ∧
    s.dev.width u = 1 ∧ s.dev.hostValid u m = some false :=
  ⟨hostState 3 amNot (240) [] 0, 255, 0, by decide, by decide, by decide, host_no _ rfl rfl⟩

theorem test_HostMarkersAndPorts_1_3_1 :
    ∃ (s : State) (u : UnitId) (m : Nat) (valid : Bool), s.dev.hrxLive u = true ∧ s.dev.hrx u = 4 ∧
    s.dev.hostValid u m = some valid ∧
    ((s.dev.unit u).host.amPos < m → m % amPeriod ≠ (s.dev.unit u).host.amPos % amPeriod) :=
  ⟨hostState 4 amList (240) [] 0, 255, 0, true, by decide, by decide, host_yes _ rfl rfl, by decide⟩

theorem test_HostMarkersAndPorts_1_3_2_1 :
    ∃ (s : State) (u : UnitId) (m : Nat) (valid : Bool), s.dev.hrxLive u = true ∧ s.dev.hrx u = 4 ∧
    s.dev.hostValid u m = some valid ∧ (s.dev.unit u).host.amPos < m ∧
    m % amPeriod = (s.dev.unit u).host.amPos % amPeriod ∧ valid = false ∧
    (s.dev.unit u).host.badAm < 3 :=
  ⟨hostState 4 amNot (amPeriod + 240) [] 2, 255, amPeriod, false, by decide, by decide, host_no _ rfl rfl, by decide, by decide, rfl, by decide⟩

theorem test_HostMarkersAndPorts_1_3_2_2 :
    ∃ (s : State) (u : UnitId) (m : Nat) (valid : Bool), s.dev.hrxLive u = true ∧ s.dev.hrx u = 4 ∧
    s.dev.hostValid u m = some valid ∧ (s.dev.unit u).host.amPos < m ∧
    m % amPeriod = (s.dev.unit u).host.amPos % amPeriod ∧ valid = true ∧
    s.dev.hostSet (s.dev.portOf u) = true :=
  ⟨hostState 4 amList (amPeriod + 240) [] 2, 255, amPeriod, true, by decide, by decide, host_yes _ rfl rfl, by decide, by decide, rfl, by decide⟩

theorem test_HostMarkersAndPorts_1_3_2_3 :
    ∃ (s : State) (u : UnitId) (m : Nat) (valid : Bool), s.dev.hrxLive u = true ∧ s.dev.hrx u = 4 ∧
    s.dev.hostValid u m = some valid ∧ (s.dev.unit u).host.amPos < m ∧
    m % amPeriod = (s.dev.unit u).host.amPos % amPeriod ∧ valid = false ∧
    3 ≤ (s.dev.unit u).host.badAm ∧ Claims.portIdle s.dev u ∧ (s.dev.unit u).tx ≠ .data :=
  ⟨hostState 4 amNot (amPeriod + 240) [] 3, 255, amPeriod, false, by decide, by decide, host_no _ rfl rfl, by decide, by decide, rfl, by decide, by decide, by decide⟩

theorem test_HostMarkersAndPorts_2_1 :
    ∃ (s : State) (p : UnitId), s.dev.pathLive p = true ∧ s.dev.isPort p = true ∧
    s.dev.portOk p = true ∧ s.dev.portUp p = false :=
  ⟨(w [(F.CL_PORT_MAP_PORTS, 31, 0x80000000), ((F.DIE_XBAR_U_VALID 63), 3, 1), (F.LU_BU_CTRL_EN, 255, 1), (F.LU_HOST_STAT_AM_LOCK, 255, 1), (F.LU_LINE_FRAME_RX_FMT, 255, 2)] (onU (fun x => { x with tx := .data }) ∘ onC (fun x => { x with lineDsk := [7], hrxDsk := [7] }))),
    255, by decide⟩

theorem test_HostMarkersAndPorts_2_2 :
    ∃ (s : State) (u : UnitId), s.dev.dieRuns (u / 64) = true ∧ s.dev.inPort u = false ∧
    (s.dev.unit u).host.fill = false :=
  ⟨(w []), 255, by decide⟩

theorem test_HostMarkersAndPorts_2_3 :
    ∃ (s : State) (u : UnitId), s.dev.dieRuns (u / 64) = true ∧ s.dev.inPort u = true ∧
    (∀ v ∈ s.dev.portUnits (s.dev.portOf u), (s.dev.unit v).host.fill = false) :=
  ⟨(w [(F.LU_BU_CTRL_EN, 255, 1), (F.CL_PORT_MAP_PORTS, 31, 0x80000000), ((F.DIE_XBAR_U_VALID 63), 3, 1)]),
    255, by decide⟩

theorem test_MonitoringAndTests_1_1 :
    ∃ (s : State) (u : UnitId), s.dev.due (s.dev.unit u).mon.stop = false :=
  ⟨(w []), 255, by decide⟩

theorem test_MonitoringAndTests_1_2 :
    ∃ (s : State) (u : UnitId), s.dev.live u = true ∧ s.dev.due (s.dev.unit u).mon.stop = true ∧
    0 < (s.dev.unit u).mon.acc.est ∧
    s.dev.get F.CL_MON_CFG_LQI_THR (u / 8) ≤ (s.dev.unit u).mon.acc.low ∧
    (s.dev.unit u).mon.acc.low ≤ 0xFFE ∧ (s.dev.unit u).mon.acc.high ≤ 0xFFE ∧
    (s.dev.unit u).mon.acc.symErr ≤ s.dev.get F.CL_MON_CFG_SYM_M (u / 8) * 2 ^ s.dev.get F.CL_MON_CFG_SYM_E (u / 8) ∧
    (s.dev.unit u).mon.acc.uncorr = 0 :=
  ⟨(w [(F.CL_MON_CFG_LQI_THR, 31, 100)] (onU (fun x => { x with mon := { stop := 3, acc := { est := 1, sum := 200, low := 200, high := 200 } } }))),
    255, by decide⟩

theorem test_MonitoringAndTests_1_3 :
    ∃ (s : State) (u : UnitId), s.dev.off .lu u 0 = false ∧ s.dev.tst .lu u = false :=
  ⟨(w []), 255, by decide⟩

theorem test_MonitoringAndTests_2_1 :
    ∃ (s : State) (u : UnitId), s.dev.live u = true :=
  ⟨(w []), 255, by decide⟩

theorem test_MonitoringAndTests_2_2_1 :
    ∃ (s : State) (u : UnitId), s.dev.live u = true ∧ s.dev.is F.LU_PAT_CTRL_PAT_LOCK u = false ∧
    ((s.dev.get F.LU_PAT_CTRL_CHK_PT u = 1 ∧ s.dev.rxData u = true) ∨ (s.dev.get F.LU_PAT_CTRL_CHK_PT u = 2 ∧ s.dev.is F.LU_HOST_STAT_CDR_LOCK u = true)) ∧
    256 ≤ (s.dev.unit u).mon.chkRun :=
  ⟨(w [(F.LU_PAT_CTRL_CHK_PT, 255, 2), (F.LU_HOST_STAT_CDR_LOCK, 255, 1)] (onU (fun x => { x with mon := { chkRun := 256 } }))),
    255, by decide⟩

theorem test_MonitoringAndTests_2_2_2 :
    ∃ (s : State) (u : UnitId), s.dev.live u = true ∧ s.dev.is F.LU_PAT_CTRL_PAT_LOCK u = false ∧
    ((s.dev.get F.LU_PAT_CTRL_CHK_PT u = 1 ∧ s.dev.rxData u = true) ∨ (s.dev.get F.LU_PAT_CTRL_CHK_PT u = 2 ∧ s.dev.is F.LU_HOST_STAT_CDR_LOCK u = true)) ∧
    (s.dev.unit u).mon.chkRun < 256 :=
  ⟨(w [(F.LU_PAT_CTRL_CHK_PT, 255, 2), (F.LU_HOST_STAT_CDR_LOCK, 255, 1)] (onU (fun x => { x with mon := { chkRun := 255 } }))),
    255, by decide⟩

theorem test_MonitoringAndTests_2_3_1 :
    ∃ (s : State) (u : UnitId), s.dev.live u = true ∧ s.dev.is F.LU_PAT_CTRL_PAT_LOCK u = true ∧
    32 ≤ ((s.dev.unit u).mon.chkWin.filter id).length :=
  ⟨(w [(F.LU_PAT_CTRL_PAT_LOCK, 255, 1)] (onU (fun x => { x with mon := { chkWin := List.replicate 32 true } }))),
    255, by decide⟩

theorem test_MonitoringAndTests_2_3_2 :
    ∃ (s : State) (u : UnitId), s.dev.live u = true ∧ s.dev.is F.LU_PAT_CTRL_PAT_LOCK u = true ∧
    ((s.dev.unit u).mon.chkWin.filter id).length < 32 :=
  ⟨(w [(F.LU_PAT_CTRL_PAT_LOCK, 255, 1)] (onU (fun x => { x with mon := { chkWin := List.replicate 31 true } }))),
    255, by decide⟩

theorem test_MonitoringAndTests_2_4_1 :
    ∃ (s : State) (u : UnitId), s.dev.off .lu u 0 = false ∧ s.dev.tst .lu u = false :=
  ⟨(w []), 255, by decide⟩

theorem test_MonitoringAndTests_2_4_2 :
    ∃ (s : State) (u : UnitId), s.dev.off .lu u 0 = false ∧ s.dev.tst .lu u = false :=
  ⟨(w []), 255, by decide⟩

theorem test_MonitoringAndTests_2_5_1 :
    ∃ (s : State) (u : UnitId) (p : InjSt) (start : Nat), s.dev.live u = true ∧
    (s.dev.unit u).mon.inj = some p ∧ (p.host = true ∨ s.dev.linePayload u = true) ∧
    (s.dev.unit u).mon.hit = none ∧
    start = max p.next (136 * s.dev.refa - 408) + toCw (if p.host then s.dev.grid u else s.dev.txGrid u) (max p.next (136 * s.dev.refa - 408)) ∧
    136 * (s.dev.refa + 40) < start :=
  ⟨(w [] (onC (fun x => { x with grids := [(7, 0)] }) ∘ onU (fun x => { x with mon := { inj := some ⟨0, 15, true, 5441⟩ } }))),
    255,
    ⟨0, 15, true, 5441⟩,
    10880, by decide⟩

theorem test_MonitoringAndTests_2_5_2 :
    ∃ (s : State) (u : UnitId) (p : InjSt) (start : Nat), s.dev.live u = true ∧
    (s.dev.unit u).mon.inj = some p ∧ (p.host = true ∨ s.dev.linePayload u = true) ∧
    (s.dev.unit u).mon.hit = none ∧
    start = max p.next (136 * s.dev.refa - 408) + toCw (if p.host then s.dev.grid u else s.dev.txGrid u) (max p.next (136 * s.dev.refa - 408)) ∧
    start ≤ 136 * (s.dev.refa + 40) :=
  ⟨(w [] (onC (fun x => { x with grids := [(7, 0)] }) ∘ onU (fun x => { x with mon := { inj := some ⟨0, 15, true, 1⟩ } }))), 255, ⟨0, 15, true, 1⟩, 5440, by decide⟩

theorem test_MonitoringAndTests_3_1 :
    ∃ (s : State) (u : UnitId) (r : ScanSt), (s.dev.cluster (u / 8)).scan = some r ∧
    r.lane = u.val % 8 ∧ r.mode = 2 ∧ r.pts.length < 1023 :=
  ⟨(w [] (onC (fun x => { x with scan := some { slot := 0, lane := 7, todo := [], mode := 2, dw := 10, target := 0, pts := List.replicate 1022 (0, 0, 0, 0, 0) } }))),
    255,
    { slot := 0, lane := 7, todo := [], mode := 2, dw := 10, target := 0, pts := List.replicate 1022 (0, 0, 0, 0, 0) }, by decide +kernel⟩

theorem test_MonitoringAndTests_3_2_1 :
    ∃ (s : State) (u : UnitId) (r : DiagSt) (n : Nat × Nat) (b : Nat), (s.dev.cluster (u / 8)).diag = some r ∧
    r.mode = 3 ∧ r.lane = u.val % 8 ∧ r.reason = 0 ∧ (s.dev.unit u).canc.probe = some b ∧
    s.dev.nextDwell u r.against (r.pos + 1) = some n ∧
    (s.dev.live u = false ∨ s.dev.dwelt u 12 4096 = false) :=
  ⟨(w [(F.CL_RB_POOL_BLOCKS, 31, 9), (F.CL_RB_ALLOC_WIN_COUNT, 31, 2), (F.CL_RB_ALLOC_DENSE_TAPS, 31, 16), (F.CL_RB_ALLOC_NEXT_TAPS, 31, 0)] (onC (fun x => { x with diag := some { slot := 0, mode := 3, lane := 7, todo := [], against := 7, pos := 60 } }) ∘ onU (fun x => { x with canc := { probe := some 8 } }))),
    255,
    { slot := 0, mode := 3, lane := 7, todo := [], against := 7, pos := 60 },
    (7, 61),
    8, by decide +kernel⟩

theorem test_MonitoringAndTests_3_2_2 :
    ∃ (s : State) (u : UnitId) (r : DiagSt) (n : Nat × Nat) (b : Nat), (s.dev.cluster (u / 8)).diag = some r ∧
    r.mode = 3 ∧ r.lane = u.val % 8 ∧ r.reason = 0 ∧ (s.dev.unit u).canc.probe = some b ∧
    s.dev.nextDwell u r.against (r.pos + 1) = some n ∧ s.dev.live u = true ∧
    s.dev.dwelt u 12 4096 = true :=
  ⟨(w [(F.CL_RB_POOL_BLOCKS, 31, 9), (F.CL_RB_ALLOC_WIN_COUNT, 31, 2), (F.CL_RB_ALLOC_DENSE_TAPS, 31, 16), (F.CL_RB_ALLOC_NEXT_TAPS, 31, 0)] (onDev (fun d => { d with refa := 4093 }) ∘ onC (fun x => { x with diag := some { slot := 0, mode := 3, lane := 7, todo := [], against := 7, pos := 60 } }) ∘ onU (fun x => { x with canc := { probe := some 8 } }))),
    255,
    { slot := 0, mode := 3, lane := 7, todo := [], against := 7, pos := 60 },
    (7, 61),
    8, by decide +kernel⟩

theorem test_ImagesLoad_1_1 :
    ∃ (s : State), (∀ l, s.dev.img.load = some l → ¬ Claims.pushes l) :=
  ⟨w [], fun _ h => nomatch h⟩

theorem test_ImagesLoad_1_2 :
    ∃ (s : State) (l : LoadSt), s.dev.img.load = some l ∧ Claims.pushes l ∧ 256 ≤ l.bytes.length :=
  ⟨(w [] (onDev (fun d => { d with img := { d.img with load := some { slot := none, source := 3, bytes := List.replicate 8 0 ++ [4, 1] ++ List.replicate 246 0 } } }))),
    { slot := none, source := 3, bytes := List.replicate 8 0 ++ [4, 1] ++ List.replicate 246 0 }, by decide +kernel⟩

theorem test_ImagesLoad_1_3 :
    ∃ (s : State) (l : LoadSt) (k : Nat) (e : OpEntry), s.dev.img.load = some l ∧ Claims.pushes l ∧
    l.slot = some k ∧ Claims.openEntry s.dev k e :=
  ⟨(w [] (onDev (fun d => { d with img := { d.img with load := some { slot := some 1023, source := 3, bytes := List.replicate 8 0 ++ [4, 1] ++ List.replicate 246 0 } }, opt := { entries := [(1023, { handle := 0xFFFF, opcode := 0x18, posted := 0, args := [], target := .package, order := 0, state := .running })], gens := [(1023, 63)] } }))),
    { slot := some 1023, source := 3, bytes := List.replicate 8 0 ++ [4, 1] ++ List.replicate 246 0 },
    1023,
    { handle := 0xFFFF, opcode := 0x18, posted := 0, args := [], target := .package, order := 0, state := .running }, by decide +kernel⟩

theorem test_ImagesLoad_2_1 :
    ∃ (s : State) (l : LoadSt) (k : Nat) (e : OpEntry), s.dev.img.load = some l ∧
    l.committed = false ∧ l.verified = false ∧ l.whole = true ∧ l.slot = some k ∧
    Claims.openEntry s.dev k e ∧
    checkImage s.keep.fuses s.keep.nv (s.dev.is F.SEC_LC_OWNER_LOADED 0) l.source l.bytes ≠ 0 :=
  ⟨(w [] (onDev (fun d => { d with img := { d.img with load := some { slot := some 1023, source := 3, bytes := List.replicate 256 0 } }, opt := { entries := [(1023, { handle := 0xFFFF, opcode := 0x18, posted := 0, args := [], target := .package, order := 0, state := .running })], gens := [(1023, 63)] } }))),
    { slot := some 1023, source := 3, bytes := List.replicate 256 0 },
    1023,
    { handle := 0xFFFF, opcode := 0x18, posted := 0, args := [], target := .package, order := 0, state := .running }, by decide +kernel⟩

theorem test_ImagesLoad_2_2 :
    ∃ (s : State) (l : LoadSt), s.dev.img.load = some l ∧ l.committed = false ∧ l.verified = false ∧
    l.whole = true ∧ l.slot = none :=
  ⟨(w [] (onDev (fun d => { d with img := { d.img with load := some { slot := none, source := 3, bytes := List.replicate 256 0 } } }))),
    { slot := none, source := 3, bytes := List.replicate 256 0 }, by decide +kernel⟩

theorem test_ImagesLoad_2_3 :
    ∃ (s : State) (l : LoadSt), s.dev.img.load = some l ∧ l.committed = false ∧ l.verified = false ∧
    l.whole = true ∧ l.slot.isSome = true ∧ s.dev.get F.SEC_BL_STAT_STEP 0 ≠ 8 :=
  ⟨(w [] (onDev (fun d => { d with img := { d.img with load := some { slot := some 1023, source := 3, bytes := List.replicate 256 0 } }, opt := { entries := [(1023, { handle := 0xFFFF, opcode := 0x18, posted := 0, args := [], target := .package, order := 0, state := .running })], gens := [(1023, 63)] } }))),
    { slot := some 1023, source := 3, bytes := List.replicate 256 0 }, by decide +kernel⟩

theorem test_RegionsAndFirmware_1_1 :
    ∃ (s : State) (q : RegionId) (l : LoadSt), s.dev.img.load = some l ∧ l.committed = true ∧
    l.todo.head? = some q.val ∧ s.dev.stepOpen l q = true ∧ s.dev.safe = false ∧
    Claims.needsStep s l q = true ∧ s.dev.regionTested q = true :=
  ⟨(w [] (onDev (fun d => { d with img := { d.img with load := some { slot := none, source := 3, committed := true, todo := [7] }, applied := [(7, [1])] } }) ∘ onQ (fun x => { x with underTest := true }))),
    7,
    { slot := none, source := 3, committed := true, todo := [7] }, by decide⟩

theorem test_RegionsAndFirmware_1_2 :
    ∃ (s : State) (q : RegionId) (l : LoadSt), s.dev.img.load = some l ∧ l.committed = true ∧
    l.todo.head? = some q.val ∧ s.dev.stepOpen l q = true ∧ s.dev.safe = false ∧
    Claims.needsStep s l q = true ∧ s.dev.regionTested q = false ∧ s.dev.regionTxn q = false ∧
    s.dev.asleep q = true :=
  ⟨(w [(F.RG_PWR_STAT_STATE, 7, 2)] (onDev (fun d => { d with img := { d.img with load := some { slot := none, source := 3, committed := true, todo := [7] }, applied := [(7, [1])] } }))),
    7,
    { slot := none, source := 3, committed := true, todo := [7] }, by decide⟩

theorem test_RegionsAndFirmware_1_3 :
    ∃ (s : State) (q : RegionId) (l : LoadSt), s.dev.img.load = some l ∧ l.committed = true ∧
    l.todo.head? = some q.val ∧ s.dev.stepOpen l q = true ∧ s.dev.safe = false ∧
    Claims.needsStep s l q = true ∧ s.dev.regionTested q = false ∧ s.dev.regionTxn q = false ∧
    s.dev.asleep q = false :=
  ⟨(w [] (onDev (fun d => { d with img := { d.img with load := some { slot := none, source := 3, committed := true, todo := [7] }, applied := [(7, [1])] } }))),
    7,
    { slot := none, source := 3, committed := true, todo := [7] }, by decide⟩

theorem test_RegionsAndFirmware_1_4 :
    ∃ (s : State) (q : RegionId) (l : LoadSt) (x : List Byte × List Byte), s.dev.img.load = some l ∧
    l.committed = true ∧ l.todo.head? = some q.val ∧ s.dev.stepOpen l q = true ∧ s.dev.safe = false ∧
    (s.dev.region q).again = false ∧ q.val ∉ l.refused ∧ s.keep.nv.bank.regions.find q.val = some x ∧
    l.force = false ∧ s.dev.img.applied.find q.val = some x.1 ∧ s.dev.regionIsLive q = true ∧
    l.todo = [q.val] ∧ l.fwChanged = false ∧ l.switching = false ∧ l.slot = none :=
  ⟨{ (w [(F.HUB_TOPO_REGION_LIVE, 0, 255)] (onDev (fun d => { d with img := { d.img with load := some { slot := none, source := 3, committed := true, todo := [7] }, applied := [(7, [1])] } }))) with keep := { nv := { cur := some false, bank0 := { regions := [(7, ([1], [2]))] } } } },
    7,
    { slot := none, source := 3, committed := true, todo := [7] },
    ([1], [2]), by decide⟩

theorem test_RegionsAndFirmware_2 :
    ∃ (s : State) (q : RegionId) (l : LoadSt) (k : Nat) (e : OpEntry), s.dev.img.load = some l ∧
    l.committed = true ∧ l.todo = [q.val] ∧ (s.dev.region q).step = 6 ∧ l.fwChanged = false ∧
    l.switching = false ∧ l.slot = some k ∧ Claims.openEntry s.dev k e ∧ l.source = 3 :=
  ⟨(w [] (onDev (fun d => { d with img := { d.img with load := some { slot := some 1023, source := 3, committed := true, todo := [7] } }, opt := { entries := [(1023, { handle := 0xFFFF, opcode := 0x18, posted := 0, args := [], target := .package, order := 0, state := .running })], gens := [(1023, 63)] } }) ∘ onQ (fun x => { x with step := 6 }))),
    7,
    { slot := some 1023, source := 3, committed := true, todo := [7] },
    1023,
    { handle := 0xFFFF, opcode := 0x18, posted := 0, args := [], target := .package, order := 0, state := .running }, by decide⟩

theorem test_RegionsAndFirmware_3 :
    ∃ (s : State) (q : RegionId), s.dev.img.load = none ∧ (s.dev.region q).step = 6 :=
  ⟨(w [] (onQ (fun x => { x with step := 6 }))), 7, by decide⟩

theorem test_RegionsAndFirmware_4 :
    ∃ (s : State) (l : LoadSt), s.dev.img.load = some l ∧ l.committed = true ∧ l.todo = [] ∧
    l.fwChanged = true :=
  ⟨(w [] (onDev (fun d => { d with img := { d.img with load := some { slot := none, source := 3, committed := true, fwChanged := true } } }))),
    { slot := none, source := 3, committed := true, fwChanged := true }, by decide⟩

theorem test_RegionsAndFirmware_5 :
    ∃ (s : State) (l : LoadSt), s.dev.img.load = some l ∧ l.switching = true ∧ l.slot = none ∧
    s.dev.bus.monitor = false :=
  ⟨(w [] (onDev (fun d => { d with img := { d.img with load := some { slot := none, source := 3, committed := true, switching := true } } }))),
    { slot := none, source := 3, committed := true, switching := true }, by decide⟩

theorem test_RegionsAndFirmware_6 :
    ∃ (s : State), s.dev.img.load = none ∧ s.dev.bus.firmware = false ∧ s.dev.bus.monitor = false ∧
    s.dev.get F.SEC_BL_STAT_STEP 0 = 0 :=
  ⟨(w []), by decide⟩

theorem test_PostsAreQueued_1 :
    ∃ (c : Instr) (s : State) (op : Nat) (g : Target) (args : List Word) (tag : BitVec 8), Claims.postOf c = some (op, g, args, tag) ∧
    s.dev.servesTable = false :=
  ⟨.nop 255, (w [(F.SEC_BL_STAT_STEP, 0, 4)]), 0, .package, [], 255, by decide⟩

theorem test_PostsAreQueued_2 :
    ∃ (c : Instr) (s : State) (op : Nat) (g : Target) (args : List Word) (tag : BitVec 8) (slot : Nat), Claims.postOf c = some (op, g, args, tag) ∧
    s.dev.servesTable = true ∧ s.dev.opt.head = some slot ∧ Claims.targetOk s.dev op g args = true ∧
    argsGood op (Claims.fourArgs args) = true ∧ Claims.permitted s op args = true :=
  ⟨.diagCold (.cluster 31) 255,
    (w [] (onDev (fun d => { d with opt := { fresh := 1023 } }))),
    8,
    (.cluster 31),
    [3],
    255,
    1023, by decide⟩

theorem test_PostsAreQueued_3 :
    ∃ (c : Instr) (s : State) (op : Nat) (g : Target) (args : List Word) (tag : BitVec 8), Claims.postOf c = some (op, g, args, tag) ∧
    s.dev.servesTable = true ∧
    (s.dev.opt.head = none ∨ Claims.targetOk s.dev op g args = false ∨ argsGood op (Claims.fourArgs args) = false ∨ Claims.permitted s op args = false) :=
  ⟨.lcChange 2 255, (w [] (onDev (fun d => { d with opt := { fresh := 1024 } }))), 0x1A, .package, [2], 255, by decide⟩

theorem test_EntriesStartAndEnd_1_1 :
    ∃ (s : State) (slot : Fin 1024) (e : OpEntry), s.dev.entry slot = some e ∧ e.state = .queued ∧
    s.dev.mayStart e = true ∧ s.dev.heldBack e = false ∧
    (e.opcode = 0x00 ∨ e.opcode = 0x19 ∨ e.opcode = 0x1D) :=
  ⟨(w [] (onDev (fun d => { d with bus := { d.bus with firmware := true }, opt := { entries := [(1023, { handle := 0xFFFF, opcode := 0x00, posted := 0, args := [], target := .package, order := 0, state := .queued })], gens := [(1023, 63)] } }))),
    1023,
    { handle := 0xFFFF, opcode := 0x00, posted := 0, args := [], target := .package, order := 0, state := .queued }, by decide⟩

theorem test_EntriesStartAndEnd_1_2 :
    ∃ (s : State) (slot : Fin 1024) (e : OpEntry), s.dev.entry slot = some e ∧ e.state = .queued ∧
    s.dev.mayStart e = true ∧ s.dev.heldBack e = true ∧ e.opcode ≠ 0x1E :=
  ⟨(w [] (onDev (fun d => { d with bus := { d.bus with firmware := true }, opt := { entries := [(1023, { handle := 0xFFFF, opcode := 0x03, posted := 0, args := [], target := (.unit 255), order := 0, state := .queued })], gens := [(1023, 63)] } }) ∘ onQ (fun x => { x with step := 2 }))),
    1023,
    { handle := 0xFFFF, opcode := 0x03, posted := 0, args := [], target := (.unit 255), order := 0, state := .queued }, by decide⟩

theorem test_EntriesStartAndEnd_1_3 :
    ∃ (s : State) (slot : Fin 1024) (e : OpEntry), s.dev.entry slot = some e ∧ e.state = .queued ∧
    s.dev.mayStart e = true ∧ s.dev.heldBack e = false ∧ e.opcode = 0x18 :=
  ⟨(w [] (onDev (fun d => { d with bus := { d.bus with firmware := true }, opt := { entries := [(1023, { handle := 0xFFFF, opcode := 0x18, posted := 0, args := [], target := .package, order := 0, state := .queued })], gens := [(1023, 63)] } }))),
    1023,
    { handle := 0xFFFF, opcode := 0x18, posted := 0, args := [], target := .package, order := 0, state := .queued }, by decide⟩

theorem test_EntriesStartAndEnd_1_4 :
    ∃ (s : State) (slot : Fin 1024) (e : OpEntry), s.dev.entry slot = some e ∧ e.state = .queued ∧
    s.dev.mayStart e = true ∧ s.dev.heldBack e = false ∧ e.opcode = 0x10 ∧
    s.dev.sleeps e.target = true ∧
    testPermitted s.keep.fuses.state (e.arg % 16) s.dev.img.pkgWord = true :=
  ⟨(w [] (onDev (fun d => { d with opt := { entries := [(1023, { handle := 0xFFFF, opcode := 0x10, posted := 0, args := [0], target := (.unit 255), order := 0, state := .queued })], gens := [(1023, 63)] }, bus := { d.bus with firmware := true } }) ∘ onC (fun x => { x with power := 2 }))),
    1023, { handle := 0xFFFF, opcode := 0x10, posted := 0, args := [0], target := (.unit 255), order := 0, state := .queued }, by decide⟩

theorem test_EntriesStartAndEnd_1_5 :
    ∃ (s : State) (slot : Fin 1024) (e : OpEntry), s.dev.entry slot = some e ∧ e.state = .queued ∧
    s.dev.mayStart e = false :=
  ⟨(w [] (onDev (fun d => { d with opt := { entries := [(0, { handle := 0xFFFF, opcode := 0x03, posted := 0, args := [], target := (.unit 255), order := 0, state := .running }), (1023, { handle := 0xFFFF, opcode := 0x03, posted := 0, args := [], target := (.unit 255), order := 1, state := .queued })] } }))),
    1023,
    { handle := 0xFFFF, opcode := 0x03, posted := 0, args := [], target := (.unit 255), order := 1, state := .queued }, by decide⟩

theorem test_EntriesStartAndEnd_2_1 :
    ∃ (s : State) (slot : Fin 1024) (e : OpEntry), s.dev.entry slot = some e ∧ e.state = .running ∧
    e.asleep = false ∧ e.opcode = 0x00 :=
  ⟨(w [] (onDev (fun d => { d with opt := { entries := [(1023, { handle := 0xFFFF, opcode := 0x00, posted := 0, args := [], target := .package, order := 0, state := .running })], gens := [(1023, 63)] } }))),
    1023,
    { handle := 0xFFFF, opcode := 0x00, posted := 0, args := [], target := .package, order := 0, state := .running }, by decide⟩

theorem test_EntriesStartAndEnd_2_2 :
    ∃ (s : State) (slot : Fin 1024) (e : OpEntry), s.dev.entry slot = some e ∧ e.state = .running ∧
    e.asleep = false ∧ e.opcode = 0x1D :=
  ⟨(w [] (onDev (fun d => { d with opt := { entries := [(1023, { handle := 0xFFFF, opcode := 0x1D, posted := 0, args := [], target := .package, order := 0, state := .running })], gens := [(1023, 63)] } }))),
    1023,
    { handle := 0xFFFF, opcode := 0x1D, posted := 0, args := [], target := .package, order := 0, state := .running }, by decide⟩

theorem test_EntriesReport_1 :
    ∃ (s : State) (slot : Fin 1024) (e : OpEntry), s.dev.entry slot = some e ∧ e.state = .running ∧
    e.asleep = false ∧ e.opcode ≠ 0x10 ∧
    (e.opcode = 0x08 → (s.dev.cluster (targetCluster e.target)).diag = none) :=
  ⟨(w [] (onDev (fun d => { d with opt := { entries := [(1023, { handle := 0xFFFF, opcode := 0x18, posted := 0, args := [], target := .package, order := 0, state := .running })], gens := [(1023, 63)] } }))),
    1023,
    { handle := 0xFFFF, opcode := 0x18, posted := 0, args := [], target := .package, order := 0, state := .running }, by decide⟩

theorem test_EntriesReport_2 :
    ∃ (s : State) (slot : Fin 1024) (e : OpEntry) (n : BitVec 8) (r : DiagSt), s.dev.entry slot = some e ∧
    e.state = .running ∧ e.asleep = false ∧ e.opcode = 0x08 ∧ e.arg % 4 = 1 ∧
    (s.dev.cluster (targetCluster e.target)).diag = some r ∧ r.slot = slot.val ∧ r.mode = 2 ∧
    r.todo.contains n.toNat = true :=
  ⟨(w [] (onDev (fun d => { d with opt := { entries := [(1023, { handle := 0xFFFF, opcode := 0x08, posted := 0, args := [1], target := (.cluster 31), order := 0, state := .running })], gens := [(1023, 63)] } }) ∘ onC (fun x => { x with diag := some { slot := 1023, mode := 2, lane := 0, todo := [6] } }))),
    1023,
    { handle := 0xFFFF, opcode := 0x08, posted := 0, args := [1], target := (.cluster 31), order := 0, state := .running },
    6,
    { slot := 1023, mode := 2, lane := 0, todo := [6] }, by decide⟩

theorem test_EntriesReport_3_1 :
    ∃ (s : State) (slot : Fin 1024) (e : OpEntry), s.dev.entry slot = some e ∧ e.state = .running ∧
    e.opcode = 0x0A ∧ (s.dev.cluster (targetCluster e.target)).cal = none ∧ s.dev.mild 0x63 ∧
    s.dev.pastLimit e = true :=
  ⟨(w [] (onDev (fun d => { d with opt := { entries := [(1023, { handle := 0xFFFF, opcode := 0x0A, posted := 0, args := [], target := (.cluster 31), order := 0, state := .running, startedAt := some 5 })], gens := [(1023, 63)] }, time := 5 + 60000 * 390625 + 1 }))),
    1023, { handle := 0xFFFF, opcode := 0x0A, posted := 0, args := [], target := (.cluster 31), order := 0, state := .running, startedAt := some 5 }, by decide⟩

theorem test_EntriesReport_3_2 :
    ∃ (s : State) (slot : Fin 1024) (e : OpEntry), s.dev.entry slot = some e ∧ e.state = .running ∧
    (e.opcode = 0x00 ∨ e.opcode = 0x01 ∨ e.opcode = 0x1E) :=
  ⟨(w [] (onDev (fun d => { d with opt := { entries := [(1023, { handle := 0xFFFF, opcode := 0x1E, posted := 0, args := [], target := .package, order := 0, state := .running })], gens := [(1023, 63)] } }))),
    1023,
    { handle := 0xFFFF, opcode := 0x1E, posted := 0, args := [], target := .package, order := 0, state := .running }, by decide⟩

theorem test_EntriesReport_3_3 :
    ∃ (s : State) (slot : Fin 1024) (e : OpEntry), s.dev.entry slot = some e ∧ e.state = .running ∧
    s.dev.pastLimit e = false :=
  ⟨(w [] (onDev (fun d => { d with opt := { entries := [(1023, { handle := 0xFFFF, opcode := 0x0A, posted := 0, args := [], target := (.cluster 31), order := 0, state := .running, startedAt := some 5 })], gens := [(1023, 63)] }, time := 5 + 60000 * 390625 }))),
    1023, { handle := 0xFFFF, opcode := 0x0A, posted := 0, args := [], target := (.cluster 31), order := 0, state := .running, startedAt := some 5 }, by decide⟩

theorem test_EntriesReport_4_1 :
    ∃ (s : State) (k : Nat) (r : List Nat) (e : OpEntry), s.dev.servesTable = true ∧
    s.dev.opt.cpl = k :: r ∧ s.dev.entry k = some e :=
  ⟨(w [] (onDev (fun d => { d with opt := { entries := [(1023, { handle := 0xFFFF, opcode := 0x00, posted := 0, args := [], target := .package, order := 0, state := .done })], cpl := [1023] } }))),
    1023,
    [],
    { handle := 0xFFFF, opcode := 0x00, posted := 0, args := [], target := .package, order := 0, state := .done }, by decide⟩

theorem test_EntriesReport_4_2 :
    ∃ (s : State), s.dev.servesTable = true ∧ s.dev.opt.cpl = [] :=
  ⟨(w []), by decide⟩

theorem test_EntriesReport_5_1 :
    ∃ (s : State), s.dev.hub.sbStep = 5 :=
  ⟨(w [] (onDev (fun d => { d with hub := { d.hub with sbStep := 5 } }))), by decide⟩

theorem test_EntriesReport_5_2 :
    ∃ (s : State) (e : OpEntry), s.dev.hub.sbStep = 2 ∧ Claims.openEntry s.dev s.dev.hub.sbSlot e :=
  ⟨(w [] (onDev (fun d => { d with hub := { d.hub with sbStep := 2, sbSlot := 1023 }, opt := { entries := [(1023, { handle := 0xFFFF, opcode := 0x1E, posted := 0, args := [], target := .package, order := 0, state := .running })], gens := [(1023, 63)] } }))),
    { handle := 0xFFFF, opcode := 0x1E, posted := 0, args := [], target := .package, order := 0, state := .running }, by decide⟩

theorem test_EntriesReport_5_3 :
    ∃ (s : State) (e : OpEntry), s.dev.hub.sbStep = 7 ∧ s.dev.exitDone = true ∧
    Claims.openEntry s.dev s.dev.hub.sbSlot e :=
  ⟨(w [] (onDev (fun d => { d with opt := { entries := [(1023, { handle := 0xFFFF, opcode := 0x1E, posted := 0, args := [], target := .package, order := 0, state := .running })], gens := [(1023, 63)] }, hub := { d.hub with sbStep := 7, sbSlot := 1023, sbDone := List.range 8 } }))),
    { handle := 0xFFFF, opcode := 0x1E, posted := 0, args := [], target := .package, order := 0, state := .running }, by decide⟩

theorem test_EntriesReport_5_4 :
    ∃ (s : State), (s.dev.hub.sbStep = 0 ∨ (s.dev.hub.sbStep = 7 ∧ s.dev.exitDone = false)) :=
  ⟨(w []), by decide⟩

theorem test_HandlesCancel_1 :
    ∃ (s : State) (h : BitVec 16), s.dev.servesTable = true ∧
    (∀ e, s.dev.entry (h.toNat % 1024) = some e → e.handle ≠ h.toNat) :=
  ⟨w [], 0xFFFF, by decide, fun _ h => nomatch h⟩

theorem test_HandlesCancel_2 :
    ∃ (s : State) (pkg : Fin 8) (slot : Fin 1024), Claims.addressed s.dev pkg ∧
    s.dev.servesTable = true ∧ s.dev.entry slot = none :=
  ⟨(w [(F.HUB_GRADE_PKG_ID, 0, 7)]), 7, 1023, by decide⟩

theorem test_HandlesCancel_3 :
    ∃ (s : State) (pkg : Fin 8) (slot : Fin 1024) (e : OpEntry) (n : Nat), Claims.addressed s.dev pkg ∧
    s.dev.servesTable = true ∧ s.dev.entry slot = some e ∧ e.state = .running ∧ e.startedAt = some n :=
  ⟨(w [(F.HUB_GRADE_PKG_ID, 0, 7)] (onDev (fun d => { d with opt := { entries := [(1023, { handle := 0xFFFF, opcode := 0x18, posted := 0, args := [], target := .package, order := 0, state := .running, startedAt := some 5 })], gens := [(1023, 63)] } }))),
    7, 1023, { handle := 0xFFFF, opcode := 0x18, posted := 0, args := [], target := .package, order := 0, state := .running, startedAt := some 5 }, 5, by decide⟩

theorem test_HandlesCancel_4_1 :
    ∃ (s : State) (h : BitVec 16) (e : OpEntry), s.dev.servesTable = true ∧
    s.dev.entry (h.toNat % 1024) = some e ∧ e.handle = h.toNat ∧
    (e.state = .queued ∨ e.state = .held) :=
  ⟨(w [] (onDev (fun d => { d with opt := { entries := [(1023, { handle := 0xFFFF, opcode := 0x00, posted := 0, args := [], target := .package, order := 0, state := .held })], gens := [(1023, 63)] } }))),
    0xFFFF,
    { handle := 0xFFFF, opcode := 0x00, posted := 0, args := [], target := .package, order := 0, state := .held }, by decide⟩

theorem test_HandlesCancel_4_2 :
    ∃ (s : State) (h : BitVec 16) (e : OpEntry), s.dev.servesTable = true ∧
    s.dev.entry (h.toNat % 1024) = some e ∧ e.handle = h.toNat ∧ e.state = .done :=
  ⟨(w [] (onDev (fun d => { d with opt := { entries := [(1023, { handle := 0xFFFF, opcode := 0x00, posted := 0, args := [], target := .package, order := 0, state := .done })], gens := [(1023, 63)] } }))),
    0xFFFF,
    { handle := 0xFFFF, opcode := 0x00, posted := 0, args := [], target := .package, order := 0, state := .done }, by decide⟩

theorem test_SleepTransactions_1 :
    ∃ (s : State) (dom : Domain) (stood : Bool), (stood = false ∨ s.dev.offerable dom = false) :=
  ⟨(w [(F.PWR_CFG_DOZE_EN, 0, 255), (F.PWR_CFG_DEEP_EN, 0, 255), (F.HUB_TOPO_REGION_LIVE, 0, 255), (F.CLK_STAT_REFB_ST, 0, 2)] (onDev (fun d => { d with img := { d.img with pwrWords := List.replicate 9 7 } }))),
    (.doze 31),
    false, by decide⟩

theorem test_SleepTransactions_2 :
    ∃ (s : State) (c : ClusterId), s.dev.offerable (.doze c) = true :=
  ⟨(w [(F.PWR_CFG_DOZE_EN, 0, 255), (F.PWR_CFG_DEEP_EN, 0, 255), (F.HUB_TOPO_REGION_LIVE, 0, 255), (F.CLK_STAT_REFB_ST, 0, 2)] (onDev (fun d => { d with img := { d.img with pwrWords := List.replicate 9 7 } }))),
    31, by decide⟩

theorem test_SleepTransactions_3 :
    ∃ (s : State) (q : RegionId), s.dev.offerable (.deep q) = true :=
  ⟨(w [(F.PWR_CFG_DOZE_EN, 0, 255), (F.PWR_CFG_DEEP_EN, 0, 255), (F.HUB_TOPO_REGION_LIVE, 0, 255), (F.CLK_STAT_REFB_ST, 0, 2)] (onDev (fun d => { d with clusters := (clustersOf 7).map (fun c => (c, { power := 2 })) }) ∘ onDev (fun d => { d with img := { d.img with pwrWords := List.replicate 9 7 } }))),
    7, by decide⟩

theorem test_SleepTransactions_4 :
    ∃ (s : State) (dom : Domain) (x : TxnSt) (m : Member), s.dev.txnOf dom = some x ∧
    (members dom).contains m = true ∧ (∀ e ∈ x.votes, e.1 ≠ m) :=
  ⟨(w [] (onC (fun x => { x with txn := some { id := 255 } }))), (.doze 31), { id := 255 }, .spare, by decide⟩

theorem test_SleepTransactions_5_1 :
    ∃ (s : State) (c : ClusterId) (x : TxnSt), (s.dev.cluster c).txn = some x ∧
    s.dev.mayDoze c = true ∧ (s.dev.cluster c).cal = none ∧ (s.dev.cluster c).scanWait = [] ∧
    (∀ m ∈ members (.doze c), (m, Vote.ready) ∈ x.votes) ∧ (∀ e ∈ x.votes, e.2 = .ready) :=
  ⟨(w [(F.PWR_CFG_DOZE_EN, 0, 255), (F.PWR_CFG_DEEP_EN, 0, 255), (F.HUB_TOPO_REGION_LIVE, 0, 255), (F.CLK_STAT_REFB_ST, 0, 2)] (onC (fun x => { x with txn := some { id := 255, votes := (members (.doze 31)).map (fun m => (m, Vote.ready)) } }) ∘ onDev (fun d => { d with img := { d.img with pwrWords := List.replicate 9 7 } }))),
    31,
    { id := 255, votes := (members (.doze 31)).map (fun m => (m, Vote.ready)) }, by decide⟩

theorem test_SleepTransactions_5_2 :
    ∃ (s : State) (c : ClusterId) (x : TxnSt) (pre : List (Member × Vote)) (m : Member) (r : Fin 12) (post : List (Member × Vote)), (s.dev.cluster c).txn = some x ∧
    s.dev.mayDoze c = true ∧ (s.dev.cluster c).cal = none ∧ (s.dev.cluster c).scanWait = [] ∧
    x.votes = pre ++ (m, Vote.refuse r) :: post ∧ (∀ e ∈ pre, e.2 = Vote.ready) :=
  ⟨(w [(F.PWR_CFG_DOZE_EN, 0, 255), (F.PWR_CFG_DEEP_EN, 0, 255), (F.HUB_TOPO_REGION_LIVE, 0, 255), (F.CLK_STAT_REFB_ST, 0, 2)] (onC (fun x => { x with txn := some { id := 255, votes := [(.spare, .ready), (.crosstalk, .refuse 11)] } }) ∘ onDev (fun d => { d with img := { d.img with pwrWords := List.replicate 9 7 } }))),
    31,
    { id := 255, votes := [(.spare, .ready), (.crosstalk, .refuse 11)] },
    [(Member.spare, Vote.ready)],
    .crosstalk,
    11,
    [], by decide⟩

theorem test_SleepTransactions_6 :
    ∃ (s : State) (q : RegionId) (x : TxnSt), (s.dev.region q).txn = some x ∧
    s.dev.mayDeep q = true ∧ (∀ m ∈ members (.deep q), (m, Vote.ready) ∈ x.votes) ∧
    (∀ e ∈ x.votes, e.2 = .ready) ∧ s.dev.port.posted = none :=
  ⟨(w [(F.PWR_CFG_DOZE_EN, 0, 255), (F.PWR_CFG_DEEP_EN, 0, 255), (F.HUB_TOPO_REGION_LIVE, 0, 255), (F.CLK_STAT_REFB_ST, 0, 2)] (onQ (fun x => { x with txn := some { id := 255, votes := (members (.deep 7)).map (fun m => (m, Vote.ready)) } }) ∘ onDev (fun d => { d with img := { d.img with pwrWords := List.replicate 9 7 } }))),
    7,
    { id := 255, votes := (members (.deep 7)).map (fun m => (m, Vote.ready)) }, by decide⟩

theorem test_SleepEntriesEndAndTolerances_1_1 :
    ∃ (s : State) (c : ClusterId), (s.dev.cluster c).power = 1 :=
  ⟨(w [] (onC (fun x => { x with power := 1, wakeDue := true }))), 31, by decide⟩

theorem test_SleepEntriesEndAndTolerances_1_2 :
    ∃ (s : State) (q : RegionId), s.dev.get F.RG_PWR_STAT_STATE q = 1 :=
  ⟨(w [(F.RG_PWR_STAT_STATE, 7, 1)]), 7, by decide⟩

theorem test_SleepEntriesEndAndTolerances_1_3 :
    ∃ (s : State) (c : ClusterId), (s.dev.cluster c).power ≠ 1 :=
  ⟨(w []), 31, by decide⟩

theorem test_SleepEntriesEndAndTolerances_1_4 :
    ∃ (s : State) (q : RegionId), s.dev.get F.RG_PWR_STAT_STATE q ≠ 1 :=
  ⟨(w [(F.RG_PWR_STAT_STATE, 7, 2)]), 7, by decide⟩

theorem test_WakeTriggersReachTheirDomain_1 :
    ∃ (s : State) (c : ClusterId), (s.dev.cluster c).power = 2 ∧
    s.dev.get F.RG_PWR_STAT_STATE (c / 4) = 0 :=
  ⟨(w [] (onC (fun x => { x with power := 2 }))), 31, by decide⟩

theorem test_WakeTriggersReachTheirDomain_2_1 :
    ∃ (s : State) (u : UnitId) (w : WakeCause), w ∈ [WakeCause.sigdet u, .squelch u] ∧
    s.dev.idleUnit u = true :=
  ⟨(w [] (onC (fun x => { x with power := 2 }))), 255, (.sigdet 255), by decide⟩

theorem test_WakeTriggersReachTheirDomain_2_2 :
    ∃ (s : State) (u : UnitId) (w : WakeCause), w ∈ [WakeCause.sigdet u, .squelch u] ∧
    s.dev.idleUnit u = false ∧ (s.dev.cluster (u / 8)).power = 2 ∧
    s.dev.get F.RG_PWR_STAT_STATE (u / 32) = 0 :=
  ⟨(w [(F.LU_BU_CTRL_EN, 255, 1)] (onC (fun x => { x with power := 2 }))), 255, (.squelch 255), by decide⟩

theorem test_WakeTriggersReachTheirDomain_3 :
    ∃ (s : State) (q : RegionId), s.dev.get F.RG_PWR_STAT_STATE q = 2 :=
  ⟨(w [(F.RG_PWR_STAT_STATE, 7, 2)]), 7, by decide⟩

theorem test_WakeTriggersReachTheirDomain_4 :
    ∃ (s : State) (q : RegionId) (x : Instr × List (Fld × Nat)), x ∈ [(Instr.wake q, []), (.stayAwake q, [(F.RG_PWR_CTRL_STAY_AWAKE, q.val)])] ∧
    s.dev.off .rg q 0x14 = false ∧ s.dev.tst .rg q = false :=
  ⟨(w [(F.RG_PWR_STAT_STATE, 7, 2)]), 7, (.stayAwake 7, [(F.RG_PWR_CTRL_STAY_AWAKE, 7)]), by decide⟩

theorem test_WakeTriggersReachTheirDomain_5_1 :
    ∃ (s : State) (q : RegionId) (c : Instr), c ∈ [Instr.wake q, .stayAwake q] ∧
    s.dev.off .rg q 0x14 = true :=
  ⟨(w [] (onQ (fun x => { x with inReset := true }))), 7, (.stayAwake 7), by decide⟩

theorem test_WakeTriggersReachTheirDomain_5_2 :
    ∃ (s : State) (q : RegionId) (c : Instr), c ∈ [Instr.wake q, .stayAwake q] ∧
    s.dev.off .rg q 0x14 = false ∧ s.dev.tst .rg q = true :=
  ⟨(w [] (onQ (fun x => { x with underTest := true }))), 7, (.wake 7), by decide⟩

theorem test_WakesEnd_1 :
    ∃ (s : State) (c : ClusterId), (s.dev.cluster c).power = 3 ∧
    s.dev.get F.RG_PWR_STAT_STATE (c / 4) = 0 ∧ (∀ e ∈ s.dev.opt.entries, e.2.asleep = false) :=
  ⟨(w [] (onC (fun x => { x with power := 3 }))), 31, by decide⟩

theorem test_WakesEnd_2 :
    ∃ (s : State) (c : ClusterId), ((s.dev.cluster c).power ≠ 3 ∨ s.dev.get F.RG_PWR_STAT_STATE (c / 4) ≠ 0) :=
  ⟨(w [] (onC (fun x => { x with power := 2 }))), 31, by decide⟩

theorem test_WakesEnd_3_1 :
    ∃ (s : State) (q : RegionId) (found : List RetWord), s.dev.get F.RG_PWR_STAT_STATE q = 3 ∧
    found.any (·.lost) = false ∧ s.dev.mild 0x4A :=
  ⟨(w [(F.RG_PWR_STAT_STATE, 7, 3)]), 7, [⟨3, 4095, 255, false⟩], by decide⟩

theorem test_WakesEnd_3_2 :
    ∃ (s : State) (q : RegionId) (found : List RetWord), s.dev.get F.RG_PWR_STAT_STATE q = 3 ∧
    found.any (·.lost) = true :=
  ⟨(w [(F.RG_PWR_STAT_STATE, 7, 3)]), 7, [⟨3, 4095, 255, true⟩], by decide⟩

theorem test_WakesEnd_4 :
    ∃ (s : State) (q : RegionId), s.dev.get F.RG_PWR_STAT_STATE q ≠ 3 :=
  ⟨(w [(F.RG_PWR_STAT_STATE, 7, 2)]), 7, by decide⟩

theorem test_SleepEntriesEndAndTolerances_2_1 :
    ∃ (s : State) (p : UnitId), s.dev.offAt ((F.PWR_LTR_VALUE p).addr 0) = true :=
  ⟨(w [(F.SEC_BL_STAT_STEP, 0, 2)]), 255, by decide⟩

theorem test_SleepEntriesEndAndTolerances_2_2 :
    ∃ (s : State) (p : UnitId), s.dev.offAt ((F.PWR_LTR_VALUE p).addr 0) = false :=
  ⟨(w [(F.HUB_GRADE_PKG_ID, 0, 7)]), 255, by decide⟩

theorem test_CalibrationRuns_1_1 :
    ∃ (s : State) (c : ClusterId), (s.dev.cluster c).held = false ∧
    (s.dev.bit F.CAL_EN_AUTO 0 c = false ∨ s.dev.trigger c = 0) :=
  ⟨(w [(F.CAL_EN_AUTO, 0, 0)]), 31, by decide⟩

theorem test_CalibrationRuns_1_2 :
    ∃ (s : State) (c : ClusterId), (s.dev.cluster c).held = false ∧ s.dev.calPossible c = true ∧
    (s.dev.cluster c).cal = none ∧ s.dev.bit F.CAL_EN_AUTO 0 c = true ∧ s.dev.trigger c ≠ 0 ∧
    (unitsOf c).any s.dev.takesPart = true ∧ (s.dev.cluster c).scan = none :=
  ⟨(w [(F.LU_BU_CTRL_EN, 255, 1), (F.LU_LINE_FRAME_RX_FMT, 255, 2), (F.LU_RB_STAT_GEAR, 255, 4), (F.CAL_EN_AUTO, 0, 0xFFFFFFFF)]),
    31, by decide⟩

theorem test_CalibrationRuns_2 :
    ∃ (s : State) (c : ClusterId), s.dev.clusterLive c = true ∧ s.dev.mild 0x16 :=
  ⟨(w []), 31, by decide⟩

theorem test_CalibrationRuns_3 :
    ∃ (s : State) (c : ClusterId), s.dev.dieRuns (c / 8) = true ∧ s.dev.clusterLive c = false :=
  ⟨(w [] (onC (fun x => { x with inReset := true }))), 31, by decide⟩

theorem test_CalibrationRuns_4_1 :
    ∃ (s : State) (c : ClusterId) (r : CalRun) (l : Nat) (ls : List Nat), (s.dev.cluster c).cal = some r ∧
    r.stage = 0 ∧ r.todo = l :: ls ∧ s.dev.measured r (65536 * (r.checks + 1)) = false :=
  ⟨(w [] (onC (fun x => { x with cal := some { trigger := 3, todo := [7], stage := 0 } }))),
    31,
    { trigger := 3, todo := [7], stage := 0 },
    7,
    [], by decide⟩

theorem test_CalibrationRuns_4_2_1 :
    ∃ (s : State) (c : ClusterId) (r : CalRun) (l : Nat) (ls : List Nat), (s.dev.cluster c).cal = some r ∧
    r.stage = 0 ∧ r.todo = l :: ls ∧ s.dev.measured r (65536 * (r.checks + 1)) = true ∧
    r.acc.live = true ∧ s.dev.rxData (8 * c.val + l) = true ∧ r.acc.n ≠ 0 ∧ r.acc.reason = 0 :=
  ⟨(w [(F.LU_LINE_FRAME_RX_FMT, 255, 2), (F.LU_BU_CTRL_EN, 255, 1)] (onC (fun x => { x with cal := some { trigger := 3, todo := [7], stage := 0, acc := goodCheck } }) ∘ onDev (fun d => { d with refa := 65533 }))),
    31,
    { trigger := 3, todo := [7], stage := 0, acc := goodCheck },
    7,
    [], by decide⟩

theorem test_CalibrationRuns_4_2_2 :
    ∃ (s : State) (c : ClusterId) (r : CalRun) (l : Nat) (ls : List Nat), (s.dev.cluster c).cal = some r ∧
    r.stage = 0 ∧ r.todo = l :: ls ∧ s.dev.measured r (65536 * (r.checks + 1)) = true ∧
    r.slot = none ∧ r.followers = [] ∧ r.away = false ∧ (∀ l ∈ r.todo, l < 8) ∧
    (s.dev.cluster c).scan = none ∧ (s.dev.cluster c).scanWait = [] ∧ s.dev.mild 0x68 ∧
    (r.acc.live = false ∨ s.dev.rxData (8 * c.val + l) = false ∨ r.acc.n = 0 ∨ r.acc.reason ≠ 0) :=
  ⟨(w [] (onC (fun x => { x with cal := some { trigger := 3, todo := [7] } }) ∘ onDev (fun d => { d with refa := 65533 }))),
    31, { trigger := 3, todo := [7] }, 7, [], by decide⟩

theorem test_CalibrationTurnsAndCommits_1_1_1 :
    ∃ (s : State) (c : ClusterId) (r : CalRun) (l : Nat) (ls : List Nat), (s.dev.cluster c).cal = some r ∧
    r.stage = 2 ∧ r.todo = l :: ls ∧ (r.iter ≠ 0 ∨ r.checks ≠ 0) ∧ s.dev.measured r 65536 = false :=
  ⟨(w [] (onC (fun x => { x with cal := some { trigger := 3, todo := [7], stage := 2, iter := 1 } }))),
    31,
    { trigger := 3, todo := [7], stage := 2, iter := 1 },
    7,
    [], by decide⟩

theorem test_CalibrationTurnsAndCommits_1_1_2_1 :
    ∃ (s : State) (c : ClusterId) (r : CalRun) (l : Nat) (ls : List Nat) (diff : Nat) (sig : Nat), (s.dev.cluster c).cal = some r ∧
    r.stage = 2 ∧ r.todo = l :: ls ∧ (r.iter ≠ 0 ∨ r.checks ≠ 0) ∧ s.dev.measured r 65536 = true ∧
    10000 * diff ≤ sig :=
  ⟨(w [] (onC (fun x => { x with cal := some { trigger := 3, todo := [7], stage := 2, checks := 1 } }) ∘ onDev (fun d => { d with refa := 65533 }))),
    31,
    { trigger := 3, todo := [7], stage := 2, checks := 1 },
    7,
    [], 1, 10000, by decide⟩

theorem test_CalibrationTurnsAndCommits_1_1_2_2 :
    ∃ (s : State) (c : ClusterId) (r : CalRun) (l : Nat) (ls : List Nat) (diff : Nat) (sig : Nat), (s.dev.cluster c).cal = some r ∧
    r.stage = 2 ∧ r.todo = l :: ls ∧ (r.iter ≠ 0 ∨ r.checks ≠ 0) ∧ s.dev.measured r 65536 = true ∧
    sig < 10000 * diff ∧ r.iter < 3 :=
  ⟨(w [] (onC (fun x => { x with cal := some { trigger := 3, todo := [7], stage := 2, iter := 2 } }) ∘ onDev (fun d => { d with refa := 65533 }))),
    31,
    { trigger := 3, todo := [7], stage := 2, iter := 2 },
    7,
    [], 1, 9999, by decide⟩

theorem test_CalibrationTurnsAndCommits_1_2_1 :
    ∃ (s : State) (c : ClusterId) (r : CalRun) (l : Nat) (ls : List Nat), (s.dev.cluster c).cal = some r ∧
    r.stage = 3 ∧ r.todo = l :: ls ∧ (r.checks < 4 ∨ s.dev.measured r 262280 = false) :=
  ⟨(w [] (onC (fun x => { x with cal := some { trigger := 3, todo := [7], stage := 3 } }))),
    31,
    { trigger := 3, todo := [7], stage := 3 },
    7,
    [], by decide⟩

theorem test_CalibrationTurnsAndCommits_1_2_2 :
    ∃ (s : State) (c : ClusterId) (r : CalRun) (l : Nat) (ls : List Nat), (s.dev.cluster c).cal = some r ∧
    r.stage = 3 ∧ r.todo = l :: ls ∧ 4 ≤ r.checks ∧ s.dev.measured r 262280 = true ∧
    (∀ k o, k < 68 → -32 ≤ s.dev.trim c (trimKey l k o) ∧ s.dev.trim c (trimKey l k o) ≤ 31) :=
  ⟨retuning, 31, retuneRun, 7, [], by decide, by decide, by decide, by decide, by decide,
    fun k o h => by show -32 ≤ retuning.dev.trim 31 _ ∧ retuning.dev.trim 31 _ ≤ 31; rw [retuning_trim k o h]; decide⟩

theorem test_CalibrationTurnsAndCommits_1_3_1 :
    ∃ (s : State) (c : ClusterId) (r : CalRun) (l : Nat), (s.dev.cluster c).cal = some r ∧
    r.stage = 4 ∧ r.todo = [l] ∧ l < 8 ∧ s.dev.measured r 65536 = false :=
  ⟨(w [] (onC (fun x => { x with cal := some { trigger := 3, todo := [7], stage := 4 } }))),
    31,
    { trigger := 3, todo := [7], stage := 4 },
    7, by decide⟩

theorem test_CalibrationTurnsAndCommits_1_3_2 :
    ∃ (s : State) (c : ClusterId) (r : CalRun) (l : Nat) (diff : Nat) (sig : Nat), (s.dev.cluster c).cal = some r ∧
    r.stage = 4 ∧ r.todo = [l] ∧ l < 8 ∧ s.dev.measured r 65536 = true ∧ sig < 10000 * diff :=
  ⟨(w [] (onC (fun x => { x with cal := some { trigger := 3, todo := [7], stage := 4 } }) ∘ onDev (fun d => { d with refa := 65533 }))),
    31,
    { trigger := 3, todo := [7], stage := 4 },
    7, 1, 9999, by decide⟩

theorem test_CalibrationTurnsAndCommits_1_3_3 :
    ∃ (s : State) (c : ClusterId) (r : CalRun) (l : Nat) (diff : Nat) (sig : Nat), (s.dev.cluster c).cal = some r ∧
    r.stage = 4 ∧ r.todo = [l] ∧ l < 8 ∧ s.dev.measured r 65536 = true ∧ 10000 * diff ≤ sig :=
  ⟨(w [] (onC (fun x => { x with cal := some { trigger := 3, todo := [7], stage := 4 } }) ∘ onDev (fun d => { d with refa := 65533 }))),
    31,
    { trigger := 3, todo := [7], stage := 4 },
    7, 1, 10000, by decide⟩

theorem test_CalibrationTurnsAndCommits_2_1 :
    ∃ (s : State) (c : ClusterId) (cs : List Nat) (r : CalRun), s.dev.hub.commits = c.val :: cs ∧
    (s.dev.cluster c).cal = some r ∧ (s.dev.cluster c).scan = none ∧
    (s.dev.cluster c).scanWait = [] ∧ s.dev.mild 0x68 ∧ r.slot = none ∧ r.followers = [] :=
  ⟨(w [] (onC (fun x => { x with cal := some { trigger := 3, todo := [], stage := 5 } }) ∘ onDev (fun d => { d with hub := { d.hub with commits := [31] } }))),
    31,
    [],
    { trigger := 3, todo := [], stage := 5 }, by decide⟩

theorem test_CalibrationTurnsAndCommits_2_2 :
    ∃ (s : State) (c : ClusterId) (cs : List Nat) (r : CalRun), s.dev.hub.commits = c.val :: cs ∧
    (s.dev.cluster c).cal = some r ∧ (s.dev.cluster c).scan = none ∧
    (s.dev.cluster c).scanWait = [] ∧ s.dev.mild 0x68 ∧ s.keep.nv.calFree ≤ 32 ∧
    s.keep.nv.calSeq + 1 < 2 ^ 32 ∧ (∀ l ∈ r.good, l < 8) :=
  ⟨(w [] (onC (fun x => { x with cal := some { trigger := 3, todo := [], stage := 5 } }) ∘ onDev (fun d => { d with hub := { d.hub with commits := [31] } }))),
    31,
    [],
    { trigger := 3, todo := [], stage := 5 }, by decide⟩

theorem test_FaultsAreHeldAndRecorded_1_1 :
    ∃ (s : State) (e : FltEvent), (Instr.faultEvent e).wellFormed = true ∧ s.dev.mild e.src.toNat ∧
    s.dev.collects ∧ ueWord e = none ∧ s.dev.detectorsOff e = true :=
  ⟨(w [(F.RG_PWR_STAT_STATE, 7, 2)]), ⟨0x3D, .region 7 6, 0, 0⟩, by decide⟩

theorem test_FaultsAreHeldAndRecorded_1_2 :
    ∃ (s : State) (e : FltEvent), (Instr.faultEvent e).wellFormed = true ∧ s.dev.mild e.src.toNat ∧
    s.dev.collects ∧ ueWord e = none ∧ s.dev.detectorsOff e = false ∧
    (s.dev.maskedAt e.loc = false ∨ isFixed e.src.toNat = true) :=
  ⟨(w []), ⟨0x3D, .region 7 6, 0, 0⟩, by decide⟩

theorem test_FaultsAreHeldAndRecorded_1_3 :
    ∃ (s : State) (e : FltEvent), (Instr.faultEvent e).wellFormed = true ∧ s.dev.mild e.src.toNat ∧
    s.dev.collects ∧ ueWord e = none ∧ s.dev.detectorsOff e = false ∧ s.dev.maskedAt e.loc = true ∧
    isFixed e.src.toNat = false :=
  ⟨(w [] (onQ (fun x => { x with masked := true }))), ⟨0x3D, .region 7 6, 0, 0⟩, by decide⟩

theorem test_FaultsAreHeldAndRecorded_2 :
    ∃ (s : State) (h : HeldEvent), s.dev.nextHeld = some h ∧ s.dev.time < h.time + 16 :=
  ⟨(w [] (onDev (fun d => { d with time := 20, flt := { d.flt with held := [⟨5, 9, ⟨0x3D, .region 7 6, 0, 0⟩⟩] } }))),
    ⟨5, 9, ⟨0x3D, .region 7 6, 0, 0⟩⟩, by decide⟩

theorem test_FaultsAreHeldAndRecorded_3_1 :
    ∃ (s : State) (h : HeldEvent), s.dev.nextHeld = some h ∧ h.time + 16 ≤ s.dev.time ∧
    s.dev.is F.FLT_HQ_FROZEN 0 = false ∧ s.dev.consequential h.ev = false ∧
    s.dev.classOf h.ev.src.toNat = 3 ∧ bitsOf (s.dev.matrix h.ev.src.toNat) 19 16 = 0 :=
  ⟨(w [] (onDev (fun d => { d with time := 20, flt := { d.flt with held := [⟨4, 9, ⟨0x3D, .region 7 6, 0, 0⟩⟩] } }))),
    ⟨4, 9, ⟨0x3D, .region 7 6, 0, 0⟩⟩, by decide⟩

theorem test_FaultsAreHeldAndRecorded_3_2 :
    ∃ (s : State) (h : HeldEvent), s.dev.nextHeld = some h ∧ h.time + 16 ≤ s.dev.time ∧
    s.dev.is F.FLT_HQ_FROZEN 0 = false ∧ s.dev.consequential h.ev = true ∧ s.dev.mild h.ev.src.toNat :=
  ⟨(w [(F.FLT_STAT_RG_REACT, 0, 128)] (onDev (fun d => { d with time := 20, flt := { d.flt with held := [⟨4, 9, ⟨0x3D, .region 7 6, 0, 0⟩⟩] } }))),
    ⟨4, 9, ⟨0x3D, .region 7 6, 0, 0⟩⟩, by decide⟩

theorem test_FaultsAreHeldAndRecorded_4 :
    ∃ (s : State), s.dev.flt.held = [] :=
  ⟨(w []), by decide⟩

theorem test_SafeStates_1 :
    ∃ (s : State) (e : FltEvent), (e.src = 0x01 ∨ e.src = 0x02 ∨ e.src = 0x03) ∧
    locatedAt e.src.toNat e.loc = true ∧ s.dev.collects ∧ s.dev.detectorsOff e = false :=
  ⟨(w []), ⟨0x03, .die 3 0 0, 0, 0⟩, by decide⟩

theorem test_SafeStates_2 :
    ∃ (s : State) (q : RegionId), s.dev.collects ∧ s.dev.flt.matrix.find 0x12 = none ∧
    s.dev.flt.aOpen = false ∧ s.dev.deciding = false ∧ s.dev.reacting q = false ∧
    s.dev.regionMasked q = false ∧ s.dev.deep q = false ∧ (s.dev.die (q.val / 2)).on = true :=
  ⟨(w []), 7, by decide⟩

theorem test_SafeStates_3 :
    ∃ (s : State) (q : RegionId), s.dev.collects ∧ s.dev.flt.matrix.find 0x12 = none ∧
    s.dev.deciding = true ∧ s.dev.safe = true ∧ s.dev.regionMasked q = false ∧ s.dev.deep q = false ∧
    (s.dev.die (q.val / 2)).on = true :=
  ⟨(w [(F.FLT_STAT_SAFE, 0, 1)] (onDev (fun d => { d with flt := { d.flt with aAt := some (0, true) } }))),
    7, by decide⟩

theorem test_CollectorCommands_2 :
    ∃ (s : State) (u : UnitId), (s.dev.unit u).inReset = false ∧ (s.dev.unit u).underTest = false :=
  ⟨(w []), 255, by decide⟩

theorem test_CollectorCommands_3 :
    ∃ (s : State) (c : ClusterId), (s.dev.cluster c).inReset = false ∧
    (s.dev.cluster c).underTest = false :=
  ⟨(w []), 31, by decide⟩

theorem test_CollectorCommands_4 :
    ∃ (s : State) (n : DieId), (s.dev.die n).underTest = false :=
  ⟨(w []), 3, by decide⟩

theorem test_CollectorCommands_5 :
    ∃ (s : State) (q : RegionId), s.dev.regionHeld q = false ∧ (s.dev.region q).underTest = false :=
  ⟨(w []), 7, by decide⟩

theorem test_CollectorCommands_6_1 :
    ∃ (s : State) (r : Nat), s.dev.servesTable = true ∧
    (∀ n, n < 4 → (s.dev.die n).supplyBad = false) ∧ s.dev.exitReason = r ∧ r ≠ 0 :=
  ⟨(w [(F.FLT_STAT_SAFE, 0, 0)]), 4, by decide⟩

theorem test_CollectorCommands_6_2 :
    ∃ (s : State), s.dev.servesTable = true ∧ (∀ n, n < 4 → (s.dev.die n).supplyBad = false) ∧
    s.dev.deciding = false ∧ s.dev.fallback = true :=
  ⟨(w [(F.CLK_STAT_FALLBACK, 0, 1)]), by decide⟩

theorem test_CollectorCommands_6_3 :
    ∃ (s : State), s.dev.servesTable = true ∧ (∀ n, n < 4 → (s.dev.die n).supplyBad = false) ∧
    s.dev.exitReason = 0 ∧
    (∀ q, q < 8 → (s.dev.region q).inReset = true → s.dev.bit F.FLT_STAT_RG_HELD 0 q = true) :=
  ⟨(w [(F.FLT_STAT_SAFE, 0, 1)]), by decide⟩

theorem test_CollectorCommands_7 :
    ∃ (s : State), s.dev.servesTable = true ∧ s.dev.flt.frozeAt = some s.dev.time :=
  ⟨(w [] (onDev (fun d => { d with flt := { d.flt with frozeAt := some 0 } }))), by decide⟩

theorem test_CollectorCommands_8 :
    ∃ (s : State), s.dev.servesTable = true ∧ s.dev.flt.frozeAt ≠ some s.dev.time :=
  ⟨(w []), by decide⟩

theorem test_CollectorCommands_9 :
    ∃ (s : State) (c : Instr), s.dev.servesTable = false ∧
    (c = .safeExit ∨ c = .hqUnfreeze ∨ c = .snapAck) :=
  ⟨(w [(F.SEC_BL_STAT_STEP, 0, 4)]), .snapAck, by decide⟩

theorem test_CollectorCommands_10 :
    ∃ (s : State), s.dev.servesTable = true :=
  ⟨(w []), by decide⟩

theorem test_CollectorCommands_11 :
    ∃ (s : State), s.dev.flt.snapDue = true :=
  ⟨(w [] (onDev (fun d => { d with flt := { d.flt with snapDue := true } }))), by decide⟩

theorem test_IntegrityAndSensors_1_1_1 :
    ∃ (s : State) (c : ClusterId) (m : Fin 2) (w : Fin 1024), s.dev.scrubs 0 c m w = true ∧
    s.dev.flt.poison.contains (functionalCode (.word 0 c m w)) = false :=
  ⟨(w [(F.FLT_ECC_CFG_SCRUB_INT, 0, 1), (F.FLT_ECC_CFG_BKT_THR, 0, 8)]), 31, 1, 1023, by decide⟩

theorem test_IntegrityAndSensors_1_1_2 :
    ∃ (s : State) (c : ClusterId) (m : Fin 2) (w : Fin 1024), s.dev.scrubs 0 c m w = true ∧
    s.dev.flt.poison.contains (functionalCode (.word 0 c m w)) = false :=
  ⟨(w [(F.FLT_ECC_CFG_SCRUB_INT, 0, 1), (F.FLT_ECC_CFG_BKT_THR, 0, 8)]), 31, 1, 1023, by decide⟩

theorem test_IntegrityAndSensors_1_2 :
    ∃ (s : State) (c : ClusterId) (m : Fin 2) (w : Fin 1024), s.dev.scrubs 0 c m w = true ∧
    s.dev.flt.poison.contains (functionalCode (.word 0 c m w)) = false ∧
    ((s.dev.flt.buckets.find (macroCode 0 c m)).getD 0) + 1 < s.dev.flt.bktThr ∧
    ((s.dev.flt.buckets.find (macroCode 0 c m)).getD 0) < 255 :=
  ⟨(w [(F.FLT_ECC_CFG_SCRUB_INT, 0, 1), (F.FLT_ECC_CFG_BKT_THR, 0, 8)]), 31, 1, 1023, by decide⟩

theorem test_IntegrityAndSensors_1_3 :
    ∃ (s : State) (c : ClusterId) (m : Fin 2) (w : Fin 1024), s.dev.scrubs 0 c m w = true ∧
    s.dev.mild 0x40 ∧ s.dev.flt.poison.contains (functionalCode (.word 0 c m w)) = false :=
  ⟨(w [(F.FLT_ECC_CFG_SCRUB_INT, 0, 1), (F.FLT_ECC_CFG_BKT_THR, 0, 8)]), 31, 1, 1023, by decide⟩

theorem test_IntegrityAndSensors_1_4 :
    ∃ (s : State) (c : ClusterId) (m : Fin 2) (w : Fin 1024), s.dev.scrubs 0 c m w = true ∧
    s.dev.flt.poison.contains (functionalCode (.word 0 c m w)) = true :=
  ⟨(w [(F.FLT_ECC_CFG_SCRUB_INT, 0, 1), (F.FLT_ECC_CFG_BKT_THR, 0, 8)] (onDev (fun d => { d with flt := { d.flt with poison := [functionalCode (.word 0 31 1 1023)] } }))),
    31,
    1,
    1023, by decide⟩

theorem test_IntegrityAndSensors_2 :
    ∃ (s : State) (a o m w : Nat), s.dev.scrubs a o m w = true ∧ s.dev.collects :=
  ⟨(w [(F.FLT_ECC_CFG_SCRUB_INT, 0, 1)]), 7, 0, 7, 4095, by decide⟩

theorem test_IntegrityAndSensors_3 :
    ∃ (s : State), NMap.sorted s.dev.flt.buckets = true ∧ s.dev.flt.leakDue ≤ s.dev.seconds :=
  ⟨(w [] (onDev (fun d => { d with time := 64 * 390625000 }))), by decide⟩

theorem test_IntegrityAndSensors_4 :
    ∃ (s : State), s.dev.hub.sigDue ≤ s.dev.time :=
  ⟨(w [] (onDev (fun d => { d with time := 3125000000 }))), by decide⟩

theorem test_IntegrityAndSensors_5 :
    ∃ (s : State) (n : DieId) (ts : List (BitVec 16)), (s.dev.die n).on = true ∧ ts.length = 10 ∧
    (∀ x ∈ ts, x.toInt < 960) :=
  ⟨w [], 3, List.replicate 10 959, by decide, rfl, fun x h => by rw [List.eq_of_mem_replicate h]; decide⟩

theorem test_IntegrityAndSensors_6_1 :
    ∃ (s : State) (c : ClusterId) (m : Fin 2) (w : Fin 1024), NMap.sorted s.dev.flt.scrubNext = true ∧
    (s.dev.flt.scrubNext.find (macroCode 0 c m)).getD 0 = w.val :=
  ⟨(w [] (onDev (fun d => { d with flt := { d.flt with scrubNext := [(macroCode 0 31 1, 1023)] } }))), 31, 1, 1023, by decide⟩

theorem test_IntegrityAndSensors_6_2 :
    ∃ (s : State) (c : ClusterId) (m : Fin 2) (w : Fin 1024), NMap.sorted s.dev.flt.scrubNext = true ∧
    (s.dev.flt.scrubNext.find (macroCode 0 c m)).getD 0 ≠ w.val :=
  ⟨(w []), 31, 1, 1023, by decide⟩

theorem test_IntegrityAndSensors_7 :
    ∃ (s : State), s.dev.seconds < s.dev.flt.leakDue :=
  ⟨(w [] (onDev (fun d => { d with time := 64 * 390625000 - 1 }))), by decide⟩

theorem test_IntegrityAndSensors_8 :
    ∃ (s : State), s.dev.time < s.dev.hub.sigDue :=
  ⟨(w [] (onDev (fun d => { d with time := 3124999999 }))), by decide⟩

theorem test_PinsAndFuses_2_1 :
    ∃ (c : Instr) (s : State) (op : Nat) (takes : Bool) (x : Option BoundaryScan), Claims.tapCode c = some (op, takes, x) ∧
    s.dev.hub.resetLow = false ∧ s.dev.hub.pinsTaken = false ∧ s.dev.start.begun = true ∧
    (takes = true ∨ x = none) :=
  ⟨(.extestTrain { pins := { port := 3 }, data := { port := 5 } }),
    (w []),
    9,
    true,
    some { pins := { port := 3 }, data := { port := 5 } }, by decide +kernel⟩

theorem test_PinsAndFuses_2_2 :
    ∃ (c : Instr) (s : State) (op : Nat) (takes : Bool) (x : Option BoundaryScan) (b : BoundaryScan), Claims.tapCode c = some (op, takes, x) ∧
    s.dev.hub.resetLow = false ∧ s.dev.hub.pinsTaken = false ∧ s.dev.start.begun = true ∧
    takes = false ∧ x = some b :=
  ⟨(.samplePreload { pins := { port := 3 }, data := { port := 5 } }),
    (w []),
    1,
    false,
    some { pins := { port := 3 }, data := { port := 5 } },
    { pins := { port := 3 }, data := { port := 5 } }, by decide +kernel⟩

theorem test_PinsAndFuses_2_3 :
    ∃ (c : Instr) (s : State) (op : Nat) (takes : Bool) (x : Option BoundaryScan), Claims.tapCode c = some (op, takes, x) ∧
    s.dev.hub.resetLow = true ∧ s.dev.start.begun = false :=
  ⟨(.extest { pins := { port := 3 }, data := { port := 5 } }),
    (w [] (onDev (fun d => { d with hub := { d.hub with resetLow := true }, start := {} }))),
    0,
    true,
    some { pins := { port := 3 }, data := { port := 5 } }, by decide +kernel⟩

theorem test_PinsAndFuses_3 :
    ∃ (s : State), s.dev.hub.pinsTaken = false :=
  ⟨(w []), by decide⟩

theorem test_PinsAndFuses_4 :
    ∃ (s : State), s.dev.hub.pinsTaken = true ∧ s.dev.hub.resetLow = false :=
  ⟨(w [] (onDev (fun d => { d with hub := { d.hub with pinsTaken := true } }))), by decide⟩

theorem test_PinsAndFuses_5_1 :
    ∃ (s : State), s.keep.fuses.state = 0 ∧ s.keep.fuses.keyFused = false :=
  ⟨(w []), by decide⟩

theorem test_PinsAndFuses_5_2 :
    ∃ (s : State), (s.keep.fuses.state ≠ 0 ∨ s.keep.fuses.keyFused = true) :=
  ⟨{ keep := { fuses := { keyFused := true } } }, by decide⟩

end Sys2Proof.Tests
end

section
/-! The address map (R13, R14) and slave transactions that a package answers (R314 to R322): which addresses hold a
register, and what the commit of a well-formed transaction starts from. -/

namespace Sys2Proof.Machine

/-! The address map -/

/-- How many bytes of addresses one block of a kind takes (R13). -/
def blkSize : Blk → Nat
  | .hub => 0x100000
  | .lu => 0x1000
  | .cl => 0x4000
  | .rg => 0x4000
  | .die => 0x8000

/-- An offset within a block is located in that block. -/
theorem locate_blkBase (b : Blk) (i off : Nat) (hi : i < blkCount b) (ho : off < blkSize b) :
    locate (blkBase b i + off) = some (b, i, off) := by
  unfold locate
  cases b <;> simp only [blkCount, blkSize] at hi ho
  case hub =>
    have hb : blkBase .hub i = 0 := rfl
    rw [if_pos (by omega), hb, Nat.zero_add, Nat.lt_one_iff.1 hi]
  case lu =>
    have hb : blkBase .lu i = 0x100000 + i * 0x1000 := rfl
    rw [if_neg (by omega), if_pos (by omega)]
    simp only [Option.some.injEq, Prod.mk.injEq, true_and]
    omega
  case cl =>
    have hb : blkBase .cl i = 0x200000 + i * 0x4000 := rfl
    rw [if_neg (by omega), if_neg (by omega), if_pos (by omega)]
    simp only [Option.some.injEq, Prod.mk.injEq, true_and]
    omega
  case rg =>
    have hb : blkBase .rg i = 0x280000 + i * 0x4000 := rfl
    rw [if_neg (by omega), if_neg (by omega), if_neg (by omega), if_pos (by omega)]
    simp only [Option.some.injEq, Prod.mk.injEq, true_and]
    omega
  case die =>
    have hb : blkBase .die i = 0x2A0000 + i * 0x8000 := rfl
    rw [if_neg (by omega), if_neg (by omega), if_neg (by omega), if_neg (by omega), if_pos (by omega)]
    simp only [Option.some.injEq, Prod.mk.injEq, true_and]
    omega

theorem locate_above {a : Nat} (h : 0x2C0000 ≤ a) : locate a = none := by
  unfold locate
  iterate 5 rw [if_neg (by omega)]

theorem regAt_misaligned {a : Nat} (h : a % 4 ≠ 0) : regAt a = none := if_neg h

theorem regAt_above {a : Nat} (h : 0x2C0000 ≤ a) : regAt a = none := by
  simp [regAt, locate_above h]

/-- The register at an aligned offset of a block is the one its kind's table lists there. -/
theorem regAt_blkBase (b : Blk) (i off : Nat) (hi : i < blkCount b) (ho : off < blkSize b) (h4 : off % 4 = 0) :
    regAt (blkBase b i + off) = findReg b off := by
  have hb : blkBase b i % 4 = 0 := by cases b <;> simp only [blkBase] <;> omega
  rw [regAt, if_pos (by omega), locate_blkBase b i off hi ho, Option.bind_some]

/-! Transactions that the package answers -/

/-- The device as the commit of a well-formed transaction finds it: the response is driven, PERR and LKV are cleared. -/
def Dev.answered (d : Dev) (k : Keep) (as : List Nat) (reads : Bool) : Dev :=
  (d.respond (some (d.response k as reads))).cleared

section answered
variable (d : Dev) (k : Keep) (as : List Nat) (reads : Bool)

@[simp] theorem Dev.answered_resp : (d.answered k as reads).port.resp = some (d.response k as reads) := rfl
@[simp] theorem Dev.answered_queue : (d.answered k as reads).port.queue = d.port.queue := rfl
@[simp] theorem Dev.answered_regs : (d.answered k as reads).regs = d.regs := rfl
@[simp] theorem Dev.answered_shadows : (d.answered k as reads).shadows = d.shadows := rfl
@[simp] theorem Dev.word_answered (a : Nat) : (d.answered k as reads).word a = d.word a := rfl
@[simp] theorem Dev.offAt_answered (a : Nat) : (d.answered k as reads).offAt a = d.offAt a := rfl
@[simp] theorem Dev.tstAt_answered (a : Nat) : (d.answered k as reads).tstAt a = d.tstAt a := rfl
@[simp] theorem Dev.waits_answered (a : Nat) : (d.answered k as reads).waits a = d.waits a := rfl
@[simp] theorem Dev.latched_answered (a : Nat) : (d.answered k as reads).latched a = d.latched a := rfl

end answered

/-- With no written word waiting there is nothing to drain. -/
theorem Dev.drain_empty (d : Dev) (k : Keep) (h : d.port.queue = []) : d.drain k = d := by
  unfold Dev.drain
  rw [h, List.foldl_nil, ← h]

/-- A well-formed transaction to this package, with no written word waiting, ends with its commit. -/
theorem Dev.transaction_addressed {d : Dev} {pkg : Fin 8} (h : Claims.addressed d pkg) (k : Keep) (as : List Nat)
    (reads : Bool) (commit : Dev → Dev) :
    d.transaction k pkg .wellFormed as reads commit = commit (d.answered k as reads) := by
  obtain ⟨hans, hq, hpkg⟩ := h
  simp only [Dev.transaction, hans, d.drain_empty k hq, hpkg, Dev.answered, Bool.not_true, Bool.false_eq_true,
    reduceCtorEq, ne_eq, not_true_eq_false, if_false]

theorem exec_read_addressed {s : State} {pkg : Fin 8} (h : Claims.addressed s.dev pkg) (addr : BitVec 24) :
    exec (.read pkg addr .wellFormed) s =
      .next { s with dev := (s.dev.answered s.keep [addr.toNat] true).commitRead addr.toNat } := by
  show execRead pkg addr .wellFormed s = _
  rw [execRead, State.actK_eq, Dev.transaction_addressed h]

theorem exec_write_addressed {s : State} {pkg : Fin 8} (h : Claims.addressed s.dev pkg) (addr : BitVec 24) (w : Word) :
    exec (.write pkg addr w .wellFormed) s =
      .next { s with dev := (s.dev.answered s.keep [addr.toNat] false).commitWrites s.keep [(addr.toNat, w)] } := by
  show execWrite pkg addr w .wellFormed s = _
  rw [execWrite, State.actK_eq, Dev.transaction_addressed h]

theorem exec_registerWrite (addr : BitVec 24) (w : Word) (s : State) :
    exec (.registerWrite addr w) s = .next { s with dev := s.dev.writeReg s.keep addr.toNat w } := rfl

/-- The response to the read of one word: the status byte and the word's bytes, lowest first (R315, R316). -/
theorem Dev.response_single (d : Dev) (k : Keep) (a : Nat) :
    d.response k [a] true = d.statusByte [a] :: leBytes (d.readWord k a).toNat 4 := by
  simp [Dev.response, Dev.gather]

/-- The commit of one word that need not wait writes its register; push words take another way (R317). -/
theorem Dev.commitWrites_single (d : Dev) (k : Keep) {a : Nat} (w : Word) (ha : a ≠ 0x140) (hq : d.port.queue = [])
    (hw : d.waits a = false) :
    d.commitWrites k [(a, w)] =
      { d.writeReg k a w with port := { (d.writeReg k a w).port with queue := [] } } := by
  simp [Dev.commitWrites, Dev.flow, ha, hq, hw]

end Sys2Proof.Machine
end

section
/-! Unassigned addresses (R14). -/

namespace Sys2Proof.Machine

/-! ADDR_ERR -/

@[simp] theorem Dev.addrErr_port (d : Dev) : d.addrErr.port = d.port := rfl

theorem Dev.addrErr_is (d : Dev) : d.addrErr.is F.HUB_MP_EVT_ADDR_ERR 0 = true := by
  rw [Dev.is_eq, Dev.addrErr, d.get_put_eq _ _ _ (by decide)]
  decide

theorem Dev.fieldsKept_addrErr (d : Dev) : d.fieldsKept d.addrErr [(F.HUB_MP_EVT_ADDR_ERR, 0)] [] :=
  Dev.fieldsKept_put _ 0 1 (by decide) (List.mem_singleton.2 rfl) (d.fieldsKept_refl _ _)

/-! What each access does at an unassigned address -/

section unassigned
variable {a : Nat} (h : regAt a = none)
include h

theorem Dev.readWord_unassigned (d : Dev) (k : Keep) : d.readWord k a = 0 := by
  simp only [Dev.readWord, h]

theorem Dev.commitRead_unassigned (d : Dev) : d.commitRead a = d.addrErr := by
  simp only [Dev.commitRead, h]

theorem Dev.writeReg_unassigned (d : Dev) (k : Keep) (w : Word) : d.writeReg k a w = d.addrErr.refuse := by
  simp only [Dev.writeReg, h]

theorem ne_pushWord_of_unassigned : a ≠ 0x140 := by
  rintro rfl
  exact absurd h (by decide)

end unassigned

/-- Settles O12: outside the tables a read gathers 0, and a write only sets PERR and ADDR_ERR. -/
theorem unassignedAddresses : Obligations.UnassignedAddresses := by
  refine ⟨fun a h => h.elim regAt_misaligned regAt_above, fun s pkg addr w hr => ⟨fun hs => ⟨?_, fun hw => ?_⟩, ?_⟩⟩
  · refine ⟨_, s.dev.statusByte [addr.toNat], exec_read_addressed hs addr, ?_⟩
    simp only [Dev.commitRead_unassigned hr, Dev.addrErr_port, Dev.answered_resp, Dev.response_single,
      Dev.readWord_unassigned hr]
    rfl
  · have ⟨_, hq, _⟩ := hs
    have hc := (s.dev.answered s.keep [addr.toNat] false).commitWrites_single s.keep w (ne_pushWord_of_unassigned hr)
      hq hw
    rw [Dev.writeReg_unassigned hr] at hc
    refine ⟨_, (exec_write_addressed hs addr w).trans (by rw [hc]), rfl, ?_, ?_, rfl⟩
    · exact (s.dev.answered s.keep [addr.toNat] false).addrErr_is
    · exact (s.dev.answered s.keep [addr.toNat] false).fieldsKept_addrErr
  · refine ⟨_, (exec_registerWrite addr w s).trans (by rw [Dev.writeReg_unassigned hr]), rfl, ?_, rfl⟩
    exact s.dev.fieldsKept_addrErr

end Sys2Proof.Machine
end

section
/-! 64-bit counters (R15, R247, R507): where their words lie, and what reading each word does. -/

namespace Sys2Proof.Machine

/-! Where the words of counters lie -/

/-- An offset in a unit's counter window at which the unit's table lists a register (R247). -/
def IsUnitCounterOff (off : Nat) : Prop := 0x400 ≤ off ∧ off < 0x500 ∧ off % 4 = 0 ∧ (findReg .lu off).isSome = true

/-- The low word of a counter, by block: the hub's three, or one at an offset divisible by 8 in a unit's counter window. -/
theorem counterLow_cases {a : Nat} (h : Claims.counterLow a) :
    (a = 0x30048 ∨ a = 0x30050 ∨ a = 0x30058) ∨
      ∃ (u : UnitId) (off : Nat), a = blkBase .lu u + off ∧ off % 8 = 0 ∧ IsUnitCounterOff off ∧ IsUnitCounterOff (off + 4) := by
  have low_of_high : ∀ k : Fin 32, (findReg .lu (0x400 + 8 * k.val + 4)).isSome = true →
      (findReg .lu (0x400 + 8 * k.val)).isSome = true := by decide
  rcases h with h | h | h | ⟨u, k, ha, hs⟩
  · exact .inl (.inl h)
  · exact .inl (.inr (.inl h))
  · exact .inl (.inr (.inr h))
  · have hk := k.isLt
    rw [ha, Nat.add_assoc, Nat.add_assoc, regAt_blkBase .lu u _ u.isLt (by simp only [blkSize]; omega) (by omega),
      ← Nat.add_assoc] at hs
    refine .inr ⟨u, 0x400 + 8 * k.val, by omega, by omega, ⟨by omega, by omega, by omega, low_of_high k hs⟩, ?_⟩
    exact ⟨by omega, by omega, by omega, hs⟩

/-- The words of the hub's three counters (R507). -/
def hubCounterWords : List Nat := [0x30048, 0x3004C, 0x30050, 0x30054, 0x30058, 0x3005C]

/-- An address that holds a word of a counter. -/
def IsCounterWord (a : Nat) : Prop :=
  a ∈ hubCounterWords ∨
    ∃ (u : UnitId) (off : Nat), a = blkBase .lu u + off ∧ IsUnitCounterOff off

theorem isCounterWord_low {a : Nat} (h : Claims.counterLow a) : IsCounterWord a := by
  rcases counterLow_cases h with h | ⟨u, off, ha, -, hlo, -⟩
  · exact .inl (by rcases h with rfl | rfl | rfl <;> decide)
  · exact .inr ⟨u, off, ha, hlo⟩

theorem isCounterWord_high {a : Nat} (h : Claims.counterLow a) : IsCounterWord (a + 4) := by
  rcases counterLow_cases h with h | ⟨u, off, ha, -, -, hhi⟩
  · exact .inl (by rcases h with rfl | rfl | rfl <;> decide)
  · exact .inr ⟨u, off + 4, by rw [ha, Nat.add_assoc], hhi⟩

/-- A unit's counter words lie in the range of the units' blocks. -/
theorem locate_unitCounter (u : UnitId) {off : Nat} (h : IsUnitCounterOff off) :
    locate (blkBase .lu u + off) = some (.lu, u.val, off) :=
  have ⟨_, hlt, _⟩ := h
  locate_blkBase .lu u off u.isLt (by simp only [blkSize]; omega)

theorem unitCounter_above_hub (u : UnitId) (off : Nat) : 0x100000 ≤ blkBase .lu u + off := by
  simp only [blkBase]; omega

/-! What every word of a counter has in common -/

/-- A register of one field, 32 bits that software can only read. -/
theorem counterWord_row {a : Nat} (h : IsCounterWord a) :
    ∃ r, regAt a = some r ∧ r.fields = [⟨31, 0, .ro, 0⟩] := by
  have hub : ∀ a ∈ hubCounterWords, (regAt a).map RegRow.fields = some [⟨31, 0, .ro, 0⟩] := by decide
  have unit : ∀ k : Fin 64, ∀ r ∈ findReg .lu (0x400 + 4 * k.val), r.fields = [⟨31, 0, .ro, 0⟩] := by decide
  rcases h with h | ⟨u, off, rfl, h400, h500, h4, hs⟩
  · exact Option.map_eq_some_iff.1 (hub a h)
  · rw [regAt_blkBase .lu u off u.isLt (by simp only [blkSize]; omega) h4]
    obtain ⟨r, hr⟩ := Option.isSome_iff_exists.1 hs
    refine ⟨r, hr, unit ⟨(off - 0x400) / 4, by omega⟩ r ?_⟩
    rw [show 0x400 + 4 * ((off - 0x400) / 4) = off by omega]
    exact hr

/-- A register whose one field is read-only has no bits of another access code. -/
theorem RegRow.mask_readOnly {r : RegRow} (h : r.fields = [⟨31, 0, .ro, 0⟩]) {c : Acc} (hc : c ≠ .ro) : r.mask c = 0 := by
  simp [RegRow.mask, h, hc.symm]

theorem counterWord_ungated {a : Nat} (h : IsCounterWord a) : gateOf a = none := by
  have hub : ∀ a ∈ hubCounterWords, gateOf a = none := by decide
  rcases h with h | ⟨u, off, rfl, -⟩
  · exact hub a h
  · have := unitCounter_above_hub u off
    unfold gateOf
    rw [if_neg (by omega), if_neg (by omega), if_neg (by omega)]

theorem counterWord_ne_completion {a : Nat} (h : IsCounterWord a) : a ≠ 0x40018 := by
  have hub : ∀ a ∈ hubCounterWords, a ≠ 0x40018 := by decide
  rcases h with h | ⟨u, off, rfl, -⟩
  · exact hub a h
  · have := unitCounter_above_hub u off
    omega

/-- No word of a counter lies in an array that holds poisoned words (R489). -/
theorem Dev.poisonRead_counterWord {a : Nat} (h : IsCounterWord a) (d : Dev) : d.poisonRead a = d := by
  rcases h with h | ⟨u, off, rfl, hoff⟩
  · simp only [hubCounterWords, List.mem_cons, List.not_mem_nil, or_false] at h
    rcases h with rfl | rfl | rfl | rfl | rfl | rfl <;> rfl
  · simp only [Dev.poisonRead, locate_unitCounter u hoff]

theorem rsvMask_counterWord {a : Nat} (h : IsCounterWord a) : rsvMask a = 0 := by
  obtain ⟨r, hr, hf⟩ := counterWord_row h
  simp [rsvMask, hr, RegRow.mask_readOnly hf]

/-! Reads -/

/-- Where an address is read through a shadow, a read returns the shadow's word. -/
theorem Dev.readWord_shadowed {a : Nat} {r : RegRow} (hr : regAt a = some r) {d : Dev} (hoff : d.offAt a = false)
    (htst : d.tstAt a = false) {key : Nat} {ws : List Word} (hs : shadowOf a = some (key, 0))
    (hk : d.shadows.find key = some ws) (k : Keep) : d.readWord k a = ws.head?.getD 0 := by
  simp [Dev.readWord, hr, hoff, htst, hs, hk, List.head?_eq_getElem?]

/-- The hub shows its counters as their registers hold them. -/
theorem Dev.hubView_counterWord {a : Nat} (h : a ∈ hubCounterWords) (d : Dev) (k : Keep) :
    locate a = some (.hub, 0, a) ∧ d.hubView k a = d.voted a := by
  simp only [hubCounterWords, List.mem_cons, List.not_mem_nil, or_false] at h
  rcases h with rfl | rfl | rfl | rfl | rfl | rfl <;> exact ⟨rfl, rfl⟩

/-- A unit shows its counters as their registers hold them. -/
theorem Dev.blockView_unitCounter {off : Nat} (h : IsUnitCounterOff off) (d : Dev) (i a : Nat) :
    d.blockView .lu i off a = d.voted a := by
  obtain ⟨h400, -⟩ := h
  simp only [Dev.blockView]
  rw [if_neg (by omega), if_neg (by omega), if_neg (by omega), if_neg (by omega)]

/-- A word of a counter that no shadow stands before shows the vote of its register's copies. -/
theorem Dev.readWord_counterWord {a : Nat} (h : IsCounterWord a) {d : Dev} (hoff : d.offAt a = false)
    (htst : d.tstAt a = false) (hs : shadowOf a = none) (k : Keep) : d.readWord k a = d.voted a := by
  obtain ⟨r, hr, hf⟩ := counterWord_row h
  have hwo : r.mask .wo = 0 := RegRow.mask_readOnly hf (by decide)
  have hrsv := rsvMask_counterWord h
  have unmasked (x : Word) : (x ||| (x &&& 0)) &&& ~~~ 0 = x := by
    show (x ||| (x &&& 0#32)) &&& ~~~ 0#32 = x
    rw [BitVec.and_zero, BitVec.or_zero, BitVec.not_zero, BitVec.and_allOnes]
  rcases h with h | ⟨u, off, rfl, hu⟩
  · obtain ⟨hloc, hview⟩ := d.hubView_counterWord h k
    simp only [Dev.readWord, hr, hoff, htst, hs, hloc, hview, hwo, hrsv, unmasked, Bool.or_self, Bool.false_eq_true,
      if_false]
  · simp only [Dev.readWord, hr, hoff, htst, hs, locate_unitCounter u hu, d.blockView_unitCounter hu, hwo, hrsv, unmasked,
      Bool.or_self, Bool.false_eq_true, if_false]

/-- The commit of a read of a counter's word does no more than latch the shadow that the word latches. -/
theorem Dev.commitRead_counterWord {a : Nat} (h : IsCounterWord a) {d : Dev} (hoff : d.offAt a = false)
    (htst : d.tstAt a = false) : d.commitRead a = d.latch a := by
  obtain ⟨r, hr, hf⟩ := counterWord_row h
  have hrc : r.mask .rc = 0 := RegRow.mask_readOnly hf (by decide)
  simp [Dev.commitRead, hr, hoff, htst, hrc, counterWord_ne_completion h, Dev.openGate, counterWord_ungated h,
    Dev.poisonRead_counterWord h]

@[simp] theorem Dev.word_latch (d : Dev) (a b : Nat) : (d.latch a).word b = d.word b := by
  refine Dev.word_congr ?_ b
  unfold Dev.latch
  split <;> rfl

@[simp] theorem Dev.latch_port (d : Dev) (a : Nat) : (d.latch a).port = d.port := by
  unfold Dev.latch
  split <;> rfl

/-! The low word latches, the high word is read through the shadow -/

/-- A word of a unit's counter is read through a shadow where it is the high word. -/
theorem shadowOf_unitCounter (u : UnitId) {off : Nat} (h : IsUnitCounterOff off) :
    shadowOf (blkBase .lu u + off) = if off % 8 = 4 then some (blkBase .lu u + off - 4, 0) else none := by
  have := unitCounter_above_hub u off
  have ⟨h400, h500, _⟩ := h
  unfold shadowOf
  rw [if_neg (by omega), if_neg (by omega), if_neg (by omega), if_neg (by omega), locate_unitCounter u h]
  simp [h400, h500]

/-- A word of a unit's counter latches a shadow where it is the low word. -/
theorem Dev.latched_unitCounter (u : UnitId) {off : Nat} (h : IsUnitCounterOff off) (d : Dev) :
    d.latched (blkBase .lu u + off) =
      if off % 8 = 0 then some (blkBase .lu u + off, [d.word (blkBase .lu u + off + 4)]) else none := by
  have := unitCounter_above_hub u off
  have ⟨h400, h500, _⟩ := h
  unfold Dev.latched
  rw [if_neg (by omega), if_neg (by omega), if_neg (by omega), if_neg (by omega), locate_unitCounter u h]
  simp [h400, h500]

theorem shadowOf_counterLow {a : Nat} (h : Claims.counterLow a) : shadowOf a = none := by
  rcases counterLow_cases h with h | ⟨u, off, rfl, h8, hlo, -⟩
  · rcases h with rfl | rfl | rfl <;> rfl
  · rw [shadowOf_unitCounter u hlo, if_neg (by omega)]

theorem shadowOf_counterHigh {a : Nat} (h : Claims.counterLow a) : shadowOf (a + 4) = some (a, 0) := by
  rcases counterLow_cases h with h | ⟨u, off, rfl, h8, -, hhi⟩
  · rcases h with rfl | rfl | rfl <;> rfl
  · rw [Nat.add_assoc, shadowOf_unitCounter u hhi, if_pos (by omega), ← Nat.add_assoc, Nat.add_sub_cancel]

theorem Dev.latched_counterLow {a : Nat} (h : Claims.counterLow a) (d : Dev) :
    d.latched a = some (a, [d.word (a + 4)]) := by
  rcases counterLow_cases h with h | ⟨u, off, rfl, h8, hlo, -⟩
  · exact if_pos h
  · rw [d.latched_unitCounter u hlo, if_pos h8]

theorem Dev.latched_counterHigh {a : Nat} (h : Claims.counterLow a) (d : Dev) : d.latched (a + 4) = none := by
  rcases counterLow_cases h with h | ⟨u, off, rfl, h8, -, hhi⟩
  · rcases h with rfl | rfl | rfl <;> rfl
  · rw [Nat.add_assoc, d.latched_unitCounter u hhi, if_neg (by omega)]

/-- Reading the low word latches the high word under the low word's address (R15). -/
theorem Dev.latch_counterLow {a : Nat} (h : Claims.counterLow a) (d : Dev) :
    d.latch a = { d with shadows := d.shadows.insert a [d.word (a + 4)] } := by
  simp only [Dev.latch, d.latched_counterLow h]

theorem Dev.latch_counterHigh {a : Nat} (h : Claims.counterLow a) (d : Dev) : d.latch (a + 4) = d := by
  simp only [Dev.latch, d.latched_counterHigh h]

/-- A READ of a counter's word answers with the word gathered, and commits by latching alone. -/
theorem exec_read_counterWord {s : State} {pkg : Fin 8} (hs : Claims.addressed s.dev pkg) {addr : BitVec 24}
    (h : IsCounterWord addr.toNat) (hoff : s.dev.offAt addr.toNat = false) (htst : s.dev.tstAt addr.toNat = false) :
    ∃ t b, exec (.read pkg addr .wellFormed) s = .next t ∧
      t.dev = (s.dev.answered s.keep [addr.toNat] true).latch addr.toNat ∧
      t.dev.port.resp = some (b :: leBytes (s.dev.readWord s.keep addr.toNat).toNat 4) ∧
      ∀ a, t.dev.word a = s.dev.word a := by
  have hc := Dev.commitRead_counterWord h (d := s.dev.answered s.keep [addr.toNat] true) hoff htst
  refine ⟨_, s.dev.statusByte [addr.toNat], (exec_read_addressed hs addr).trans (by rw [hc]), rfl, ?_, fun a => ?_⟩
  · simp [Dev.response_single]
  · simp

/-- Settles O13: the low word is served by its register and the high word by the shadow it latched. -/
theorem counterShadows : Obligations.CounterShadows := by
  refine ⟨fun s pkg addr hs hlow hoff htst => ?_, fun s pkg addr h hs h4 hlow hoff htst hsh => ?_⟩
  · have hw := isCounterWord_low hlow
    obtain ⟨t, b, he, hd, hresp, hword⟩ := exec_read_counterWord hs hw hoff htst
    rw [Dev.readWord_counterWord hw hoff htst (shadowOf_counterLow hlow)] at hresp
    refine ⟨t, b, he, hresp, ?_, hword⟩
    simp [hd, Dev.latch_counterLow hlow]
  · obtain ⟨a, ha⟩ : ∃ a, addr.toNat = a + 4 := ⟨addr.toNat - 4, by omega⟩
    rw [ha, Nat.add_sub_cancel] at hlow hsh
    have hw : IsCounterWord addr.toNat := ha ▸ isCounterWord_high hlow
    obtain ⟨r, hr, -⟩ := counterWord_row hw
    obtain ⟨t, b, he, hd, hresp, hword⟩ := exec_read_counterWord hs hw hoff htst
    rw [Dev.readWord_shadowed hr hoff htst (ha ▸ shadowOf_counterHigh hlow) hsh] at hresp
    refine ⟨t, b, he, hresp, ?_, hword⟩
    rw [hd, ha, Dev.latch_counterHigh hlow, Dev.answered_shadows]

end Sys2Proof.Machine
end

section
/-! The transmit FIR register of a unit and its presets (R162, R168, R169). -/

namespace Sys2Proof.Machine

/-! What the tables say of the registers of the transmit FIR -/

/-- The register of a field, in a block that exists, is the one that the block kind's table lists at the field's offset. -/
theorem regAt_addr {f : Fld} {i : Nat} (hf : f.fits = true) (hi : i < blkCount f.blk) (h4 : f.off % 4 = 0) :
    regAt (f.addr i) = findReg f.blk f.off := by
  refine regAt_blkBase f.blk i f.off hi ?_ h4
  simp only [Fld.fits, decide_eq_true_eq] at hf
  obtain ⟨-, -, ho⟩ := hf
  cases hb : f.blk <;> simpa only [hb, blkSize] using ho

theorem resetOf_addr {f : Fld} {i : Nat} (hf : f.fits = true) (hi : i < blkCount f.blk) (h4 : f.off % 4 = 0) :
    resetOf (f.addr i) = ((findReg f.blk f.off).map RegRow.resetWord).getD 0 :=
  congrArg (fun r => (r.map RegRow.resetWord).getD 0) (regAt_addr hf hi h4)

theorem Dev.word_reset (a : Nat) : State.reset.dev.word a = resetOf a := rfl

/-- Preset 3 is what LU_TX_FIR holds at reset (R162). -/
theorem resetOf_txFir (u : UnitId) : resetOf (F.LU_TX_FIR_C0.addr u) = presetWord 3 :=
  (resetOf_addr (by decide) u.isLt (by decide)).trans (by decide)

theorem resetOf_txCtrl (u : UnitId) : resetOf (F.LU_TX_CTRL_PRESET.addr u) = 3 :=
  (resetOf_addr (by decide) u.isLt (by decide)).trans (by decide)

/-- Of LU_TX_FIR bit 31 alone is reserved (R168). -/
theorem rsvMask_txFir (u : UnitId) : rsvMask (F.LU_TX_FIR_C0.addr u) = fieldMask 31 31 := by
  have hz : rsvReadsZero (F.LU_TX_FIR_C0.addr u) = false := by
    have ha : F.LU_TX_FIR_C0.addr u = 0x100000 + u * 0x1000 + 0x200 := rfl
    rw [rsvReadsZero, decide_eq_false_iff_not, ha]
    omega
  rw [rsvMask, hz, regAt_addr (by decide) u.isLt (by decide)]
  decide

theorem txFir_ne_txCtrl (u : Nat) : F.LU_TX_CTRL_PRESET.addr u ≠ F.LU_TX_FIR_C0.addr u :=
  (Fld.addr_inj (f := F.LU_TX_CTRL_PRESET) (g := F.LU_TX_FIR_C0) rfl u).not.2 (by decide)

/-! The presets -/

/-- The magnitudes of every preset's taps sum to 64 (R162). -/
theorem presetWord_sum {p : Nat} (h1 : 1 ≤ p) (h5 : p ≤ 5) : ((firTaps (presetWord p)).map Int.natAbs).sum = 64 := by
  interval_cases p <;> decide

/-! Loading a preset -/

/-- What hardware reports goes in bit by bit: a reserved bit stays, another takes the new value (R349, R356). -/
theorem Dev.bit_report (d : Dev) (a : Nat) (w : Word) (i : Nat) :
    ((d.report a w).word a).getLsbD i =
      if (rsvMask a).getLsbD i then (d.word a).getLsbD i else w.getLsbD i := by
  rw [Dev.word_report, if_pos rfl]
  by_cases hi : i < 32
  · simp only [BitVec.getLsbD_or, BitVec.getLsbD_and, BitVec.getLsbD_not, hi, decide_true, Bool.true_and]
    cases (rsvMask a).getLsbD i <;> simp
  · simp [BitVec.getLsbD_of_ge _ _ (Nat.le_of_not_lt hi)]

section presetGo
variable (d : Dev) (u : UnitId) (p : Nat)

theorem Dev.word_presetGo (a : Nat) :
    (d.presetGo u p).word a = (d.report (F.LU_TX_FIR_C0.addr u) (presetWord p)).word a := rfl

theorem Dev.unit_presetGo (v : Nat) :
    (d.presetGo u p).unit v =
      if v = u then { d.unit u with co := { (d.unit u).co with firNew := true } } else d.unit v :=
  Dev.unit_onUnit _ _ _ _

/-- The preset's taps are in force after the load. -/
theorem Dev.firIs_presetGo : Claims.firIs (d.presetGo u p) u (presetWord p) := by
  refine BitVec.eq_of_getLsbD_eq fun i hi => ?_
  have hm : (fieldMask 31 31).getLsbD i = false := by
    rw [bit_fieldMask _ _ _ (by decide) le_rfl, decide_eq_false_iff_not]
    omega
  rw [BitVec.getLsbD_setWidth, BitVec.getLsbD_setWidth, Dev.word_presetGo, Dev.bit_report, rsvMask_txFir, hm]
  rfl

/-- The load leaves the reserved bit of LU_TX_FIR. -/
theorem Dev.reserved_presetGo :
    ((d.presetGo u p).word (F.LU_TX_FIR_C0.addr u)).getLsbD 31 = (d.word (F.LU_TX_FIR_C0.addr u)).getLsbD 31 := by
  have hm : (fieldMask 31 31).getLsbD 31 = true := by decide
  rw [Dev.word_presetGo, Dev.bit_report, rsvMask_txFir, hm, if_pos rfl]

theorem Dev.fieldsKept_presetGo {d e : Dev} {fs : List (Fld × Nat)} {as : List Nat} (hm : F.LU_TX_FIR_C0.addr u ∈ as)
    (k : d.fieldsKept e fs as) : d.fieldsKept (e.presetGo u p) fs as :=
  Dev.fieldsKept_congr rfl (Dev.fieldsKept_setWord _ _ hm k)

end presetGo

/-! PRESET_GO -/

section exec_presetGo
variable {s : State} {u : UnitId} {p : Fin 8}

/-- PRESET_GO answers a next state in every case, and only the device can differ there. -/
theorem exec_presetGo (u : UnitId) (p : Fin 8) (s : State) :
    exec (.presetGo u p) s = .next { s with
      dev :=
        if s.dev.off .lu u 0 then s.dev.refuse
        else if s.dev.tst .lu u then s.dev
        else if 1 ≤ p.val ∧ p.val ≤ 5 then (s.dev.put F.LU_TX_CTRL_PRESET u p).presetGo u p
        else s.dev.refuse } := rfl

/-- A preset of 1 to 5 is stored in LU_TX_CTRL and loaded. -/
theorem exec_presetGo_loads (hoff : s.dev.off .lu u 0 = false) (htst : s.dev.tst .lu u = false) (h1 : 1 ≤ p.val)
    (h5 : p.val ≤ 5) :
    exec (.presetGo u p) s = .next { s with dev := (s.dev.put F.LU_TX_CTRL_PRESET u p).presetGo u p } := by
  rw [exec_presetGo, if_neg (by simp [hoff]), if_neg (by simp [htst]), if_pos ⟨h1, h5⟩]

theorem exec_presetGo_underTest (hoff : s.dev.off .lu u 0 = false) (htst : s.dev.tst .lu u = true) :
    exec (.presetGo u p) s = .next s := by
  rw [exec_presetGo, if_neg (by simp [hoff]), if_pos htst]

theorem exec_presetGo_off (hoff : s.dev.off .lu u 0 = true) :
    exec (.presetGo u p) s = .next { s with dev := s.dev.refuse } := by
  rw [exec_presetGo, if_pos hoff]

/-- No preset has the number 0, 6 or 7: a unit that is not under test refuses it, off or not. -/
theorem exec_presetGo_noPreset (htst : s.dev.tst .lu u = false) (hp : p.val = 0 ∨ 5 < p.val) :
    exec (.presetGo u p) s = .next { s with dev := s.dev.refuse } := by
  rw [exec_presetGo, if_neg (c := s.dev.tst .lu u = true) (by simp [htst]),
    if_neg (c := 1 ≤ p.val ∧ p.val ≤ 5) (by omega), ite_self]

end exec_presetGo

/-- Settles O35: the presets are closed words, a load writes them past the reserved bit, and the other cases only refuse
or do nothing. -/
theorem presetsLoadTheirTaps : Obligations.PresetsLoadTheirTaps := by
  refine ⟨⟨by decide, by decide, by decide, by decide, by decide, fun p => presetWord_sum, fun u => ⟨?_, ?_⟩⟩,
    fun s u p hoff htst h1 h5 => ?_, fun s u p => exec_presetGo_underTest,
    fun s u p h => h.elim exec_presetGo_off fun ⟨htst, hp⟩ => exec_presetGo_noPreset htst hp⟩
  · rw [Dev.get, Dev.word_reset, resetOf_txCtrl]
    rfl
  · rw [Dev.word_reset, resetOf_txFir]
  · have hctrl := (txFir_ne_txCtrl u).symm
    have hreserved := (s.dev.put F.LU_TX_CTRL_PRESET u p).reserved_presetGo u p
    rw [Dev.word_put_ne _ _ _ _ hctrl] at hreserved
    refine ⟨_, exec_presetGo_loads hoff htst h1 h5, ?_, Dev.firIs_presetGo _ u p, hreserved,
      NMap.find_erase_self _ _, fun a ha => NMap.find_erase_ne _ ha, rfl, ?_, fun v hv => ?_, rfl, rfl, ?_⟩
    · rw [Dev.get, Dev.word_presetGo, Dev.word_report_ne _ _ hctrl.symm]
      exact (Dev.get_put_eq _ _ _ _ (by decide)).trans (Nat.mod_eq_of_lt p.isLt)
    · rw [Dev.unit_presetGo, if_pos rfl, Dev.unit_put]
    · rw [Dev.unit_presetGo, if_neg hv, Dev.unit_put]
    · exact Dev.fieldsKept_presetGo u p (List.mem_singleton.2 rfl)
        (Dev.fieldsKept_put _ _ _ (by decide) (List.mem_singleton.2 rfl) (s.dev.fieldsKept_refl _ _))

end Sys2Proof.Machine
end

section
/-! Failed slave transactions (R320, R343) and the read that has timed out (R318). -/

namespace Sys2Proof.Machine

/-! One-bit flags and saturating counts -/

/-- A one-bit field that is written 1 is set. -/
theorem Dev.is_put_one (d : Dev) {f : Fld} (i : Nat) (hf : f.fits = true) (hbit : f.hi = f.lo) :
    (d.put f i 1).is f i = true := by
  rw [Dev.is_eq, d.get_put_eq f i 1 hf, hbit, Nat.add_sub_cancel_left]
  rfl

/-- A count stops at the largest value of its field. -/
theorem Dev.get_bump (d : Dev) {f : Fld} (i k : Nat) (hf : f.fits = true) :
    (d.bump f i k).get f i = min (d.get f i + k) (2 ^ (f.hi + 1 - f.lo) - 1) := by
  rw [Dev.bump, d.get_put_eq f i _ hf, satAdd]
  exact Nat.mod_eq_of_lt ((Nat.min_le_right _ _).trans_lt (Nat.sub_one_lt (Nat.two_pow_pos _).ne'))

/-! What a failed transaction does -/

section failed
variable (d : Dev) (f : Fld) (r : Option (List Byte))

/-- Outside the registers a failed transaction sets PERR and drives its response, and nothing else. -/
theorem Dev.failed_rest :
    d.failed f r =
      { d with regs := (d.failed f r).regs, port := { d.port with perr := true, resp := (d.failed f r).port.resp } } :=
  rfl

/-- A failed transaction sets its flag: the count of FAILS, made after it, does not reach the flag's bit. -/
theorem Dev.failed_is {f : Fld} (hf : f.fits = true) (hbit : f.hi = f.lo) (hsep : F.HUB_MP_CNT_FAILS.apart f = true) :
    (d.failed f r).is f 0 = true := by
  have hkeep : (d.failed f r).get f 0 = (d.put f 0 1).get f 0 := (d.put f 0 1).get_put_sep _ f 0 _ hsep
  rw [Dev.is_eq, hkeep]
  exact d.is_put_one 0 hf hbit

/-- A failed transaction counts once in FAILS, from the count that stood before it: setting the flag leaves that count. -/
theorem Dev.failed_get_fails {f : Fld} (hsep : f.apart F.HUB_MP_CNT_FAILS = true) :
    (d.failed f r).get F.HUB_MP_CNT_FAILS 0 = min (d.get F.HUB_MP_CNT_FAILS 0 + 1) 0xFFFF := by
  have hcount := (d.put f 0 1).get_bump (f := F.HUB_MP_CNT_FAILS) 0 1 (by decide)
  rw [d.get_put_sep f _ 0 1 hsep] at hcount
  exact hcount

theorem Dev.fieldsKept_failed {f : Fld} (hf : f.fits = true) :
    d.fieldsKept (d.failed f r) [(f, 0), (F.HUB_MP_CNT_FAILS, 0)] [] := by
  have hflag : d.fieldsKept (d.put f 0 1) [(f, 0), (F.HUB_MP_CNT_FAILS, 0)] [] :=
    Dev.fieldsKept_put f 0 1 hf (by simp) (d.fieldsKept_refl _ _)
  exact Dev.fieldsKept_put F.HUB_MP_CNT_FAILS 0 _ (by decide) (by simp) hflag

end failed

/-! The read that has timed out -/

theorem b2n_le_one (b : Bool) : b2n b ≤ 1 := by cases b <;> decide

/-- The seven bits below RDY add up to less than its weight, so RDY stands whatever they are (R17). -/
theorem Dev.statusByte_rdy (d : Dev) (as : List Nat) : (d.statusByte as).getLsbD 7 = true := by
  have hperr := b2n_le_one d.port.perr
  have hbusy := b2n_le_one d.port.posted.isSome
  have halert := b2n_le_one d.alert
  have hlkv := b2n_le_one d.port.lkv
  have htst := b2n_le_one (as.any d.tstAt)
  have hoff := b2n_le_one (as.any d.offAt)
  have hsafe := b2n_le_one d.safe
  simp only [Dev.statusByte, BitVec.getLsbD_ofNat, Nat.testBit_eq_decide_div_mod_eq, Bool.and_eq_true, decide_eq_true_eq]
  omega

/-- The target addresses of a read of n words: of one address, or of successive ones (R315). -/
def readTargets (addr : BitVec 24) (n : Nat) (fix : Bool) : List Nat :=
  if fix then List.replicate n addr.toNat else burst addr.toNat n

/-- A read of this package that times out, with no written word waiting, fails with RD_TMO and drives zeros. -/
theorem exec_rdTmo_addressed {s : State} {pkg : Fin 8} (h : Claims.addressed s.dev pkg) (addr : BitVec 24) (cnt : Fin 64)
    (fix : Bool) :
    exec (.rdTmo pkg addr cnt fix) s =
      .next { s with
        dev := s.dev.failed F.HUB_MP_EVT_RD_TMO
          (some (s.dev.statusByte (readTargets addr (cnt.val + 1) fix) :: List.replicate (4 * (cnt.val + 1)) 0)) } := by
  obtain ⟨hans, hq, hpkg⟩ := h
  show execRdTmo pkg addr cnt fix s = _
  simp only [execRdTmo, State.actK_eq, hans, s.dev.drain_empty s.keep hq, hpkg, readTargets, Bool.not_true,
    Bool.false_eq_true, ne_eq, not_true_eq_false, if_false]

/-- Settles O9: the read ends as a failed transaction with flag RD_TMO, whose response is a status byte and zeros. -/
theorem readTimeouts : Obligations.ReadTimeouts := by
  intro s pkg addr cnt fix hs
  refine ⟨_, s.dev.statusByte (readTargets addr (cnt.val + 1) fix), exec_rdTmo_addressed hs addr cnt fix, rfl,
    s.dev.statusByte_rdy _, ?_, ?_, rfl, congrArg (fun e => { s with dev := e }) (s.dev.failed_rest _ _), ?_⟩
  · exact s.dev.failed_is _ (by decide) rfl (by decide)
  · exact s.dev.failed_get_fails _ (by decide)
  · exact s.dev.fieldsKept_failed _ (by decide)

end Sys2Proof.Machine
end

section
/-! Cancelling by handle (R371, R381, R382) and the entry window (R383). -/

namespace Sys2Proof.Machine

/-! What a cancel does, by the state of the entry that its handle names -/

/-- A served write to OPT_CPL_CANCEL runs the cancel, which reaches only the device. -/
theorem exec_optCplCancel {s : State} (hserves : s.dev.servesTable = true) (h : BitVec 16) :
    exec (.optCplCancel h) s = .next { s with dev := s.dev.cancel h.toNat } := by
  show execOptCplCancel h s = _
  rw [execOptCplCancel, State.act_eq, if_pos hserves]

theorem Dev.get_lastCancel (d : Dev) {n : Nat} (hn : n < 4) :
    (d.put F.OPT_STAT_LAST_CANCEL 0 n).get F.OPT_STAT_LAST_CANCEL 0 = n :=
  (d.get_put_eq _ _ _ (by decide)).trans (Nat.mod_eq_of_lt hn)

theorem Dev.fieldsKept_lastCancel {d e : Dev} (n : Nat) (hregs : e.regs = d.regs) :
    d.fieldsKept (e.put F.OPT_STAT_LAST_CANCEL 0 n) [(F.OPT_STAT_LAST_CANCEL, 0)] [] :=
  Dev.fieldsKept_put _ 0 n (by decide) (List.mem_singleton.2 rfl) (Dev.fieldsKept_congr hregs (d.fieldsKept_refl _ _))

theorem Dev.complete_port (d : Dev) (k r : Nat) (x : Word) : (d.complete k r x).port = d.port := by
  rw [Dev.complete_rest]

theorem Dev.complete_regs (d : Dev) (k r : Nat) (x : Word) : (d.complete k r x).regs = d.regs := by
  rw [Dev.complete_rest]

/-- A handle is stale when its slot is FREE or in another use (R371). -/
theorem Dev.cancel_stale {d : Dev} {h : Nat} (hstale : ∀ e, d.entry (h % 1024) = some e → e.handle ≠ h) :
    d.cancel h = (d.put F.OPT_STAT_LAST_CANCEL 0 3).refuse := by
  cases he : d.entry (h % 1024) with
  | none => simp only [Dev.cancel, he]
  | some e => simp only [Dev.cancel, he, if_pos (hstale e he)]

section named
variable {d : Dev} {h : Nat} {e : OpEntry} (he : d.entry (h % 1024) = some e) (hh : e.handle = h)
include he hh

theorem Dev.cancel_waiting (hst : e.state = .queued ∨ e.state = .held) :
    d.cancel h = (d.complete (h % 1024) 2 0).put F.OPT_STAT_LAST_CANCEL 0 1 := by
  have hne : ¬ e.handle ≠ h := not_not.2 hh
  rcases hst with hst | hst <;> simp only [Dev.cancel, he, hne, hst, if_false]

theorem Dev.cancel_done (hst : e.state = .done) : d.cancel h = d.put F.OPT_STAT_LAST_CANCEL 0 2 := by
  have hne : ¬ e.handle ≠ h := not_not.2 hh
  simp only [Dev.cancel, he, hne, hst, if_false]

end named

/-! The addresses of the entry window -/

theorem RegRow.covers_iff (r : RegRow) (off : Nat) :
    r.covers off = true ↔ r.off ≤ off ∧ (off - r.off) % r.stride = 0 ∧ (off - r.off) / r.stride < r.count := by
  simp only [RegRow.covers, Bool.and_eq_true, decide_eq_true_eq, and_assoc]

/-- A row's registers lie from its offset to the end of its last stride. -/
theorem RegRow.covers_bounds {r : RegRow} {off : Nat} (hpos : 0 < r.stride) (h : r.covers off = true) :
    r.off ≤ off ∧ off < r.off + r.count * r.stride := by
  obtain ⟨hle, -, hlt⟩ := (r.covers_iff off).1 h
  have := (Nat.div_lt_iff_lt_mul hpos).1 hlt
  omega

/-- A search finds the one element that satisfies its test. -/
theorem find?_eq_some_of_unique {α : Type} {l : List α} {p : α → Bool} {x : α} (hx : x ∈ l) (hp : p x = true)
    (huniq : ∀ y ∈ l, p y = true → y = x) : l.find? p = some x := by
  obtain ⟨y, hy⟩ := Option.isSome_iff_exists.1 (List.find?_isSome.2 ⟨x, hx, hp⟩)
  rw [hy, huniq y (List.mem_of_find?_eq_some hy) (List.find?_some hy)]

/-- The table's row of the entry window: 4,096 words that software can only read (R383). -/
def entryRow : RegRow := ⟨0x44000, 4096, 4, [⟨31, 0, .ro, 0⟩]⟩

/-- An address that holds a word of the entry window. -/
def IsEntryWord (a : Nat) : Prop := 0x44000 ≤ a ∧ a < 0x48000 ∧ a % 4 = 0

/-- Word j of the entry of a slot, as an address. -/
def entryAddr (slot : Fin 1024) (j : Nat) : Nat := 0x44000 + 16 * slot.val + 4 * j

theorem isEntryWord_entryAddr (slot : Fin 1024) {j : Nat} (hj : j < 4) : IsEntryWord (entryAddr slot j) := by
  unfold IsEntryWord entryAddr
  omega

theorem burst_entryAddr (slot : Fin 1024) :
    burst (entryAddr slot 0) 4 = [entryAddr slot 0, entryAddr slot 1, entryAddr slot 2, entryAddr slot 3] := rfl

section entryWord
variable {a : Nat} (h : IsEntryWord a)
include h

theorem locate_entryWord : locate a = some (.hub, 0, a) := by
  obtain ⟨-, hlt, -⟩ := h
  exact if_pos (by omega)

/-- No other register of the hub lies in the window. -/
theorem regAt_entryWord : regAt a = some entryRow := by
  have hother : ∀ r ∈ hubRows, r ≠ entryRow → 0 < r.stride ∧ (r.off + r.count * r.stride ≤ 0x44000 ∨ 0x48000 ≤ r.off) := by
    decide
  obtain ⟨hle, hlt, h4⟩ := h
  rw [regAt, if_pos h4, locate_entryWord ⟨hle, hlt, h4⟩, Option.bind_some]
  show hubRows.find? (fun r => r.covers a) = some entryRow
  refine find?_eq_some_of_unique (by decide) ((entryRow.covers_iff a).2 ?_) fun r hr hc => ?_
  · show 0x44000 ≤ a ∧ (a - 0x44000) % 4 = 0 ∧ (a - 0x44000) / 4 < 4096
    omega
  · by_contra hne
    obtain ⟨hpos, hout⟩ := hother r hr hne
    have := RegRow.covers_bounds hpos hc
    omega

theorem gateOf_entryWord : gateOf a = none := by
  obtain ⟨hle, hlt, -⟩ := h
  unfold gateOf
  rw [if_neg (by omega), if_neg (by omega), if_neg (by omega)]

/-- The window answers whenever the hub serves the operation table: none of its words needs a gated block (R406, R526). -/
theorem Dev.offAt_entryWord {d : Dev} (hserves : d.servesTable = true) : d.offAt a = false := by
  simp [Dev.offAt, Dev.portOpen, hserves, locate_entryWord h, gateOf_entryWord h]

theorem Dev.tstAt_entryWord (d : Dev) : d.tstAt a = false := by
  simp [Dev.tstAt, locate_entryWord h, Dev.tst]

theorem entryWord_ne_completion : a ≠ 0x40018 := by
  obtain ⟨hle, -⟩ := h
  omega

theorem rsvMask_entryWord : rsvMask a = 0 := by
  simp [rsvMask, regAt_entryWord h, RegRow.mask_readOnly (r := entryRow) rfl]

theorem Dev.poisonRead_entryWord (d : Dev) : d.poisonRead a = d := by
  obtain ⟨hle, hlt, h4⟩ := h
  simp only [Dev.poisonRead, locate_entryWord ⟨hle, hlt, h4⟩]
  exact if_neg (by omega)

/-- What a burst sees of a read of the window, before its commit and at it, is the latching alone (R321). -/
theorem Dev.gatherStep_entryWord {d : Dev} (hserves : d.servesTable = true) : d.gatherStep a = d.latch a := by
  simp [Dev.gatherStep, regAt_entryWord h, Dev.offAt_entryWord h hserves, Dev.tstAt_entryWord h,
    entryWord_ne_completion h]

theorem Dev.commitBurst_entryWord {d : Dev} (hserves : d.servesTable = true) : d.commitBurst a = d.latch a := by
  have hrc : entryRow.mask .rc = 0 := RegRow.mask_readOnly rfl (by decide)
  have hin : ¬ 0xFFFFFC < a := by
    obtain ⟨-, hlt, -⟩ := h
    omega
  simp [Dev.commitBurst, hin, Dev.commitRead, regAt_entryWord h, Dev.offAt_entryWord h hserves, Dev.tstAt_entryWord h,
    entryWord_ne_completion h, Dev.openGate, gateOf_entryWord h, Dev.poisonRead_entryWord h, hrc]

end entryWord

/-! Reading an entry: word 0 latches the others -/

@[simp] theorem Dev.servesTable_latch (d : Dev) (a : Nat) : (d.latch a).servesTable = d.servesTable := by
  unfold Dev.latch
  split <;> rfl

/-- A readable word, no bit of which is reserved or write-only, is returned as it is shown (R16). -/
theorem unmasked_word (x v : Word) : (x ||| (v &&& 0)) &&& ~~~ 0 = x := by
  show (x ||| (v &&& 0#32)) &&& ~~~ 0#32 = x
  rw [BitVec.and_zero, BitVec.or_zero, BitVec.not_zero, BitVec.and_allOnes]

section entryRead
variable (d : Dev) (k : Keep) (slot : Fin 1024)

theorem shadowOf_entryHead : shadowOf (entryAddr slot 0) = none := by
  unfold shadowOf
  rw [locate_entryWord (isEntryWord_entryAddr slot (by decide))]
  unfold entryAddr
  iterate 4 rw [if_neg (by omega)]

theorem shadowOf_entryTail {j : Nat} (h0 : 0 < j) (hj : j < 4) : shadowOf (entryAddr slot j) = some (0x44000, j - 1) := by
  have hplace : (0x44000 + 16 * slot.val + 4 * j) % 16 / 4 - 1 = j - 1 := by omega
  unfold shadowOf entryAddr
  rw [if_neg (by omega), if_neg (by omega), if_neg (by omega), if_pos (by omega), hplace]

/-- A read of word 0 latches words 1 to 3 into the window's one shadow (R383). -/
theorem Dev.latch_entryHead :
    d.latch (entryAddr slot 0) = { d with shadows := d.shadows.insert 0x44000 (d.entryWords slot).tail } := by
  have hslot : (0x44000 + 16 * slot.val + 4 * 0 - 0x44000) / 16 = slot.val := by omega
  unfold Dev.latch Dev.latched entryAddr
  rw [if_neg (by omega), if_neg (by omega), if_neg (by omega), if_pos (by omega), hslot]

theorem Dev.latch_entryTail {j : Nat} (h0 : 0 < j) (hj : j < 4) : d.latch (entryAddr slot j) = d := by
  unfold Dev.latch Dev.latched
  rw [locate_entryWord (isEntryWord_entryAddr slot hj)]
  unfold entryAddr
  iterate 4 rw [if_neg (by omega)]

theorem Dev.hubView_entryHead : d.hubView k (entryAddr slot 0) = ((d.entryWords slot).head?).getD 0 := by
  have hslot : (0x44000 + 16 * slot.val + 4 * 0 - 0x44000) / 16 = slot.val := by omega
  unfold Dev.hubView entryAddr
  iterate 9 rw [if_neg (by omega)]
  rw [if_pos (by omega), hslot]

variable {d} (hserves : d.servesTable = true)
include hserves

theorem Dev.readWord_entryHead : d.readWord k (entryAddr slot 0) = ((d.entryWords slot).head?).getD 0 := by
  have h := isEntryWord_entryAddr slot (j := 0) (by decide)
  have hwo : entryRow.mask .wo = 0 := RegRow.mask_readOnly rfl (by decide)
  simp only [Dev.readWord, regAt_entryWord h, Dev.offAt_entryWord h hserves, Dev.tstAt_entryWord h, Bool.or_self,
    Bool.false_eq_true, if_false, shadowOf_entryHead, locate_entryWord h, Dev.hubView_entryHead, rsvMask_entryWord h, hwo,
    unmasked_word]

theorem Dev.readWord_entryTail {j : Nat} (h0 : 0 < j) (hj : j < 4) :
    d.readWord k (entryAddr slot j) = (((d.shadows.find 0x44000).getD [])[j - 1]?).getD 0 := by
  have h := isEntryWord_entryAddr slot hj
  simp only [Dev.readWord, regAt_entryWord h, Dev.offAt_entryWord h hserves, Dev.tstAt_entryWord h, Bool.or_self,
    Bool.false_eq_true, if_false, shadowOf_entryTail slot h0 hj]

/-- Words 1 to 3 are gathered from the shadow. -/
theorem Dev.gather_entryTail {w1 w2 w3 : Word} (hsh : d.shadows.find 0x44000 = some [w1, w2, w3]) :
    d.gather k [entryAddr slot 1, entryAddr slot 2, entryAddr slot 3] = [w1, w2, w3] := by
  have hread (j : Nat) (h0 : 0 < j) (hj : j < 4) : d.readWord k (entryAddr slot j) = ([w1, w2, w3][j - 1]?).getD 0 := by
    rw [Dev.readWord_entryTail k slot hserves h0 hj, hsh, Option.getD_some]
  have hstep (j : Nat) (h0 : 0 < j) (hj : j < 4) : d.gatherStep (entryAddr slot j) = d := by
    rw [Dev.gatherStep_entryWord (isEntryWord_entryAddr slot hj) hserves, d.latch_entryTail slot h0 hj]
  simp [Dev.gather, hread, hstep]

/-- Four words from word 0 are gathered as one consistent entry (R383). -/
theorem Dev.gather_entry : d.gather k (burst (entryAddr slot 0) 4) = d.entryWords slot := by
  obtain ⟨w0, w1, w2, w3, hw⟩ : ∃ w0 w1 w2 w3, d.entryWords slot = [w0, w1, w2, w3] := by
    unfold Dev.entryWords
    split <;> exact ⟨_, _, _, _, rfl⟩
  have hshadow : (d.latch (entryAddr slot 0)).shadows.find 0x44000 = some [w1, w2, w3] := by
    rw [d.latch_entryHead slot, hw]
    exact NMap.find_insert_self _ _ _
  rw [burst_entryAddr, Dev.gather, Dev.gatherStep_entryWord (isEntryWord_entryAddr slot (by decide)) hserves,
    Dev.gather_entryTail k slot (by rwa [Dev.servesTable_latch]) hshadow, Dev.readWord_entryHead k slot hserves, hw]
  rfl

/-- The commit of those four reads leaves the shadow latched and nothing else. -/
theorem Dev.commitReads_entry : d.commitReads (burst (entryAddr slot 0) 4) = d.latch (entryAddr slot 0) := by
  have hserves' : (d.latch (entryAddr slot 0)).servesTable = true := by rwa [Dev.servesTable_latch]
  have hassigned (j : Nat) (hj : j < 4) : regAt (entryAddr slot j) = some entryRow :=
    regAt_entryWord (isEntryWord_entryAddr slot hj)
  have hhead := Dev.commitBurst_entryWord (isEntryWord_entryAddr slot (j := 0) (by decide)) hserves
  have htail (j : Nat) (h0 : 0 < j) (hj : j < 4) :
      (d.latch (entryAddr slot 0)).commitBurst (entryAddr slot j) = d.latch (entryAddr slot 0) := by
    rw [Dev.commitBurst_entryWord (isEntryWord_entryAddr slot hj) hserves', Dev.latch_entryTail _ slot h0 hj]
  simp [Dev.commitReads, burst_entryAddr, hassigned, hhead, htail]

end entryRead

/-! The window as it answers a burst read -/

theorem exec_readInc_addressed {s : State} {pkg : Fin 8} (h : Claims.addressed s.dev pkg) (addr : BitVec 24)
    (cnt : Fin 64) :
    exec (.readInc pkg addr cnt .wellFormed) s =
      .next { s with
        dev := (s.dev.answered s.keep (burst addr.toNat (cnt.val + 1)) true).commitReads
          (burst addr.toNat (cnt.val + 1)) } := by
  show execReadInc pkg addr cnt .wellFormed s = _
  rw [execReadInc, State.actK_eq, Dev.transaction_addressed h]

/-- A READ_INC of the four words of an entry answers with the entry as the table holds it, and leaves the table and the
registers. -/
theorem exec_readInc_entry {s : State} {pkg : Fin 8} (hs : Claims.addressed s.dev pkg)
    (hserves : s.dev.servesTable = true) (slot : Fin 1024) :
    ∃ t b, exec (.readInc pkg (BitVec.ofNat 24 (0x44000 + 16 * slot.val)) 3 .wellFormed) s = .next t ∧
      t.dev.port.resp = some (b :: (s.dev.entryWords slot).flatMap (fun w => leBytes w.toNat 4)) ∧
      t.dev.regs = s.dev.regs ∧ t.dev.opt = s.dev.opt := by
  have haddr : (BitVec.ofNat 24 (0x44000 + 16 * slot.val)).toNat = entryAddr slot 0 := by
    rw [BitVec.toNat_ofNat, entryAddr]
    omega
  have hexec := exec_readInc_addressed hs (BitVec.ofNat 24 (0x44000 + 16 * slot.val)) 3
  rw [haddr, show (3 : Fin 64).val + 1 = 4 from rfl] at hexec
  have hcommit := Dev.commitReads_entry slot
    (d := s.dev.answered s.keep (burst (entryAddr slot 0) 4) true) hserves
  rw [hcommit, Dev.latch_entryHead] at hexec
  refine ⟨_, s.dev.statusByte (burst (entryAddr slot 0) 4), hexec, ?_, rfl, rfl⟩
  show some (s.dev.response s.keep (burst (entryAddr slot 0) 4) true) = _
  rw [Dev.response, if_pos rfl, Dev.gather_entry s.keep slot hserves]

/-! What the words of an entry show -/

theorem Dev.entryWords_free {d : Dev} {slot : Nat} (he : d.entry slot = none) : d.entryWords slot = [0, 0, 0, 0] := by
  simp only [Dev.entryWords, he]

/-- An entry that runs shows no RESULT and no DETAIL yet, and the milliseconds since its start (R383). -/
theorem Dev.entryWords_running {d : Dev} {slot n : Nat} {e : OpEntry} (he : d.entry slot = some e)
    (hst : e.state = .running) (hstart : e.startedAt = some n) :
    d.entryWords slot =
      [BitVec.ofNat 32 (e.handle * 2 ^ 16 + opStateCode .running * 2 ^ 12 + e.opcode), e.posted,
        BitVec.ofNat 32 (e.progress * 2 ^ 24 + e.stepNo * 2 ^ 16 + min 0xFFFF ((d.time - n) / 390625)), 0] := by
  simp [Dev.entryWords, he, hst, Dev.elapsedOf, hstart]

/-- Settles O49: a cancel acts by the state of the entry that its handle names, and the window shows the table's words. -/
theorem handlesCancel : Obligations.HandlesCancel := by
  refine ⟨fun s h hserves hstale => ?_, fun s pkg slot hs hserves he => ?_,
    fun s pkg slot e n hs hserves he hst hstart => ?_, fun s h e hserves he hh => ⟨fun hst => ?_, fun hst => ?_⟩⟩
  · refine ⟨_, exec_optCplCancel hserves h, ?_⟩
    rw [Dev.cancel_stale hstale]
    exact ⟨rfl, rfl, s.dev.get_lastCancel (by decide), Dev.fieldsKept_lastCancel 3 rfl⟩
  · obtain ⟨t, b, hexec, hresp, hregs, hopt⟩ := exec_readInc_entry hs hserves slot
    rw [Dev.entryWords_free he] at hresp
    exact ⟨t, b, hexec, hresp, hregs, hopt⟩
  · obtain ⟨t, b, hexec, hresp, -, hopt⟩ := exec_readInc_entry hs hserves slot
    rw [Dev.entryWords_running he hst hstart] at hresp
    exact ⟨t, b, hexec, hresp, hopt⟩
  · have hopen : e.state ≠ .done := by rcases hst with hst | hst <;> simp [hst]
    obtain ⟨⟨e', he', hdone, hresult, -⟩, hcpl, hothers⟩ := s.dev.complete_entry (h.toNat % 1024) 2 0 e he hopen
    refine ⟨_, exec_optCplCancel hserves h, ?_⟩
    rw [Dev.cancel_waiting he hh hst]
    exact ⟨⟨⟨e', he', hdone, hresult⟩, hcpl, hothers⟩, Dev.get_lastCancel _ (by decide), s.dev.complete_port _ _ _, rfl,
      Dev.fieldsKept_lastCancel 1 (s.dev.complete_regs _ _ _)⟩
  · refine ⟨_, exec_optCplCancel hserves h, ?_⟩
    rw [Dev.cancel_done he hh hst]
    exact ⟨s.dev.get_lastCancel (by decide), rfl, Dev.fieldsKept_lastCancel 2 rfl⟩

end Sys2Proof.Machine
end
